-- ==== Sys2Proof/Word.lean ====
section
/-!
DEFINITION. The word types of the NV3-Y64 model.
-/
namespace Sys2Proof

/-- One byte, as every wire and every memory of the module holds it. -/
abbrev Byte := BitVec 8

end Sys2Proof
end

