-- ==== Sys2Proof/Machine/Sparse.lean ====
section
/-!
DEFINITION. Sparse maps from Nat keys, in ONE canonical form (keys strictly rising, no entry equal to the default), and
fixed-length lists read and written by number. Memory, parameters, counters and records of the module are kept in them.
-/
namespace Sys2Proof.Machine

/-- The value at key `k`; an unlisted key has the default `d`. -/
def spGet {α : Type} (d : α) (k : Nat) : List (Nat × α) → α
  | [] => d
  | (k', v) :: rest => if k' = k then v else if k < k' then d else spGet d k rest

/-- The map with `v` at key `k`; writing the default removes the entry. -/
def spSet {α : Type} [DecidableEq α] (d : α) (k : Nat) (v : α) : List (Nat × α) → List (Nat × α)
  | [] => if v = d then [] else [(k, v)]
  | (k', v') :: rest =>
    if k' = k then (if v = d then rest else (k, v) :: rest)
    else if k < k' then (if v = d then (k', v') :: rest else (k, v) :: (k', v') :: rest)
    else (k', v') :: spSet d k v rest

/-- The value at `k` changed by `f`. -/
def spMod {α : Type} [DecidableEq α] (d : α) (k : Nat) (f : α → α) (l : List (Nat × α)) : List (Nat × α) :=
  spSet d k (f (spGet d k l)) l

/-- Canonical form above a lower bound: every key at least `lo`, keys strictly rising, no default listed. -/
def spWfFrom {α : Type} [DecidableEq α] (d : α) : Nat → List (Nat × α) → Bool
  | _, [] => true
  | lo, (k, v) :: rest => decide (lo ≤ k) && decide (v ≠ d) && spWfFrom d (k + 1) rest

/-- Canonical form of a sparse map. -/
def spWf {α : Type} [DecidableEq α] (d : α) (l : List (Nat × α)) : Bool := spWfFrom d 0 l

/-- Member `i` of a list of like things, `d` beyond its end. -/
def nth {α : Type} (d : α) (i : Nat) (l : List α) : α := l.getD i d

/-- The list with member `i` changed by `f`. -/
def modNth {α : Type} (i : Nat) (f : α → α) : List α → List α
  | [] => []
  | x :: xs => match i with
    | 0 => f x :: xs
    | i + 1 => x :: modNth i f xs

/-- The list with member `i` replaced. -/
def setNth {α : Type} (i : Nat) (v : α) (l : List α) : List α := modNth i (fun _ => v) l

/-- Numbers `a, a+1, …` of the members that satisfy `p`, in rising order. -/
def indicesFrom {α : Type} (p : α → Bool) : Nat → List α → List Nat
  | _, [] => []
  | a, x :: xs => if p x then a :: indicesFrom p (a + 1) xs else indicesFrom p (a + 1) xs

/-- Numbers of the members that satisfy `p`. -/
def indices {α : Type} (p : α → Bool) (l : List α) : List Nat := indicesFrom p 0 l

/-- Numbers `lo, …, lo + n - 1` in rising order. -/
def rangeFrom (lo : Nat) : Nat → List Nat
  | 0 => []
  | n + 1 => lo :: rangeFrom (lo + 1) n

/-- Keep the newest `n` members of a queue held oldest first. -/
def lastN {α : Type} (n : Nat) (l : List α) : List α := l.drop (l.length - n)

end Sys2Proof.Machine
end

