-- ==== Sys2Proof/Machine/DataCore.lean ====
section
/-!
DEFINITION. Data types of 01_module_architecture.md and 02_frame_and_vital_cycle.md: modes, events, firewall, long operations,
the tick and the vital cycle.
-/
namespace Sys2Proof.Machine

/-- The six modes of 01_module_architecture.md, "Modes". -/
inductive Mode where
  | boot | recovery | configure | standby | run | safe
  deriving DecidableEq, Repr

/-- Mode code of 0x2000:01 (R45). -/
def Mode.code : Mode → Nat
  | .boot => 1 | .recovery => 2 | .configure => 3 | .standby => 4 | .run => 5 | .safe => 6

/-- The three lanes (R18). -/
inductive LaneId where
  | a | b | c
  deriving DecidableEq, Repr

/-- Lane A, B, C as 0, 1, 2. -/
def LaneId.num : LaneId → Nat
  | .a => 0 | .b => 1 | .c => 2

/-- The three lanes in letter order. -/
def laneIds : List LaneId := [.a, .b, .c]

/-- One thing for each lane. -/
structure Tri (α : Type) where
  a : α
  b : α
  c : α
  deriving DecidableEq, Repr

/-- The member of one lane. -/
def Tri.get {α : Type} (t : Tri α) : LaneId → α
  | .a => t.a | .b => t.b | .c => t.c

/-- The member of one lane changed by `f`. -/
def Tri.mod {α : Type} (l : LaneId) (f : α → α) (t : Tri α) : Tri α :=
  match l with
  | .a => { t with a := f t.a } | .b => { t with b := f t.b } | .c => { t with c := f t.c }

/-- All three members changed, each with its lane. -/
def Tri.mapWith {α β : Type} (f : LaneId → α → β) (t : Tri α) : Tri β :=
  { a := f .a t.a, b := f .b t.b, c := f .c t.c }

/-- How many members satisfy `p`. -/
def Tri.count {α : Type} (p : α → Bool) (t : Tri α) : Nat :=
  (if p t.a then 1 else 0) + (if p t.b then 1 else 0) + (if p t.c then 1 else 0)

/-- The same thing for each lane. -/
def Tri.all3 {α : Type} (x : α) : Tri α := { a := x, b := x, c := x }

/-- The five carriers of R525, numbered as the bits of R541. -/
inductive Carrier where
  | eth0 | eth1 | efavo | can | console
  deriving DecidableEq, Repr

/-- Bit number of R541. -/
def Carrier.num : Carrier → Nat
  | .eth0 => 0 | .eth1 => 1 | .efavo => 2 | .can => 3 | .console => 4

/-- The kind of a restart (R115, R634). -/
inductive RestartKind where
  | warm | cold | recovery
  deriving DecidableEq, Repr

/-- Ordering code of R2. -/
inductive OrderCode where
  | wayside | rolling | development
  deriving DecidableEq, Repr

/-- What a module is from manufacture on: ordering code (R2), serial number and unique ID. -/
structure Ident where
  order : OrderCode := .wayside
  serial : List (BitVec 8) := []
  hwRev : Nat := 0
  uniqueId : Nat := 0
  deriving DecidableEq, Repr

/-- Development key set of R2: ordering code D only. -/
def Ident.development (i : Ident) : Bool := i.order == .development

/-- The event block EVT (R66 to R69, R666) and the pending bitmap of R111. -/
structure Evt where
  flags : BitVec 256 := 0
  masks : BitVec 256 := BitVec.allOnes 256
  counts : List (Nat × Nat) := []
  lastTick : List (Nat × Nat) := []
  thisTick : BitVec 256 := 0
  working : BitVec 256 := 0
  frozen : BitVec 256 := 0
  deriving DecidableEq, Repr

/-- A firewall window (R31): page number of the base, pages, attributes. -/
structure Window where
  base : Nat
  pages : Nat
  p : Bool
  x : Bool
  w : Bool
  r : Bool
  deriving DecidableEq, Repr

/-- The firewall block FWL (R31 to R42). `app` and `runtime` are keyed by master ID. -/
structure Firewall where
  lock : Bool := false
  frozen : List Nat := []
  vValid : Bool := false
  vMaster : Nat := 0
  vCause : Nat := 0
  vAddr : Nat := 0
  app : List (Nat × List Window) := []
  runtime : List (Nat × List Window) := []
  nullWrites : Nat := 0
  deriving DecidableEq, Repr

/-- States of a long operation (R60). -/
inductive LopState where
  | idle | running | suspended | done | cancelled | failed
  deriving DecidableEq, Repr

/-- Code of the :02 subindex (R60). -/
def LopState.code : LopState → Nat
  | .idle => 0 | .running => 1 | .suspended => 2 | .done => 3 | .cancelled => 4 | .failed => 5

/-- One long operation (R60): state, progress, total, result and the tick at which it was suspended. -/
structure LongOp where
  state : LopState := .idle
  progress : Nat := 0
  total : Nat := 0
  result : Nat := 0
  suspendedAt : Nat := 0
  deriving DecidableEq, Repr

/-- The four long operations. -/
structure LongOps where
  tableLoad : LongOp := {}
  checkpoint : LongOp := {}
  logExport : LongOp := {}
  download : LongOp := {}
  deriving DecidableEq, Repr

/-- Mode and restart state. -/
structure Sys where
  mode : Mode := .boot
  safeCause : Nat := 0
  bootStatus : Nat := 0
  safePend : Option Nat := none
  toConfigure : Bool := false
  toStandby : Bool := false
  restartReq : Option RestartKind := none
  bootKind : RestartKind := .cold
  restartTick : Nat := 0
  lastRestart : Nat := 0
  fallBack : Nat := 0
  deriving DecidableEq, Repr

/-- Time references of 0x2050:02. -/
inductive TimeRef where
  | own | efavo | station
  deriving DecidableEq, Repr

/-- Code of 0x2050:02. -/
def TimeRef.code : TimeRef → Nat
  | .own => 0 | .efavo => 1 | .station => 2

/-- The context block of 02_frame_and_vital_cycle.md, but for EVENTS, which is `Evt.frozen`. -/
structure Context where
  tick : Nat := 0
  cycle : Nat := 0
  flags : Nat := 0
  mode : Nat := 0
  deriving DecidableEq, Repr

/-- The tick, the vital cycle and the overrun (R70 to R93). -/
structure Frame where
  tick : Nat := 0
  tickLenNs : Nat := 250000
  offsetNs : Int := 0
  refOrder : Nat := 1
  ref : TimeRef := .own
  holdover : Bool := false
  k : Nat := 40
  cycle : Nat := 0
  firstTick : Nat := 0
  lastTick : Nat := 0
  cycleOpen : Bool := false
  overrun : Nat := 0
  overruns : List Nat := []
  longestOverrun : Nat := 0
  longestVitalNs : Nat := 0
  longestFastNs : Nat := 0
  fastOk : Bool := false
  vitalOk : Bool := false
  vitalDue : Bool := false
  passDue : Bool := false
  committed : Bool := false
  ctxPend : Nat := 0
  ctx : Context := {}
  deriving DecidableEq, Repr

end Sys2Proof.Machine
end

