-- ==== Sys2Proof/Machine/DataEfavo.lean ====
section
/-!
DEFINITION. Data types of 08_efavo_link.md: frames, the schedule table, ports, the link clock, inauguration, streams and queues.
-/
namespace Sys2Proof.Machine

/-- A slot entry of a schedule table (R399). -/
structure SlotDef where
  mode : Nat
  kind : Nat
  owner : Nat
  start : Nat
  length : Nat
  respoff : Nat
  stream : Nat
  size : Nat
  deriving DecidableEq, Repr

/-- A stream entry of a schedule table (R399). -/
structure StreamDef where
  stream : Nat
  source : Nat
  cls : Nat
  timeout : Nat
  plen : Nat
  connkey : Nat
  deriving DecidableEq, Repr

/-- A schedule table (R399): SCHEDID, LINKPARAM, SLOTS, STREAMS. -/
structure Schedule where
  version : Nat
  crc : Nat
  segment : Nat
  modes : Nat
  lcyc : List Nat
  guard : Nat
  accept : Nat
  slots : List SlotDef
  streams : List StreamDef
  deriving DecidableEq, Repr

/-- A node's TOPO_RESP (R418 step 5); `hopA` and `hopB` are its stored hop delays towards the master on each line. -/
structure TopoReport where
  uniqueId : Nat
  line : Nat
  side : Nat
  hops : Nat
  residence : Nat
  functions : List Nat
  counter : Nat
  schedCrc : Nat
  hopA : Nat := 0
  hopB : Nat := 0
  deriving DecidableEq, Repr

/-- A numbered node of a topology (R420). -/
structure TopoNode where
  uniqueId : Nat
  number : Nat
  position : Nat
  residence : Nat
  functions : List Nat
  hopA : Nat
  hopB : Nat
  deriving DecidableEq, Repr

/-- A published topology (R420). -/
structure Topology where
  counter : Nat
  segment : Nat
  masterKey : Nat
  nodes : List TopoNode
  deriving DecidableEq, Repr

/-- The payload of an Efavo frame. 08_efavo_link.md lays out the bytes of CYCLE, RESPONSE and MESSAGE; of the others it gives the
content. -/
inductive EfBody where
  | bytes (bs : List (BitVec 8))
  | delayReq
  | delayResp (t2 t3 : Nat)
  | claim (key : Nat)
  | topoReq (side hops : Nat)
  | topoResp (r : TopoReport)
  | topo (t : Topology)
  deriving DecidableEq, Repr

/-- An Efavo frame (R386, R387). -/
structure EfFrame where
  version : Nat := 1
  typ : Nat
  flags : Nat := 0
  dst : Nat := 0
  src : Nat := 0
  slot : Nat := 0xFFFF
  cycle : Nat := 0
  topo : Nat := 0
  len : Nat := 0
  corr : Nat := 0
  body : EfBody
  deriving DecidableEq, Repr

/-- A frame as a port receives it: whether its FCS holds, whether LEN fits the frame, and the instant of its delimiter in ns after
the last input latch, by the module's own link clock; `resid` is the measured time until the module forwards or answers it. -/
structure EfRx where
  port : Nat
  rel : Nat
  resid : Nat := 0
  fcsOk : Bool
  lenOk : Bool
  frame : EfFrame
  deriving DecidableEq, Repr

/-- A frame as the module originates it, with the ports that send it. -/
structure EfTx where
  ports : List Nat
  frame : EfFrame
  deriving DecidableEq, Repr

/-- Lock states of R396. -/
inductive LockState where
  | unlocked | locking | locked | silent
  deriving DecidableEq, Repr

/-- Code of 0x7000:06. -/
def LockState.code : LockState → Nat
  | .unlocked => 0 | .locking => 1 | .locked => 2 | .silent => 3

/-- One port. `crcRetry` and `slotRetry` hold the link cycle and the tick of a fault whose retry is pending; `sentAt` the local time of a
DELAY_REQ that has no answer; `candidate` the measurement that waits for a second one (R393). -/
structure EfPort where
  up : Bool := false
  retired : Bool := false
  crcErrors : Nat := 0
  slotErrors : Nat := 0
  topoErrors : Nat := 0
  delay : Nat := 0
  candidate : Option Nat := none
  sentAt : Option Nat := none
  faults : List Nat := []
  crcRetry : Option (Nat × Nat) := none
  slotRetry : Option (Nat × Nat) := none
  phyMaster : Bool := false
  bufRetired : Nat := 0
  deriving DecidableEq, Repr

/-- States of a schedule-mode switch (EFL.MODE.SWST). -/
inductive SwitchState where
  | none | announced | confirmed | abandoned
  deriving DecidableEq, Repr

/-- Code of SWST. -/
def SwitchState.code : SwitchState → Nat
  | .none => 0 | .announced => 1 | .confirmed => 2 | .abandoned => 3

/-- A candidate's part in an inauguration (R418, R419). -/
inductive ClaimPhase where
  | none | waiting | window | backoff | withdrawn | collecting
  deriving DecidableEq, Repr

/-- A receive slot of 0x7100+s (R429, R430). -/
structure RxStream where
  stream : Nat
  accepted : Bool := false
  session : Nat := 0
  seq : Nat := 0
  stamp : Nat := 0
  payload : List (BitVec 8) := []
  fresh : Bool := false
  countOk : Nat := 0
  gaps : Nat := 0
  codeFails : Nat := 0
  stales : Nat := 0
  deriving DecidableEq, Repr

/-- A transmit stream (R426, R427): session, base cycle, and the payload copied at the last output commit with its stamp. -/
structure TxStream where
  stream : Nat
  session : Nat := 0
  base : Nat := 0
  payload : List (BitVec 8) := []
  stamp : Nat := 0
  deriving DecidableEq, Repr

/-- A non-vital frame in a queue (R431). -/
structure NvFrame where
  prio : Nat
  source : Nat
  data : List (BitVec 8)
  dst : Nat
  deriving DecidableEq, Repr

/-- The Efavo link. -/
structure Efl where
  ports : List EfPort := List.replicate 4 {}
  sched : Option Schedule := none
  linkNs : Nat := 0
  slewNs : Int := 0
  lock : LockState := .unlocked
  goodRun : Nat := 0
  offset : Int := 0
  lockRetry : Option (Nat × Nat) := none
  cycleNo : Nat := 0
  cycleStart : Nat := 0
  lastGood : Nat := 0
  seenCycle : Nat := 0
  latchCycle : Nat := 0
  latchTick : Nat := 0
  address : Nat := 0
  position : Nat := 0
  topo : Option Topology := none
  topoCounter : Nat := 0
  master : Bool := false
  masterKey : Nat := 0
  schedMismatch : Bool := false
  mode : Nat := 0
  swState : SwitchState := .none
  swTarget : Nat := 0
  swCycle : Nat := 0
  swAcks : List Nat := []
  swAcked : Bool := false
  swMute : Bool := false
  swOutcome : Nat := 0
  inaug : Bool := false
  phase : ClaimPhase := .none
  lowest : Option Nat := none
  backoffs : Nat := 0
  phaseEnd : Nat := 0
  hopsA : Option (Nat × Nat) := none
  hopsB : Option (Nat × Nat) := none
  reports : List TopoReport := []
  polled : List Nat := []
  seenFrames : List (Nat × Nat × Nat) := []
  rx : List RxStream := []
  tx : List TxStream := []
  stored : List (Nat × Nat) := []
  ingress : List NvFrame := []
  latched : List NvFrame := []
  egress : List NvFrame := []
  delivered : List (Nat × Nat) := []
  dropped : Nat := 0
  overload : Bool := false
  lastDrop : Nat := 0
  deriving DecidableEq, Repr

end Sys2Proof.Machine
end

