-- ==== Sys2Proof/Machine/DataCan.lean ====
section
/-!
DEFINITION. Data types of 09_can_fd_controllers.md: frames, message objects, network time, streams and controllers.
-/
namespace Sys2Proof.Machine

/-- A CAN data frame (R440): format, identifier, kind, bit-rate switch and data. -/
structure CanFrame where
  ext : Bool := false
  id : Nat
  fd : Bool := false
  brs : Bool := false
  data : List (BitVec 8)
  deriving DecidableEq, Repr

/-- A frame as the module hands it to the bus of a controller. -/
structure CanTx where
  ctrl : Nat
  frame : CanFrame
  deriving DecidableEq, Repr

/-- A CAN stream declared in IOMAP (R465). -/
structure CanStream where
  stream : Nat
  source : Nat
  cls : Nat
  ctrl : Nat
  transmit : Bool
  timeout : Nat
  plen : Nat
  period : Nat
  connkey : Nat
  deriving DecidableEq, Repr

/-- States of 0x7820+n:01. -/
inductive CanState where
  | off | monitoring | active | passive | busOff | retired
  deriving DecidableEq, Repr

/-- Code of 0x7820+n:01. -/
def CanState.code : CanState → Nat
  | .off => 0 | .monitoring => 1 | .active => 2 | .passive => 3 | .busOff => 4 | .retired => 5

/-- Stages of a frame with a transmit request (R456). -/
inductive CanStage where
  | pending | arbitration | onBus | retransmit
  deriving DecidableEq, Repr

/-- How a frame's attempt on the bus ends. -/
inductive CanResult where
  | sent | error | lost
  deriving DecidableEq, Repr

/-- A message object at work: a transmit request with its stage, a cancellation that waits for the frame to end and whether it came
by 0x7840+n:01, the request that will replace it, and for a receive object the newest frame and whether it has entered an image. -/
structure CanObj where
  request : Option (List (BitVec 8)) := none
  stage : CanStage := .pending
  cancelling : Bool := false
  byWrite : Bool := false
  next : Option (List (BitVec 8)) := none
  outcome : Nat := 0
  retired : Bool := false
  frames : Nat := 0
  stored : Option (List (BitVec 8)) := none
  seen : Bool := true
  deriving DecidableEq, Repr

/-- One controller. `passiveRetry` holds the tick of an error-passive entry whose retry runs; `busOffRetry` that of a bus-off, the
tick at which its 1 s starts once recovery is done, and whether a frame has passed since. -/
structure CanCtl where
  state : CanState := .off
  tec : Nat := 0
  rcv : Nat := 0
  sent : Nat := 0
  accepted : Nat := 0
  rejected : Nat := 0
  lastErr : Option (Nat × Bool) := none
  passiveRetry : Option Nat := none
  busOffRetry : Option (Nat × Option Nat × Bool) := none
  faults : List Nat := []
  objs : List (Nat × CanObj) := []
  cancelOutcome : Nat := 0
  nominal : Nat := 0x1E7C3C20
  dataPhase : Nat := 0x37182400
  role : Nat := 1
  index : Nat := 7
  base : Nat := 0x10
  keeps : Bool := false
  netNs : Nat := 0
  slewNs : Int := 0
  latchTick : Nat := 0
  master : Bool := false
  masterIdx : Option Nat := none
  synced : Bool := false
  stepped : Bool := false
  goodRun : Nat := 0
  offset : Int := 0
  refCount : Nat := 0
  refLatch : Option (Nat × Nat) := none
  lastRef : Nat := 0
  lastOffset : Nat := 0
  lastSent : Nat := 0
  dictQ : List (List (BitVec 8)) := []
  deriving DecidableEq, Repr

/-- A CAN transmit stream: session, B, last ⌊N / P⌋, and the payload copied at the last output commit
with its stamp. -/
structure CanTxStream where
  stream : Nat
  session : Nat := 0
  base : Nat := 0
  period : Nat := 0
  payload : List (BitVec 8) := []
  stamp : Nat := 0
  deriving DecidableEq, Repr

/-- The four controllers and the CAN streams. -/
structure Can where
  ctls : List CanCtl := List.replicate 4 {}
  defs : List CanStream := []
  rx : List RxStream := []
  tx : List CanTxStream := []
  stored : List (Nat × Nat) := []
  deriving DecidableEq, Repr

end Sys2Proof.Machine
end

