-- ==== Sys2Proof/Machine/DataDict.lean ====
section
/-!
DEFINITION. Data types of 11_object_dictionary.md: values, frames, sessions, staged writes and the change log.
-/
namespace Sys2Proof.Machine

/-- Type codes of R518. -/
inductive DType where
  | bool | u8 | u16 | u32 | u64 | i8 | i16 | i32 | i64 | pair32 | string | domain
  deriving DecidableEq, Repr

/-- TYPE code of R518. -/
def DType.code : DType → Nat
  | .bool => 1 | .u8 => 2 | .u16 => 3 | .u32 => 4 | .u64 => 5 | .i8 => 6 | .i16 => 7 | .i32 => 8 | .i64 => 9
  | .pair32 => 10 | .string => 11 | .domain => 12

/-- Wire size of R518 in bytes; none for STRING and DOMAIN. -/
def DType.size : DType → Option Nat
  | .bool => some 1 | .u8 => some 1 | .u16 => some 2 | .u32 => some 4 | .u64 => some 8 | .i8 => some 1 | .i16 => some 2
  | .i32 => some 4 | .i64 => some 8 | .pair32 => some 8 | .string => none | .domain => none

/-- A value: a number in the bits of its wire form, or the bytes of a STRING or DOMAIN. -/
inductive Val where
  | num (n : Nat)
  | bytes (bs : List (BitVec 8))
  deriving DecidableEq, Repr

/-- The number of a value; 0 for a byte string. -/
def Val.toNum : Val → Nat
  | .num n => n | .bytes _ => 0

/-- The bytes of a STRING or DOMAIN value. -/
def Val.toBytes : Val → List (BitVec 8)
  | .num _ => [] | .bytes bs => bs

/-- A request whose magic, version, LEN, CRC and TAG (R530) hold: carrier, session ID and SEQ. `peer` is the Efavo node or the CAN
controller that it comes from. -/
structure Req where
  carrier : Carrier
  session : Nat
  seq : Nat
  peer : Nat := 0
  deriving DecidableEq, Repr

/-- A protocol frame as received (R528). -/
structure DictFrame where
  carrier : Carrier
  peer : Nat := 0
  magic : Nat
  version : Nat
  op : Nat
  session : Nat
  seq : Nat
  status : Nat
  len : Nat
  body : List (BitVec 8)
  tag : List (BitVec 8)
  crc : Nat
  deriving DecidableEq, Repr

/-- A response or notification frame as sent (R529, R547), before its CRC. -/
structure DictReply where
  carrier : Carrier
  peer : Nat := 0
  op : Nat
  session : Nat
  seq : Nat
  status : Nat
  body : List (BitVec 8)
  tag : List (BitVec 8)
  deriving DecidableEq, Repr

/-- Phase of a session slot (R538): free, waiting for PROVE, open. -/
inductive SlotPhase where
  | free | proving | opened
  deriving DecidableEq, Repr

/-- A notification waiting in a session's queue (R548). -/
structure Notice where
  event : Nat
  count : Nat
  tick : Nat
  deriving DecidableEq, Repr

/-- Segments of a DOMAIN write received so far (R534). -/
structure Segments where
  index : Nat
  sub : Nat
  data : List (BitVec 8)
  deriving DecidableEq, Repr

/-- One session slot (R537, R538). -/
structure Session where
  phase : SlotPhase := .free
  id : Nat := 0
  level : Nat := 0
  carrier : Carrier := .eth0
  peer : Nat := 0
  lastSeq : Nat := 0
  stored : Option DictReply := none
  busy : Bool := false
  lastUsed : Nat := 0
  hostNonce : List (BitVec 8) := []
  modNonce : List (BitVec 8) := []
  key : List (BitVec 8) := []
  bitmap : BitVec 256 := 0
  queue : List Notice := []
  noticeSeq : Nat := 0
  lastSent : List (Nat × Nat) := []
  lastOverflow : Option Nat := none
  segments : Option Segments := none
  retired : Bool := false
  deriving DecidableEq, Repr

/-- A WRITE that waits for the input latch (R520, R522): its sender, the entry, TYPE, OFFSET and the data of the whole value. -/
structure Staged where
  req : Req
  index : Nat
  sub : Nat
  typ : Nat
  offset : Nat
  data : List (BitVec 8)
  deriving DecidableEq, Repr

/-- A change-log entry (R550). OLD and NEW are 16-byte numbers, most significant byte first. -/
structure LogEntry where
  seqNo : Nat
  kind : Nat
  slot : Nat
  level : Nat
  carrier : Nat
  tick : Nat
  index : Nat
  sub : Nat
  old : Nat
  new : Nat
  check : Nat
  deriving DecidableEq, Repr

/-- A password as kept in PD-AON FRAM (R544). -/
structure Password where
  salt : List (BitVec 8)
  key : List (BitVec 8)
  deriving DecidableEq, Repr

/-- A protocol frame in reassembly on one CAN controller (R527). -/
structure Reassembly where
  next : Nat
  data : List (BitVec 8)
  deriving DecidableEq, Repr

/-- The dictionary server and the change log. `eth` holds the addresses, masks and UDP port of 0x1300 that are in force since the last
restart. -/
structure Dict where
  sessions : List Session := List.replicate 8 {}
  staged : List Staged := []
  asked : List (Req × Nat) := []
  discarded : Nat := 0
  dropped : Nat := 0
  failedProofs : Nat := 0
  proofFails : List (Nat × List Nat) := []
  lockedUntil : List (Nat × Nat) := []
  engineer : Option Password := none
  maintainer : Option Password := none
  reassembly : List (Nat × Reassembly) := []
  log : List LogEntry := []
  logNext : Nat := 0
  logCheck : Nat := 0
  logCheckBefore : Nat := 0
  sinceExport : Nat := 0
  exportOut : List (BitVec 8) := []
  exportLast : Nat := 2 ^ 32
  exportBefore : Nat := 0
  exportLog : List LogEntry := []
  exportComplete : Bool := false
  eth : List Nat := [0xC0A80A02, 0xFFFFFF00, 0xC0A80B02, 0xFFFFFF00, 4710]
  retired : Bool := false
  deriving DecidableEq, Repr

end Sys2Proof.Machine
end

