-- ==== Sys2Proof/Machine/DataElems.lean ====
section
/-!
DEFINITION. Data types of 04_station_element_model.md and 05_route_engine.md: table sets, element records, route state
records, requests, and the shadow bank.
-/
namespace Sys2Proof.Machine

/-- An element definition entry (R219), its ECRC checked and dropped. -/
structure ElemDef where
  kind : Nat := 0
  variant : Nat := 0
  ownsec : Nat := 0
  detsrc : Nat := 0
  outsrc : Nat := 0
  ndet : Nat := 0
  nout : Nat := 0
  t1 : Nat := 0
  t2 : Nat := 0
  p1 : Nat := 0
  flags : Nat := 0
  init : Nat := 0
  deriving DecidableEq, Repr

/-- A path, flank or overlap entry of a route definition (R206). -/
structure RouteEntry where
  slot : Nat
  pos : Nat
  gov : Nat := 0
  deriving DecidableEq, Repr

/-- An overlap alternative (R206). -/
structure OverlapAlt where
  prio : Nat
  entries : List RouteEntry
  deriving DecidableEq, Repr

/-- A route definition (R206) with its conflict bitset (R208) and its bytes, which R224 compares. -/
structure RouteDef where
  cls : Nat
  sectional : Bool
  entry : Nat
  exit : Nat
  path : List RouteEntry
  flank : List RouteEntry
  overlaps : List OverlapAlt
  approach : List Nat
  appMode : Nat
  aspect : Nat
  trel : Nat
  tovl : Nat
  conflict : Nat
  raw : List (BitVec 8)
  deriving DecidableEq, Repr

/-- One entry of an aspect table (R219). -/
structure Aspect where
  command : Nat
  proof : Nat
  rank : Nat
  deriving DecidableEq, Repr

/-- A table set as a bank holds it (R218): identity and definitions. -/
structure TableSet where
  version : Nat := 0
  crc : Nat := 0
  elems : List (Nat × ElemDef) := []
  routes : List (Nat × RouteDef) := []
  aspects : List (List Aspect) := []
  keySets : List (List Nat) := []
  deriving DecidableEq, Repr

/-- An element record (R178), the value halves of its eight words; `running` marks a timer that runs. -/
structure Elem where
  ident : Nat := 0
  state : Nat := 0
  lock : Nat := 0
  detect : Nat := 0
  command : Nat := 0
  timer : Nat := 0
  aux : Nat := 0
  stamp : Nat := 0
  running : Bool := false
  deriving DecidableEq, Repr

/-- A route state record (R217) in its fields, with the marks that the rules of its advance need: path section numbers seen
occupied since the signal last cleared (R210), path sections released, the TOVL mark (R213) and the supervision time (R267). -/
structure Route where
  code : Nat := 0
  alt : Nat := 0
  approach : Bool := false
  passed : Bool := false
  released : Nat := 0
  timer : Nat := 0
  running : Bool := false
  stamp : Nat := 0
  seen : List Nat := []
  secsOut : Nat := 0
  tovlArmed : Bool := false
  setTicks : Nat := 0
  setRaised : Bool := false
  deriving DecidableEq, Repr

/-- What the element handler asks of the route engine (R180): KEY, BLOCKED or RESTART of a slot, set or cleared. -/
structure LockReq where
  slot : Nat
  bit : Nat
  set : Bool
  deriving DecidableEq, Repr

/-- The vital results of R84 that the element handler and the route engine make. `handled` lists the elements whose expiry has
been processed ahead of the handler of the cycle by a row of its own. -/
structure Vital where
  elems : List (Nat × Elem) := []
  routes : List (Nat × Route) := []
  restartRun : Bool := false
  restartTicks : Nat := 0
  restartLate : List (Nat × Nat) := []
  keyStart : List Nat := []
  handled : List Nat := []
  deriving DecidableEq, Repr

/-- Where an element command or a route request comes from (R203, R241): a telegram field of a stream of a network, or the dictionary. -/
inductive ReqSource where
  | telegram (can : Bool) (stream field : Nat)
  | dictionary
  deriving DecidableEq, Repr

/-- An element command that waits for the next vital cycle (R201, R205). -/
structure ElemCmd where
  slot : Nat
  code : Nat
  arg : Nat
  source : ReqSource
  deriving DecidableEq, Repr

/-- A route request in a queue, with the parts of its age key (R241). -/
structure RouteReq where
  kind : Nat
  tag : Nat
  route : Nat
  eligible : Nat
  fresh : Bool
  latch : Nat
  source : ReqSource
  deriving DecidableEq, Repr

/-- A run-ahead result in the shadow bank (R273). -/
structure Shadow where
  req : RouteReq
  set : Bool
  alt : Nat
  transfer : Option Nat
  slots : List Nat
  routes : List Nat
  deriving DecidableEq, Repr

/-- An outcome posted for a telegram request (R247). -/
structure Posted where
  source : ReqSource
  tag : Nat
  route : Nat
  status : Nat
  cycle : Nat
  deriving DecidableEq, Repr

/-- Banks, queues and the ITE block. The three route engines run alike (R278), so one copy of their registers is kept. -/
structure Ite where
  bank0 : Option TableSet := none
  bank1 : Option TableSet := none
  activeBank : Nat := 0
  inactiveOk : Bool := false
  cancelQ : List RouteReq := []
  setQ : List RouteReq := []
  dictBusy : Bool := false
  dictOutcome : Nat := 0
  dictCycle : Nat := 0
  posted : List Posted := []
  cmds : List ElemCmd := []
  lockReqs : List LockReq := []
  cmdBusy : Bool := false
  cmdOutcome : Nat := 0
  cmdCycle : Nat := 0
  cmdDiscarded : Nat := 0
  raen : Bool := false
  raAllowed : Bool := true
  raDone : Bool := false
  projection : Vital := {}
  shadow : List Shadow := []
  served : Nat := 0
  servedSpec : Nat := 0
  passClk : Nat := 0
  maxClk : Nat := 0
  specOk : Nat := 0
  specBad : Nat := 0
  specCan : Nat := 0
  maxWait : Nat := 0
  lastHit : Option (Bool × Nat × Nat) := none
  chgv : Nat := 0
  ldelta : Nat := 0
  deriving DecidableEq, Repr

/-- One bit of a stream payload that the IOMAP binds (R668). -/
structure BitBinding where
  can : Bool
  stream : Nat
  receive : Bool
  offset : Nat
  bit : Nat
  deriving DecidableEq, Repr

/-- A receive stream in an input image: valid (R183) and its payload. -/
structure StreamImage where
  can : Bool
  num : Nat
  valid : Bool
  payload : List (BitVec 8)
  deriving DecidableEq, Repr

/-- An input image (R75 phase 1): 48 channels, one bit each, their valid bits, and the receive streams. -/
structure InputImage where
  chans : Nat := 0
  valid : Nat := 0
  streams : List StreamImage := []
  deriving DecidableEq, Repr

end Sys2Proof.Machine
end

