-- ==== Sys2Proof/Machine/DataSfu.lean ====
section
/-!
DEFINITION. Data types of 06_machine_safety_functions.md: the safety configuration, the state blocks and the reset-edge checkers.
-/
namespace Sys2Proof.Machine

/-- An instance record (R298), its ICRC checked and dropped. Channel fields hold 0xFFFF where unused. -/
structure SfInst where
  typ : Nat
  mode : Nat
  ch1 : Nat := 0xFFFF
  ch2 : Nat := 0xFFFF
  ch3 : Nat := 0xFFFF
  ch4 : Nat := 0xFFFF
  tps : List Nat := []
  reset : Nat := 0xFFFF
  flags : Nat := 0
  disc : Nat := 0
  p1 : Nat := 0
  p2 : Nat := 0
  p3 : Nat := 0
  link : Nat := 0xFFFF
  out1 : Nat := 0xFFFF
  out2 : Nat := 0xFFFF
  fb1 : Nat := 0xFFFF
  fb2 : Nat := 0xFFFF
  lamp : Nat := 0xFFFF
  permits : Nat := 0
  symId : Nat := 0
  deriving DecidableEq, Repr

/-- A channel filter (R303): filtered state and number of consecutive samples that differ from it; `fresh` until the first
state is taken (R669). -/
structure Filter where
  st : Bool := false
  run : Nat := 0
  fresh : Bool := true
  deriving DecidableEq, Repr

/-- A timer word with its running flag (R294). -/
structure SfTimer where
  run : Bool := false
  t : Nat := 0
  deriving DecidableEq, Repr

/-- A discrepancy window (R308): of demand or of return, and the channel that opened it. -/
inductive DiscKind where
  | demand | ret
  deriving DecidableEq, Repr

/-- A state block (R294) in its fields, with the marks that the state tables need: filters, the open window's kind and first
channel, the tick of entry to READY (R312), the tick since which the cause of a FAULT has been gone (R312), the previous close
demand (R326), the guard's start-up test (R318), the trip count of 0x5100+i:07, whether each feedback window has been
satisfied (R330, R331), and `done` for a tick in which a row of its own
has moved the instance. -/
structure SfState where
  state : Nat := 1
  fault : Nat := 0
  permit : Bool := false
  req : Bool := false
  muted : Bool := false
  d : SfTimer := {}
  p : SfTimer := {}
  f1 : SfTimer := {}
  f2 : SfTimer := {}
  stamp : Nat := 0
  stampFull : Nat := 0
  aux : Nat := 0
  c1 : Filter := {}
  c2 : Filter := {}
  c3 : Filter := {}
  c4 : Filter := {}
  b1 : Filter := {}
  b2 : Filter := {}
  svc : Nat := 0
  kind : DiscKind := .demand
  first : Nat := 1
  readyAt : Nat := 0
  goneSince : Option Nat := none
  closePrev : Bool := false
  guardDone : Bool := false
  trips : Nat := 0
  seen1 : Bool := false
  seen2 : Bool := false
  done : Bool := false
  deriving DecidableEq, Repr

/-- A reset-edge checker (R309 to R316). `edge` is the press start of the edge accepted in this tick. -/
structure Checker where
  chan : Nat
  filt : Filter := {}
  armed : Bool := false
  pressing : Bool := false
  r : Nat := 0
  jammed : Bool := false
  edge : Option Nat := none
  accepted : Nat := 0
  short : Nat := 0
  jams : Nat := 0
  deriving DecidableEq, Repr

/-- The SFU of the lanes, which run alike: configuration in force, state blocks, checkers and diagnostic records. -/
structure Sfu where
  version : Nat := 0
  crc : Nat := 0
  insts : List (Nat × SfInst) := []
  states : List (Nat × SfState) := []
  checkers : List Checker := []
  diag : List Nat := []
  deriving DecidableEq, Repr

end Sys2Proof.Machine
end

