-- ==== Sys2Proof/Machine/DataField.lean ====
section
/-!
DEFINITION. Data types of 07_field_io.md: the channels, groups and supplies of the Field region, and the samples of a tick.
-/
namespace Sys2Proof.Machine

/-- One input channel. `suspended` and `coupler` hold the tick of a fault whose retry is pending. -/
structure InChan where
  data : Bool := false
  valid : Bool := false
  retired : Bool := false
  suspended : Option Nat := none
  coupler : Option Nat := none
  faults : List Nat := []
  count : Nat := 0
  deriving DecidableEq, Repr

/-- One output channel. `hold` is the tick at which a hold of R368 ends, `onRetry` and `lightRetry` the tick of the fault whose
retry is pending, `coupler` the tick of a coupler fault, `pulse` a dark pulse in
progress and `pulseHigh` its sample. -/
structure OutChan where
  command : Bool := false
  driven : Bool := false
  lastChange : Nat := 0
  retired : Bool := false
  hold : Option Nat := none
  onRetry : Option Nat := none
  lightRetry : Option Nat := none
  coupler : Option Nat := none
  overload : Bool := false
  openLoad : Bool := false
  pulse : Bool := false
  pulseHigh : Bool := false
  rbk : Bool := false
  current : Nat := 0
  faults : List Nat := []
  count : Nat := 0
  deriving DecidableEq, Repr

/-- A group forced off (R367): the channel, the tick of its retry sample, and the tick of detection. -/
structure ForcedOff where
  chan : Nat
  due : Nat
  found : Nat
  deriving DecidableEq, Repr

/-- One field group with its return switch. `test` is a group test in progress, `testClosed` its sense. -/
structure Group where
  command : Bool := false
  driven : Bool := false
  hold : Option Nat := none
  onRetry : Option Nat := none
  forced : Option ForcedOff := none
  openRetry : Option Nat := none
  lockout : Bool := false
  retired : Bool := false
  rsRetired : Bool := false
  coupler : Option Nat := none
  test : Bool := false
  testClosed : Bool := false
  unver : Bool := false
  inZero : Bool := false
  back : Bool := false
  pend : Option Nat := none
  pendDone : Bool := false
  jam : Bool := false
  press : Option Nat := none
  filt : Filter := {}
  sup : Nat := 0
  faults : List Nat := []
  deriving DecidableEq, Repr

/-- One field supply input (0x6040+n). -/
structure Supply where
  mv : Nat := 0
  occurrences : Nat := 0
  deriving DecidableEq, Repr

/-- States of a Field region reset (0x6020:02). -/
inductive ResetState where
  | idle | running | done
  deriving DecidableEq, Repr

/-- Code of 0x6020:02. -/
def ResetState.code : ResetState → Nat
  | .idle => 0 | .running => 1 | .done => 2

/-- What the field record of a tick says of channels (R346): input channels in service and verifiable (R305), those of them that no test
suspends (R349), outputs in service and neither held nor forced off (R305, R354, R369). -/
structure FieldRecord where
  inSvc : Nat := 0
  inUse : Nat := 0
  outOk : Nat := 0
  deriving DecidableEq, Repr

/-- Classes of FIO.LASTF. -/
inductive FieldClass where
  | input | output | group
  deriving DecidableEq, Repr

/-- The Field region. -/
structure Fio where
  ins : List InChan := List.replicate 48 {}
  outs : List OutChan := List.replicate 24 {}
  groups : List Group := List.replicate 6 {}
  supplies : List Supply := List.replicate 3 {}
  record : FieldRecord := {}
  running : Bool := false
  lost : Bool := false
  blank : Bool := false
  blankUntil : Nat := 0
  reset : ResetState := .idle
  lastFault : Option (Nat × FieldClass × Nat) := none
  pcnt : Nat := 0
  transients : Nat := 0
  deriving DecidableEq, Repr

/-- What the field stages sample in a tick: data and test sample of the 48 inputs, readback of the 24 outputs, sense of the six
return switches, output currents in mA, supply voltages in mV. -/
structure FieldSamples where
  data : Nat := 0
  test : Nat := 0
  rbk : Nat := 0
  sense : Nat := 0
  currents : List Nat := []
  supplies : List Nat := []
  deriving DecidableEq, Repr

end Sys2Proof.Machine
end

