-- ==== Sys2Proof/Machine/DataLanes.lean ====
section
/-!
DEFINITION. Data types of 03_triple_lane_voting.md (lanes and Garnet) and of 12_dma_and_check_units.md (DMA channels and
check-value units of a lane).
-/
namespace Sys2Proof.Machine

/-- Lane state colours (R128). -/
inductive Colour where
  | green | amber | slate
  deriving DecidableEq, Repr

/-- Code of 0x3000:01 to :03 and of VOTE.LSTATE. -/
def Colour.code : Colour → Nat
  | .green => 1 | .amber => 2 | .slate => 3

/-- A signature accumulator (R132) with its record count. -/
structure Acc where
  crc : Nat := 0xFFFFFFFFFFFFFFFF
  count : Nat := 0
  deriving DecidableEq, Repr

/-- A 32-byte DMA descriptor as fetched (R562). -/
structure Descriptor where
  src : Nat
  dst : Nat
  len : Nat
  last : Bool
  pw : Bool
  chkEnd : Bool
  chkEn : Bool
  unit : Nat
  dfix : Bool
  sfix : Bool
  dw : Nat
  sw : Nat
  next : Nat
  deriving DecidableEq, Repr

/-- A beat that has been issued and whose response has not returned (R566, R568). A write beat of the final burst of its
descriptor has `final`; `burst` lists address, new and old byte of its whole burst, `before` the bytes of its descriptor
confirmed before the burst. -/
structure Beat where
  write : Bool
  addr : Nat
  width : Nat
  data : List (Nat × BitVec 8) := []
  burst : List (Nat × BitVec 8 × BitVec 8) := []
  final : Bool := false
  desc : Nat := 0
  before : Nat := 0
  tries : Nat := 0
  deriving DecidableEq, Repr

/-- Channel states (R574). -/
inductive DmaState where
  | idle | running | stopping | frozen
  deriving DecidableEq, Repr

/-- Code of DMA.CHSTAT.STATE. -/
def DmaState.code : DmaState → Nat
  | .idle => 0 | .running => 1 | .stopping => 2 | .frozen => 3

/-- The last refused write of a page: offset and status (DMA.WST, CHK.WST). -/
abbrev WriteFault := Option (Nat × Nat)

/-- One DMA channel (R559 to R584). -/
structure DmaCh where
  retry : Nat := 3
  hopLim : Nat := 0x1000
  chDesc : Nat := 0
  state : DmaState := .idle
  retries : Nat := 0
  code : Nat := 0
  hops : Nat := 0
  cur : Nat := 0
  bytes : Nat := 0
  wst : WriteFault := none
  needFetch : Bool := false
  nextDesc : Nat := 0
  desc : Option Descriptor := none
  srcDone : Nat := 0
  dstDone : Nat := 0
  hold : List (BitVec 8) := []
  beats : List Beat := []
  unit : Option Nat := none
  unitFresh : Bool := true
  tail : List (BitVec 8) := []
  checkBad : Bool := false
  chkVal : Nat := 0
  endCode : Nat := 0
  waiting : Bool := false
  ended : Bool := false
  endSeen : Bool := false
  interrupt : Bool := false
  chains : Nat := 0
  repeats : Nat := 0
  notDone : Nat := 0
  deriving DecidableEq, Repr

/-- One check-value unit (R585 to R595). -/
structure ChkUnit where
  stream : Nat := 0
  net : Nat := 0
  src : Nat := 0
  order : Nat := 0
  dir : Nat := 0
  poly : Nat := 0
  chan : Option Nat := none
  lastChan : Option Nat := none
  reg : Nat := 0
  bad : Bool := false
  valid : Bool := false
  value : Nat := 0
  mismatches : Nat := 0
  checks : Nat := 0
  wst : WriteFault := none
  newBad : Bool := false
  deriving DecidableEq, Repr

/-- The completion ring of a lane (R582). -/
structure Ring where
  base : Nat := 0
  size : Nat := 4
  head : Nat := 0
  tail : Nat := 0
  seq : Nat := 0
  deriving DecidableEq, Repr

/-- Why a lane leaves its state at the next phase 3 (R129). -/
inductive LaneCause where
  | counted | slate
  deriving DecidableEq, Repr

/-- Work that the supervisor does on a lane (R164, R165). -/
inductive LaneWork where
  | none | poweringDown | resetting
  deriving DecidableEq, Repr

/-- One lane: state, gate, signature unit, enable lines, memory, DMA and check units. -/
structure Lane where
  colour : Colour := .green
  gateOpen : Bool := false
  gateFault : Bool := false
  gateNext : Bool := false
  powered : Bool := false
  work : LaneWork := .none
  pend : Option LaneCause := none
  bootFail : Bool := false
  stopped : Bool := false
  fastRun : Bool := false
  vitalRun : Bool := false
  fastDone : Bool := false
  vitalDone : Bool := false
  accF : Acc := {}
  accV : Acc := {}
  accE : Acc := {}
  fastSig : Option Nat := none
  vitalSig : Option Nat := none
  shownFast : Option Nat := none
  shownVital : Option Nat := none
  vector : Nat := 0
  lines : Nat := 0
  enaOff : Bool := false
  corrected : Nat := 0
  disagreements : Nat := 0
  faults : List Nat := []
  checks : Nat := 0
  mem : List (Nat × BitVec 8) := []
  fastWrites : List (Nat × Nat) := []
  vitalWrites : List (Nat × Nat) := []
  dma : List DmaCh := List.replicate 16 {}
  chk : List ChkUnit := List.replicate 8 {}
  ring : Ring := {}
  deriving DecidableEq, Repr

/-- Steps of a re-admission (R155, VOTE.RADM.STEP): quarantine, copy, waiting for the join, trial. `startTest` is the one of
R162, in which no state is copied. -/
inductive RadmStep where
  | none | quarantine | copy | waitJoin | trial | startTest | matching
  deriving DecidableEq, Repr

/-- Garnet (R132 to R173). -/
structure Voter where
  win : Nat := 0
  fres : Nat := 0
  vres : Nat := 0
  fdis : Nat := 0
  vdis : Nat := 0
  fastWindow : Nat := 0
  vitalWindow : Nat := 0
  radmLane : Option LaneId := none
  radmStep : RadmStep := .none
  amberCycle : Nat := 0
  rcopy : Nat := 0
  stsize : Nat := 0
  trialBad : Bool := false
  enMaj : Nat := 0
  dual : Bool := false
  stRunning : Bool := false
  stFail : Bool := false
  stDone : Nat := 0
  stMissValid : Bool := false
  stMissIndex : Nat := 0
  stStart : Nat := 0
  stLastStart : Nat := 0
  stResult : Nat := 0
  stCompleted : Nat := 0
  lost : Bool := false
  deriving DecidableEq, Repr

end Sys2Proof.Machine
end

