-- ==== Sys2Proof/Machine/DataPair.lean ====
section
/-!
DEFINITION. Data types of 10_active_standby_pair.md and of the snapshot of 02_frame_and_vital_cycle.md: pair-link records, the Shale
store, the Flint line and the output comparison.
-/
namespace Sys2Proof.Machine

/-- A pair-link record that has passed R496: header and payload (R494). -/
structure PairRec where
  kind : Nat
  cycle : Nat
  tick : Nat
  full : Nat
  index : Nat
  payload : List (BitVec 8)
  deriving DecidableEq, Repr

/-- A record as it arrives: its bytes, and what the link measures: own tick count less the partner's, and the offset of the partner's
tick grid in ns (R493). -/
structure PairRx where
  bytes : List (BitVec 8)
  delta : Int := 0
  offset : Int := 0
  deriving DecidableEq, Repr

/-- A full image in the Shale store (R497, R501): line count and the lines that are not zero, by line number. -/
structure ShaleImage where
  cycle : Nat
  stamp : Nat
  ident : List Nat
  count : Nat := 0
  lines : List (Nat × List (BitVec 8)) := []
  deriving DecidableEq, Repr

/-- The delta of one cycle (R498). -/
structure ShaleDelta where
  cycle : Nat
  stamp : Nat
  lines : List (Nat × List (BitVec 8)) := []
  deriving DecidableEq, Repr

/-- SESSION and B of a transmit stream (R495 type 6): network 0 Efavo, 1 CAN. -/
structure SessionRec where
  stream : Nat
  net : Nat
  session : Nat
  base : Nat
  deriving DecidableEq, Repr

/-- The state that the module's own records hold (R116): the committed state at the last vital commit, with the committed output
image, the lane memory of the lower-lettered Green lane and the sessions of the transmit streams. -/
structure OwnSnap where
  cycle : Nat
  stamp : Nat
  ident : List Nat
  vital : Vital
  sfu : Sfu
  words : List Nat
  mem : List (Nat × BitVec 8)
  sessions : List SessionRec
  deriving DecidableEq, Repr

/-- The Shale store. -/
structure Shale where
  full : Option ShaleImage := none
  incoming : Option ShaleImage := none
  deltas : List ShaleDelta := []
  part : Option ShaleDelta := none
  nextPart : Nat := 0
  broken : Bool := false
  sessions : List SessionRec := []
  own : Option OwnSnap := none
  stale : Bool := false
  pagesRetired : Nat := 0
  deriving DecidableEq, Repr

/-- A full image being sent (R497): the state it shows, its line count and the next line number. -/
structure Sending where
  snap : OwnSnap
  count : Nat
  next : Nat := 0
  transfer : Bool := false
  deriving DecidableEq, Repr

/-- An OUTPUT record kept for the comparison (R504), its stamp in own ticks. -/
structure HolderOut where
  tick : Nat
  driven : Nat
  pulse : Nat
  quiet : Bool
  deriving DecidableEq, Repr

/-- The pair interface and Garnet's Flint line. `latest` is the state of the last vital commit in this run, `ready` once a full image of
this run is complete in the own store, `fullMark` the last multiple of 4,000 ticks that a full image has served. -/
structure Pair where
  linkUp : Bool := false
  partner : Option (List Nat) := none
  partnerMode : Nat := 0
  partnerSync : Bool := false
  partnerDelta : Nat := 0
  holderCycle : Nat := 0
  incompatible : Bool := false
  closed : Bool := false
  cablePos : Nat := 0
  offset : Int := 0
  partnerHeld : Bool := false
  h1 : Bool := false
  h2 : Bool := false
  hold : Bool := false
  holdStart : Nat := 0
  holdLevel : Bool := false
  heldWhenStarted : Bool := false
  listening : Option Nat := none
  claiming : Bool := false
  pulling : Bool := false
  pullIn : Bool := false
  pullRail : Bool := false
  holdRail : Bool := false
  railsOff : Bool := false
  handOver : Bool := false
  outputHold : Option Nat := none
  contUntil : Option Nat := none
  notHeldAt : Option Nat := none
  gateFrom : Option Nat := none
  starting : Bool := false
  takeTick : Nat := 0
  synced : Bool := false
  shale : Shale := {}
  sending : Option Sending := none
  transferDue : Bool := false
  transferCycle : Option Nat := none
  latest : Option OwnSnap := none
  ready : Bool := false
  fullMark : Nat := 0
  lastRx : Nat := 0
  deltaLines : List Nat := []
  brokenChain : Bool := false
  outputs : List HolderOut := []
  samples : List (Nat × Nat) := []
  run : Nat := 0
  cmpValid : Bool := false
  cmpChan : Nat := 0
  takeovers : Nat := 0
  pulls : Nat := 0
  mismatches : Nat := 0
  deriving DecidableEq, Repr

end Sys2Proof.Machine
end

