-- ==== Sys2Proof/Machine/DataInput.lean ====
section
/-!
DEFINITION. Operands of the commands: what the module's surroundings, its measuring circuits and the compiled code of its lanes hand
to a step.
-/
namespace Sys2Proof.Machine

/-- What a BOOT finds (R48, R161, R167, R376): start test of each lane, the first injection of the comparator self-test that was
missed, and the channels and return switches that fail the field switch test. -/
structure BootIn where
  lanesOk : Tri Bool := { a := true, b := true, c := true }
  missed : Option Nat := none
  badIns : List Nat := []
  badOuts : List Nat := []
  badReturns : List Nat := []
  deriving DecidableEq, Repr

/-- What compiled code of a task does in one call: paired words written into P windows by address, commands of the output channels
that the task owns, payload bytes of the transmit streams (0 Efavo, 1 CAN; stream; payload), values of demand variables by
stable ID (R326, R328), STATE and COMMAND outputs of generic elements (R200). -/
structure TaskIn where
  writes : List (Nat × Nat) := []
  outs : List (Nat × Bool) := []
  payloads : List (Nat × Nat × List (BitVec 8)) := []
  demands : List (Nat × Bool) := []
  generic : List (Nat × Nat × Nat) := []
  deriving DecidableEq, Repr

/-- What an output commit meets: where the frames with a CAN transmit request stand (R456), non-vital messages of the application for
the Efavo egress queue (R431), current in the HOLD1 and HOLD2 rails (R480), and whether a change-log entry can be written (R622). -/
structure CommitIn where
  stages : List (Nat × Nat × CanStage) := []
  messages : List NvFrame := []
  rail1 : Bool := true
  rail2 : Bool := true
  logOk : Bool := true
  deriving DecidableEq, Repr

/-- A coupler of an input, an output or a return switch. -/
inductive Coupler where
  | input (i : Nat)
  | output (c : Nat)
  | ret (g : Nat)
  deriving DecidableEq, Repr

/-- How a bulk copy ends (R155, R158): the copies agree, they differ, or a Green lane's line holds a broken pair. -/
inductive CopyResult where
  | moved
  | differ
  | brokenPair (l : LaneId)
  deriving DecidableEq, Repr

/-- A route request (R236, R246): where it comes from, the dictionary request when it is one, TAG and route. -/
structure RouteOp where
  source : ReqSource
  req : Option Req := none
  tag : Nat := 0
  route : Nat
  deriving DecidableEq, Repr

/-- An element command (R201, R203): where it comes from, the dictionary request when it is one, slot and argument. -/
structure ElemOp where
  source : ReqSource
  req : Option Req := none
  slot : Nat
  arg : Nat := 0
  deriving DecidableEq, Repr

/-- A write of the lane cores to a module-wide block (R44): address and the value that each lane writes, if any. -/
structure WideWrite where
  addr : Nat
  vals : Tri (Option Nat)
  deriving DecidableEq, Repr

/-- An access of a master (R33, R34): kind, address and width; whether a core works under its runtime set (R32). -/
structure Access where
  master : Nat
  write : Bool
  execute : Bool
  addr : Nat
  width : Nat
  runtime : Bool
  deriving DecidableEq, Repr

end Sys2Proof.Machine
end

