-- ==== Sys2Proof/Syntax.lean ====
section
/-!
DEFINITION. The commands: one constructor for each row of spec/opcode_table.json, in the table's order, with the row's operands.
Instants are ns after the last input latch (`rel`), channels and slots go by number.
-/
namespace Sys2Proof
open Machine

/-- A command of the module. -/
inductive Instr where
  | powerUp
  | domainPowerGoodLost (domain : Nat)
  | domainPowerGoodTimeout (domain : Nat)
  | fieldDomainLost (supply : Nat)
  | fieldDomainReturn (supply : Nat)
  | backplaneSupplyLow (mv : Nat)
  | backplaneSupplyHigh (mv : Nat)
  | backplaneSupplyRestored (mv : Nat)
  | powerFailSequence
  | presenceMated
  | insertionCompleted
  | extractionRequested
  | temperatureHigh (t : Int)
  | temperatureLimit (t : Int)
  | thermalCutOff (l : LaneId)
  | supervisorWatchdogExpiry
  | restart
  | bootEnd (r : BootIn)
  | flintListenEnd
  | ppsEdge (gap : Nat) (phase : Int)
  | todTelegram (start : Nat) (bs : List Byte)
  | stationInputTimeout
  | inputLatch (fs : FieldSamples)
  | recoveryPressJammed (g : Nat)
  | fastTaskStart (t : TaskIn)
  | resetJammed (k : Nat)
  | discrepancyExpiry (i : Nat)
  | twoHandContactExpiry (i : Nat)
  | synchronisationWindowExpiry (i : Nat)
  | pairWindowExpiry (i : Nat)
  | mutingLimitExpiry (i : Nat)
  | clearTimeExpiry (i : Nat)
  | stopDelayExpiry (i : Nat)
  | switchOnWindowExpiry (i : Nat)
  | switchOffWindowExpiry (i : Nat)
  | fastTaskReturn (l : LaneId) (ns : Nat) (dev : List (Nat × Nat))
  | fastTaskWatchdog (l : LaneId)
  | signatureCloseAndVote
  | vitalTaskReturn (l : LaneId) (ns : Nat) (dev : List (Nat × Nat))
  | enablePathCheck (dev : Tri Nat)
  | outputCommit (o : CommitIn)
  | gateSelfClose (l : LaneId)
  | vitalCycleStart (t : TaskIn)
  | routeEnginePass (clk : Nat)
  | setRequestExpired
  | settingSupervision (r : Nat)
  | trelExpiry (r : Nat)
  | tovlExpiry (r : Nat)
  | runAhead
  | spcan (l : LaneId)
  | setRequest (o : RouteOp)
  | releaseRequest (o : RouteOp)
  | emergencyCancel (o : RouteOp)
  | movePoint (o : ElemOp)
  | block (o : ElemOp)
  | unblock (o : ElemOp)
  | proveClear (o : ElemOp)
  | closeCrossing (o : ElemOp)
  | openCrossing (o : ElemOp)
  | releaseDoors (o : ElemOp)
  | closeDoors (o : ElemOp)
  | keyReleaseRequest (o : ElemOp)
  | keyReleaseCancel (o : ElemOp)
  | throwTimeExpiry (slot : Nat)
  | provingTimeExpiry (slot : Nat)
  | clearDelayExpiry (slot : Nat)
  | warningTimeExpiry (slot : Nat)
  | movementLimitExpiry (slot : Nat)
  | closingLimitExpiry (slot : Nat)
  | releaseWindowExpiry (slot : Nat)
  | restartReleaseTimeExpiry
  | darkPulse (c : Nat) (sample : Option Bool)
  | groupTest (g : Nat) (sample : Option Bool)
  | lightPulse (c : Nat) (sample : Option Bool)
  | outputHoldExpiry (c : Nat)
  | channelOverload (c : Nat)
  | groupOverload (g : Nat)
  | openLoad (c : Nat)
  | couplerFault (k : Coupler)
  | fieldSupplyOutOfRange (supply code : Nat)
  | fieldSupplyInRange (supply : Nat)
  | blankingEnd
  | fieldRegionReset (r : Req) (v : Nat)
  | fieldRegionResetCompleted (badIns badOuts badReturns : List Nat)
  | quarantine
  | bulkCopyEnd (r : CopyResult)
  | joinLane
  | readmissionFailed
  | selfTestStart
  | selfTestInjection (detected : Bool)
  | startSelfTestNow (r : Req) (v : Nat)
  | lanePowerDown (r : Req) (v : Nat)
  | lanePowerDownCompleted (l : LaneId)
  | laneRegionReset (r : Req) (v : Nat)
  | laneRegionResetEnd (l : LaneId) (passed : Bool)
  | modeRequestConfigure (r : Req)
  | modeRequestStandby (r : Req)
  | warmRestartCommand (r : Req)
  | coldRestartCommand (r : Req)
  | recoveryRestartCommand (r : Req)
  | firewallViolation (a : Access)
  | moduleWideWrite (w : WideWrite)
  | evtFlagClear (n : Nat) (vals : Tri (Option Nat))
  | registerWrite (l : LaneId) (addr v : Nat)
  | tableLoadStart (r : Req)
  | tableLoadComplete
  | checkpointTransferStart (r : Req)
  | changeLogExportStart (r : Req)
  | changeLogExportDone
  | imageDownloadStart (r : Req)
  | longOperationSuspend (r : Req) (index : Nat)
  | longOperationResume (r : Req) (index : Nat)
  | longOperationCancel (r : Req) (index : Nat)
  | suspendLimitExpiry (index : Nat)
  | partnerLineNotHeld
  | snapshotLoaded
  | pullReceived
  | pullRailFault
  | pullFailed
  | outputHoldEnd
  | telegramContinuationEnd
  | fullImageStart
  | identRecord (rx : PairRx)
  | fullBeginRecord (rx : PairRx)
  | fullDataRecord (rx : PairRx)
  | fullEndRecord (rx : PairRx)
  | deltaRecord (rx : PairRx)
  | sessionsRecord (rx : PairRx)
  | outputRecord (rx : PairRx)
  | statusRecord (rx : PairRx)
  | pairLinkDown
  | portLinkChange (p rel : Nat) (up phyMaster : Bool)
  | cycleFrame (rx : EfRx)
  | pollFrame (rx : EfRx)
  | responseFrame (rx : EfRx)
  | messageFrame (rx : EfRx)
  | delayReq (rx : EfRx)
  | delayResp (rx : EfRx)
  | claim (rx : EfRx)
  | topoReq (rx : EfRx)
  | topoResp (rx : EfRx)
  | topo (rx : EfRx)
  | sendCycleFrame (skew : Int)
  | sendPoll (slot : Nat) (skew : Int)
  | sendResponse (slot : Nat) (skew : Int)
  | sendMessage (slot : Nat) (skew : Int)
  | hopDelayMeasurement (rel : Nat)
  | masterLost (rel : Nat)
  | inaugurationStart (rel : Nat)
  | startInauguration (r : Req) (v rel : Nat)
  | claimSend (rel : Nat)
  | backoffEnd (rel : Nat)
  | claimWindowEnd (rel : Nat)
  | topoRespSend (resid : Nat)
  | topoPublish (resid rel : Nat)
  | lockRetryExpiry (rel : Nat)
  | overloadCleared
  | scheduleModeRequest (r : Req) (v : Nat)
  | canFrameReceived (n rel tec rcv : Nat) (f : CanFrame)
  | canFrameTransmitted (n m tec rcv : Nat) (r : CanResult)
  | referenceMessage (n rel idx k time : Nat)
  | sendReferenceMessage (n rel : Nat)
  | timeMasterTakeover (n : Nat)
  | timeSyncLost (n : Nat)
  | errorPassiveEntry (n : Nat)
  | busOff (n : Nat)
  | canFaultRetryEnd (n : Nat)
  | cancelObject (r : Req) (n v : Nat) (stage : CanStage)
  | readEntry (f : DictFrame)
  | writeEntry (f : DictFrame)
  | openSession (f : DictFrame)
  | proveSession (f : DictFrame)
  | closeSession (f : DictFrame)
  | ping (f : DictFrame)
  | subscribe (f : DictFrame)
  | notify (slot e : Nat)
  | canSegment (n : Nat) (seg : List Byte)
  | sessionExpired (slot : Nat)
  | loginLockoutEnd (carrier : Carrier)
  | parameterSet (r : Req) (bs : List Byte)
  | restoreDefaults (r : Req) (v : Nat)
  | passwordWrite (r : Req) (sub : Nat) (bs : List Byte)
  | eventFlagClear (r : Req) (e v : Nat)
  | exportAcknowledgement (r : Req) (v : Nat)
  | clearDiagnosticRecords (r : Req) (v : Nat)
  | integratorKeyWrite (r : Req) (sub : Nat) (bs : List Byte)
  | imageHeader (r : Req) (bs : List Byte)
  | imageChunk (r : Req) (bs : List Byte)
  | firmwareActivation (r : Req) (v : Nat)
  | activationRestart
  | prepareChange (r : Req)
  | preparationReady
  | applyChange (r : Req)
  | cancelChange (r : Req)
  | onlineChangeHandover
  | onlineChangeWaitExpiry
  | forceSymbol (r : Req) (v : Nat)
  | forceOutputOff (r : Req) (v : Nat)
  | removeSymbolForce (r : Req) (v : Nat)
  | removeOutputForce (r : Req) (v : Nat)
  | dmaStart (l : LaneId) (c word : Nat)
  | dmaStop (l : LaneId) (c word : Nat)
  | descriptorFetch (l : LaneId) (c : Nat)
  | dmaBeatResponse (l : LaneId) (c : Nat) (ok : Bool)
  | dmaBusTimeout (l : LaneId) (c : Nat)
  | completionRecordWrite (l : LaneId) (c : Nat)
  | ringTailAdvance (l : LaneId) (v : Nat)
  | checkUnitConfigure (l : LaneId) (u v : Nat)
  | partnerLineHeld (h1 h2 : Bool)
  | presenceLoopChange (closed : Bool) (pos : Nat)
  | lockstepMismatch
  | readmissionStartTestEnd (passed : Bool)
  | busOffRecovery (n : Nat)
  | protocolError (n code : Nat) (dph : Bool) (tec rcv : Nat)
  | remoteFrameReceived (n : Nat)
  | openLoadCleared (c : Nat)
  | ejectorClosed
  | boardTemperatureFall (t : Int)
  | icmpEchoRequest (port : Nat) (bs : List Byte)
  | arpRequest (port ip : Nat)
  | unknownOperation (f : DictFrame)
  | slotErased
  deriving DecidableEq, Repr

end Sys2Proof
end

