-- ==== Sys2Proof/Machine/Operands.lean ====
section
/-!
DEFINITION. Operand forms: paired words (00_scope.md R9, R10), byte orders (R9), bit fields, and the CRCs of
12_dma_and_check_units.md R585, over lists of bytes.
-/
namespace Sys2Proof.Machine

/-- The paired word that carries `v`: value in bits 31..0, complement in bits 63..32. -/
def pairWord (v : Nat) : Nat := ((2 ^ 32 - 1) - v % 2 ^ 32) * 2 ^ 32 + v % 2 ^ 32

/-- The check that every consumer makes before it uses a paired word (R10, R30). -/
def pairOk (w : Nat) : Bool := w / 2 ^ 32 == (2 ^ 32 - 1) - w % 2 ^ 32

/-- The value half of a paired word. -/
def pairVal (w : Nat) : Nat := w % 2 ^ 32

/-- Bits `hi` down to `lo` of `w`. -/
def bits (hi lo w : Nat) : Nat := (w >>> lo) % 2 ^ (hi + 1 - lo)

/-- Bit `i` of `w` as a number. -/
def bit (i w : Nat) : Nat := (w >>> i) % 2

/-- The number with bit `i` set when `b` holds, 0 otherwise. -/
def bitIf (i : Nat) (b : Bool) : Nat := if b then 2 ^ i else 0

/-- 1 for true, 0 for false. -/
def boolNat (b : Bool) : Nat := if b then 1 else 0

/-- `w` with bit `i` set or cleared. -/
def setBit (i : Nat) (b : Bool) (w : Nat) : Nat :=
  if w.testBit i = b then w else if b then w + 2 ^ i else w - 2 ^ i

/-- The number whose bit `i` is `f i`, for the bits listed. -/
def bitsOf (f : Nat → Bool) (is : List Nat) : Nat := is.foldl (fun n i => n + bitIf i (f i)) 0

/-- Addition that stays at `top` (R67 and every counter that saturates). -/
def satAdd (top a b : Nat) : Nat := if a + b > top then top else a + b

/-- Addition modulo 2^32. -/
def add32 (a b : Nat) : Nat := (a + b) % 2 ^ 32

/-- The low `n` bits of an integer, two's complement. -/
def ofInt (n : Nat) (i : Int) : Nat := (i % (2 ^ n : Int)).toNat

/-- `x` kept within `-m … m`. -/
def clampInt (m : Nat) (x : Int) : Int := if x > m then m else if x < -(m : Int) then -(m : Int) else x

/-- Big-endian value of a byte list, as on every wire (R9). -/
def beNat (bs : List Byte) : Nat := bs.foldl (fun n b => n * 256 + b.toNat) 0

/-- Little-endian value of a byte list, as in every memory (R9). -/
def leNat : List Byte → Nat
  | [] => 0
  | b :: bs => b.toNat + 256 * leNat bs

/-- `n` bytes of `v`, least significant first. -/
def toLE : Nat → Nat → List Byte
  | 0, _ => []
  | n + 1, v => BitVec.ofNat 8 v :: toLE n (v / 256)

/-- `n` bytes of `v`, most significant first. -/
def toBE (n v : Nat) : List Byte := (toLE n v).reverse

/-- `n` bytes from offset `o`; bytes beyond the end are missing. -/
def slice (o n : Nat) (bs : List Byte) : List Byte := (bs.drop o).take n

/-- Little-endian field of `n` bytes at offset `o`. -/
def leAt (o n : Nat) (bs : List Byte) : Nat := leNat (slice o n bs)

/-- Big-endian field of `n` bytes at offset `o`. -/
def beAt (o n : Nat) (bs : List Byte) : Nat := beNat (slice o n bs)

/-- `n` zero bytes. -/
def zeros (n : Nat) : List Byte := List.replicate n 0

/-- A list cut into pieces of `n`, with fuel. -/
def chunksFuel {α : Type} (n : Nat) : Nat → List α → List (List α)
  | 0, _ => []
  | fuel + 1, l => if l.isEmpty then [] else l.take n :: chunksFuel n fuel (l.drop n)

/-- A list cut into pieces of `n` members; the last may be shorter. -/
def chunks {α : Type} (n : Nat) (l : List α) : List (List α) := chunksFuel n l.length l

/-- One bit into a CRC register of `width` bits, most significant bit first. -/
def crcBit (width poly reg : Nat) (b : Bool) : Nat :=
  let shifted := (reg * 2) % 2 ^ width
  if Nat.testBit reg (width - 1) != b then shifted ^^^ poly else shifted

/-- Bits of a byte, most significant first. -/
def byteBitsMsb (b : Nat) : List Bool := [7, 6, 5, 4, 3, 2, 1, 0].map (Nat.testBit b)

/-- Bits of a byte, least significant first. -/
def byteBitsLsb (b : Nat) : List Bool := [0, 1, 2, 3, 4, 5, 6, 7].map (Nat.testBit b)

/-- The low `n` bits of `v` in reverse order. -/
def reflect : Nat → Nat → Nat
  | 0, _ => 0
  | n + 1, v => (v % 2) * 2 ^ n + reflect n (v / 2)

/-- One byte into a CRC that is not reflected. -/
def crcByteMsb (width poly reg : Nat) (b : Byte) : Nat := (byteBitsMsb b.toNat).foldl (crcBit width poly) reg

/-- One byte into a reflected CRC, its register held unreflected. -/
def crcByteLsb (width poly reg : Nat) (b : Byte) : Nat := (byteBitsLsb b.toNat).foldl (crcBit width poly) reg

/-- The four polynomials of CHK.CFG.POLY (R585): width, polynomial, reflected. The final XOR of the two
reflected ones is all ones, and that of the others 0. -/
inductive CrcKind where
  | crc16 | crc32 | crc32c | crc64
  deriving DecidableEq, Repr

/-- Width in bits. -/
def CrcKind.width : CrcKind → Nat
  | .crc16 => 16 | .crc32 => 32 | .crc32c => 32 | .crc64 => 64

/-- Generator polynomial. -/
def CrcKind.poly : CrcKind → Nat
  | .crc16 => 0x1021 | .crc32 => 0x04C11DB7 | .crc32c => 0x1EDC6F41 | .crc64 => 0x42F0E1EBA9EA3693

/-- Whether each byte is taken least significant bit first. -/
def CrcKind.reflected : CrcKind → Bool
  | .crc16 => false | .crc32 => true | .crc32c => true | .crc64 => false

/-- Length of the check value in bytes. -/
def CrcKind.bytes (k : CrcKind) : Nat := k.width / 8

/-- The CRC that POLY selects. -/
def crcKindOf : Nat → CrcKind
  | 0 => .crc16 | 1 => .crc32 | 2 => .crc32c | _ => .crc64

/-- Initial register: all ones for each of the four. -/
def crcInit (k : CrcKind) : Nat := 2 ^ k.width - 1

/-- One byte into the running register. -/
def crcFeed (k : CrcKind) (reg : Nat) (b : Byte) : Nat :=
  if k.reflected then crcByteLsb k.width k.poly reg b else crcByteMsb k.width k.poly reg b

/-- The value that a running register stands for at the end. -/
def crcFinal (k : CrcKind) (reg : Nat) : Nat :=
  if k.reflected then reflect k.width reg ^^^ (2 ^ k.width - 1) else reg

/-- The CRC of a byte string. -/
def crcOf (k : CrcKind) (bs : List Byte) : Nat := crcFinal k (bs.foldl (crcFeed k) (crcInit k))

/-- CRC-32C, the check of dictionary frames, parameter sets and images. -/
def crc32c (bs : List Byte) : Nat := crcOf .crc32c bs

/-- CRC-64/ECMA-182, the check of signatures, checkpoint records and images. -/
def crc64 (bs : List Byte) : Nat := crcOf .crc64 bs

end Sys2Proof.Machine
end

