-- ==== Sys2Proof/Machine/Crypto.lean ====
section
/-!
DEFINITION. The standard algorithms that spec/ names: SHA-256 and SHA-512 of FIPS 180-4, HMAC-SHA-256 of RFC 2104, and the verification
of an Ed25519 signature of RFC 8032 (11_object_dictionary.md R538, 13_update_and_online_change.md R602).
-/
namespace Sys2Proof.Machine

/-! ### SHA-2 -/

/-- Round constants of SHA-256. -/
def sha256K : List Nat :=
  [0x428A2F98, 0x71374491, 0xB5C0FBCF, 0xE9B5DBA5, 0x3956C25B, 0x59F111F1, 0x923F82A4, 0xAB1C5ED5,
   0xD807AA98, 0x12835B01, 0x243185BE, 0x550C7DC3, 0x72BE5D74, 0x80DEB1FE, 0x9BDC06A7, 0xC19BF174] ++
  [0xE49B69C1, 0xEFBE4786, 0xFC19DC6, 0x240CA1CC, 0x2DE92C6F, 0x4A7484AA, 0x5CB0A9DC, 0x76F988DA,
   0x983E5152, 0xA831C66D, 0xB00327C8, 0xBF597FC7, 0xC6E00BF3, 0xD5A79147, 0x6CA6351, 0x14292967] ++
  [0x27B70A85, 0x2E1B2138, 0x4D2C6DFC, 0x53380D13, 0x650A7354, 0x766A0ABB, 0x81C2C92E, 0x92722C85,
   0xA2BFE8A1, 0xA81A664B, 0xC24B8B70, 0xC76C51A3, 0xD192E819, 0xD6990624, 0xF40E3585, 0x106AA070] ++
  [0x19A4C116, 0x1E376C08, 0x2748774C, 0x34B0BCB5, 0x391C0CB3, 0x4ED8AA4A, 0x5B9CCA4F, 0x682E6FF3,
   0x748F82EE, 0x78A5636F, 0x84C87814, 0x8CC70208, 0x90BEFFFA, 0xA4506CEB, 0xBEF9A3F7, 0xC67178F2]

/-- Initial hash value of SHA-256. -/
def sha256H : List Nat :=
  [0x6A09E667, 0xBB67AE85, 0x3C6EF372, 0xA54FF53A, 0x510E527F, 0x9B05688C, 0x1F83D9AB, 0x5BE0CD19]

/-- Round constants of SHA-512. -/
def sha512K : List Nat :=
  [0x428A2F98D728AE22, 0x7137449123EF65CD, 0xB5C0FBCFEC4D3B2F, 0xE9B5DBA58189DBBC, 0x3956C25BF348B538,
   0x59F111F1B605D019, 0x923F82A4AF194F9B, 0xAB1C5ED5DA6D8118, 0xD807AA98A3030242, 0x12835B0145706FBE,
   0x243185BE4EE4B28C, 0x550C7DC3D5FFB4E2, 0x72BE5D74F27B896F, 0x80DEB1FE3B1696B1, 0x9BDC06A725C71235,
   0xC19BF174CF692694] ++
  [0xE49B69C19EF14AD2, 0xEFBE4786384F25E3, 0xFC19DC68B8CD5B5, 0x240CA1CC77AC9C65, 0x2DE92C6F592B0275,
   0x4A7484AA6EA6E483, 0x5CB0A9DCBD41FBD4, 0x76F988DA831153B5, 0x983E5152EE66DFAB, 0xA831C66D2DB43210,
   0xB00327C898FB213F, 0xBF597FC7BEEF0EE4, 0xC6E00BF33DA88FC2, 0xD5A79147930AA725, 0x6CA6351E003826F,
   0x142929670A0E6E70] ++
  [0x27B70A8546D22FFC, 0x2E1B21385C26C926, 0x4D2C6DFC5AC42AED, 0x53380D139D95B3DF, 0x650A73548BAF63DE,
   0x766A0ABB3C77B2A8, 0x81C2C92E47EDAEE6, 0x92722C851482353B, 0xA2BFE8A14CF10364, 0xA81A664BBC423001,
   0xC24B8B70D0F89791, 0xC76C51A30654BE30, 0xD192E819D6EF5218, 0xD69906245565A910, 0xF40E35855771202A,
   0x106AA07032BBD1B8] ++
  [0x19A4C116B8D2D0C8, 0x1E376C085141AB53, 0x2748774CDF8EEB99, 0x34B0BCB5E19B48A8, 0x391C0CB3C5C95A63,
   0x4ED8AA4AE3418ACB, 0x5B9CCA4F7763E373, 0x682E6FF3D6B2B8A3, 0x748F82EE5DEFB2FC, 0x78A5636F43172F60,
   0x84C87814A1F0AB72, 0x8CC702081A6439EC, 0x90BEFFFA23631E28, 0xA4506CEBDE82BDE9, 0xBEF9A3F7B2C67915,
   0xC67178F2E372532B] ++
  [0xCA273ECEEA26619C, 0xD186B8C721C0C207, 0xEADA7DD6CDE0EB1E, 0xF57D4F7FEE6ED178, 0x6F067AA72176FBA,
   0xA637DC5A2C898A6, 0x113F9804BEF90DAE, 0x1B710B35131C471B, 0x28DB77F523047D84, 0x32CAAB7B40C72493,
   0x3C9EBE0A15C9BEBC, 0x431D67C49C100D4C, 0x4CC5D4BECB3E42B6, 0x597F299CFC657E2A, 0x5FCB6FAB3AD6FAEC,
   0x6C44198C4A475817]

/-- Initial hash value of SHA-512. -/
def sha512H : List Nat :=
  [0x6A09E667F3BCC908, 0xBB67AE8584CAA73B, 0x3C6EF372FE94F82B, 0xA54FF53A5F1D36F1,
   0x510E527FADE682D1, 0x9B05688C2B3E6C1F, 0x1F83D9ABFB41BD6B, 0x5BE0CD19137E2179]

/-- Widths and rotations of a SHA-2 function: word width, block length and length field in bytes, and the amounts of its four
functions (the third of each small one is a shift). -/
structure ShaForm where
  w : Nat
  block : Nat
  lenBytes : Nat
  big0 : Nat × Nat × Nat
  big1 : Nat × Nat × Nat
  small0 : Nat × Nat × Nat
  small1 : Nat × Nat × Nat
  k : List Nat
  h : List Nat

/-- SHA-256. -/
def sha256Form : ShaForm :=
  { w := 32, block := 64, lenBytes := 8, big0 := (2, 13, 22), big1 := (6, 11, 25), small0 := (7, 18, 3), small1 := (17, 19, 10),
    k := sha256K, h := sha256H }

/-- SHA-512. -/
def sha512Form : ShaForm :=
  { w := 64, block := 128, lenBytes := 16, big0 := (28, 34, 39), big1 := (14, 18, 41), small0 := (1, 8, 7), small1 := (19, 61, 6),
    k := sha512K, h := sha512H }

/-- Rotation to the right in `w` bits. -/
def rotr (w n x : Nat) : Nat := (x >>> n) ||| ((x * 2 ^ (w - n)) % 2 ^ w)

/-- A large function: three rotations. -/
def shaBig (w : Nat) (r : Nat × Nat × Nat) (x : Nat) : Nat := rotr w r.1 x ^^^ rotr w r.2.1 x ^^^ rotr w r.2.2 x

/-- A small function: two rotations and a shift. -/
def shaSmall (w : Nat) (r : Nat × Nat × Nat) (x : Nat) : Nat := rotr w r.1 x ^^^ rotr w r.2.1 x ^^^ (x >>> r.2.2)

/-- The message schedule extended by `n` words; the newest word stands first. -/
def shaSchedule (f : ShaForm) : Nat → List Nat → List Nat
  | 0, ws => ws
  | n + 1, ws =>
    let x := (shaSmall f.w f.small1 (nth 0 1 ws) + nth 0 6 ws + shaSmall f.w f.small0 (nth 0 14 ws) + nth 0 15 ws) % 2 ^ f.w
    shaSchedule f n (x :: ws)

/-- One round on the eight working variables. -/
def shaRound (f : ShaForm) (v : List Nat) (kw : Nat × Nat) : List Nat :=
  let m := 2 ^ f.w
  let a := nth 0 0 v
  let b := nth 0 1 v
  let c := nth 0 2 v
  let e := nth 0 4 v
  let ch := (e &&& nth 0 5 v) ^^^ ((m - 1 - e) &&& nth 0 6 v)
  let maj := (a &&& b) ^^^ (a &&& c) ^^^ (b &&& c)
  let t1 := (nth 0 7 v + shaBig f.w f.big1 e + ch + kw.1 + kw.2) % m
  let t2 := (shaBig f.w f.big0 a + maj) % m
  [(t1 + t2) % m, a, b, c, (nth 0 3 v + t1) % m, e, nth 0 5 v, nth 0 6 v]

/-- One block into the hash value. -/
def shaBlock (f : ShaForm) (h : List Nat) (b : List Byte) : List Nat :=
  let ws := (chunks (f.w / 8) b).map beNat
  let all := (shaSchedule f (f.k.length - 16) ws.reverse).reverse
  List.zipWith (fun x y => (x + y) % 2 ^ f.w) h ((f.k.zip all).foldl (shaRound f) h)

/-- A message padded to whole blocks. -/
def shaPad (f : ShaForm) (m : List Byte) : List Byte :=
  let fill := (f.block * 2 - 1 - f.lenBytes - m.length % f.block) % f.block
  m ++ [0x80] ++ zeros fill ++ toBE f.lenBytes (8 * m.length)

/-- The hash of a message. -/
def shaOf (f : ShaForm) (m : List Byte) : List Byte :=
  (((chunks f.block (shaPad f m)).foldl (shaBlock f) f.h).map (toBE (f.w / 8))).flatten

/-- SHA-256. -/
def sha256 (m : List Byte) : List Byte := shaOf sha256Form m

/-- SHA-512. -/
def sha512 (m : List Byte) : List Byte := shaOf sha512Form m

/-- HMAC-SHA-256 (RFC 2104). -/
def hmac256 (key m : List Byte) : List Byte :=
  let k0 := if key.length ≤ 64 then key else sha256 key
  let k := k0 ++ zeros (64 - k0.length)
  sha256 (k.map (· ^^^ 0x5C) ++ sha256 (k.map (· ^^^ 0x36) ++ m))

/-! ### Ed25519 -/

/-- The field prime. -/
def edP : Nat := 2 ^ 255 - 19

/-- Order of the base point. -/
def edL : Nat := 2 ^ 252 + 27742317777372353535851937790883648493

/-- `b` to the power `e` modulo `m`, over the low `n` bits of `e`. -/
def powMod (m : Nat) : Nat → Nat → Nat → Nat
  | 0, _, _ => 1 % m
  | n + 1, b, e =>
    let r := powMod m n (b * b % m) (e / 2)
    if e % 2 = 1 then r * b % m else r

/-- The inverse in the field. -/
def edInv (x : Nat) : Nat := powMod edP 255 x (edP - 2)

/-- The curve constant d. -/
def edD : Nat := (edP - 121665) * edInv 121666 % edP

/-- A point in extended coordinates X, Y, Z, T. -/
structure EdPoint where
  x : Nat
  y : Nat
  z : Nat
  t : Nat

/-- The sum of two points. -/
def EdPoint.add (p q : EdPoint) : EdPoint :=
  let a := (p.y + edP - p.x) * (q.y + edP - q.x) % edP
  let b := (p.y + p.x) * (q.y + q.x) % edP
  let c := 2 * p.t * q.t % edP * edD % edP
  let d := 2 * p.z * q.z % edP
  let e := (b + edP - a) % edP
  let f := (d + edP - c) % edP
  let g := (d + c) % edP
  let h := (b + a) % edP
  { x := e * f % edP, y := g * h % edP, z := f * g % edP, t := e * h % edP }

/-- The neutral point. -/
def edZero : EdPoint := { x := 0, y := 1, z := 1, t := 0 }

/-- `e` times a point, over the low `n` bits of `e`. -/
def edMul : Nat → Nat → EdPoint → EdPoint
  | 0, _, _ => edZero
  | n + 1, e, p =>
    let r := edMul n (e / 2) (p.add p)
    if e % 2 = 1 then r.add p else r

/-- Two points are one. -/
def EdPoint.same (p q : EdPoint) : Bool :=
  p.x * q.z % edP == q.x * p.z % edP && p.y * q.z % edP == q.y * p.z % edP

/-- The x coordinate for a y and a sign bit. -/
def edRecover (y sign : Nat) : Option Nat :=
  if edP ≤ y then none
  else
    let u := (y * y + edP - 1) % edP
    let v := (edD * y % edP * y + 1) % edP
    let x2 := u * edInv v % edP
    let r := powMod edP 255 x2 ((edP + 3) / 8)
    let r := if r * r % edP = x2 then r else r * powMod edP 255 2 ((edP - 1) / 4) % edP
    if r * r % edP ≠ x2 then none
    else if r = 0 ∧ sign = 1 then none
    else if r % 2 = sign then some r else some (edP - r)

/-- A point from its 32 bytes. -/
def edDecode (bs : List Byte) : Option EdPoint :=
  if bs.length ≠ 32 then none
  else
    let v := leNat bs
    let y := v % 2 ^ 255
    (edRecover y (v / 2 ^ 255)).map (fun x => { x := x, y := y, z := 1, t := x * y % edP })

/-- The base point. -/
def edBase : EdPoint :=
  let y := 4 * edInv 5 % edP
  let x := (edRecover y 0).getD 0
  { x := x, y := y, z := 1, t := x * y % edP }

/-- Verification of a 64-byte signature over a message under a public key. -/
def edVerify (key m sig : List Byte) : Bool :=
  let s := leNat (sig.drop 32)
  match edDecode key, edDecode (sig.take 32) with
  | some a, some r =>
    if sig.length = 64 ∧ s < edL then
      let k := leNat (sha512 (sig.take 32 ++ key ++ m)) % edL
      (edMul 4 8 (edMul 256 s edBase)).same (edMul 4 8 (r.add (edMul 256 k a)))
    else false
  | _, _ => false

end Sys2Proof.Machine
end

