-- ==== Sys2Proof/Machine/Efavo.lean ====
section
/-!
DEFINITION. The Efavo link of 08_efavo_link.md: ports, link time, lock states, schedule modes, inauguration, safety telegrams
and queues, as functions of the link's state and of what a command gives it.
-/
namespace Sys2Proof.Machine

/-- What a step gives the link: tick, mode, the dictionary parameters by index and subindex, and the unique ID. -/
structure EfEnv where
  tick : Nat
  mode : Mode
  par : Nat → Nat → Nat
  uid : Nat

/-- The link at work in a step, with the events raised and the frames sent, in order. -/
structure EWork where
  e : Efl
  ev : List Nat := []
  tx : List EfTx := []
  counted : Nat := 0

/-- An event raised. -/
def EWork.raise (n : Nat) (w : EWork) : EWork := { w with ev := w.ev ++ [n] }
/-- Port `p`. -/
def EWork.port (w : EWork) (p : Nat) : EfPort := nth {} p w.e.ports
/-- Port changed. -/
def EWork.modPort (p : Nat) (k : EfPort → EfPort) (w : EWork) : EWork :=
  { w with e := { w.e with ports := modNth p k w.e.ports } }
/-- A frame handed to ports. -/
def EWork.send (ps : List Nat) (f : EfFrame) (w : EWork) : EWork :=
  if ps.isEmpty then w else { w with tx := w.tx ++ [{ ports := ps, frame := f }] }

/-- The comms controllers run in these modes (R382, R670). -/
def commsRun (m : Mode) : Bool := m == .configure || m == .standby || m == .run || m == .safe

/-- A port in service: up and not retired (R382, R383). -/
def portLive (p : EfPort) : Bool := p.up && !p.retired

/-- Line of a port (R381): 0 for A, 1 for B. -/
def lineOf (p : Nat) : Nat := p / 2

/-- The other port of a line. -/
def mate (p : Nat) : Nat := if p % 2 = 0 then p + 1 else p - 1

/-- Live ports of a line. -/
def livePorts (e : Efl) (line : Nat) : List Nat := [2 * line, 2 * line + 1].filter (fun p => portLive (nth {} p e.ports))

/-- A line whose two ports are both retired or down (R436). -/
def lineLost (e : Efl) (line : Nat) : Bool := (livePorts e line).isEmpty

/-- The module's function IDs (R385). -/
def EfEnv.functions (env : EfEnv) : List Nat := ((rangeFrom 3 8).map (env.par 0x7001)).filter (fun f => decide (f ≠ 0))

/-- A frame originated on both lines, on every live port, its line in FLAGS bit 0 (R383, R387). -/
def originate (f : EfFrame) (w : EWork) : EWork :=
  let w := w.send (livePorts w.e 0) { f with flags := setBit 0 false f.flags }
  w.send (livePorts w.e 1) { f with flags := setBit 0 true f.flags }

/-! ### Schedule table -/

/-- Slots of a mode, in table order; a slot's index is its place here. -/
def slotsOf (s : Schedule) (mode : Nat) : List SlotDef := s.slots.filter (fun d => d.mode == mode)

/-- Link cycle of a mode in ticks. -/
def Schedule.lc (s : Schedule) (mode : Nat) : Nat := nth 0 mode s.lcyc

/-- A mode that the table defines. -/
def Schedule.defines (s : Schedule) (mode : Nat) : Bool := decide (mode < 8) && decide (0 < s.lc mode)

/-- The stream entry of a number. -/
def Schedule.streamDef (s : Schedule) (n : Nat) : Option StreamDef := s.streams.find? (fun d => d.stream == n)

/-- Link cycle in ns of the mode in force; 0 without a table. -/
def cycleNs (e : Efl) : Nat := match e.sched with
  | some s => s.lc e.mode * 250000
  | none => 0

/-- The slot of an index in the mode in force. -/
def slotAt (e : Efl) (i : Nat) : Option SlotDef := match e.sched with
  | some s => (slotsOf s e.mode)[i]?
  | none => none

/-- Due instant of a slot-bound frame from the cycle start (R406). -/
def dueOf (d : SlotDef) (typ : Nat) : Nat := if typ = 3 then d.start + d.respoff else d.start

/-- Link cycle number at an instant of link time (R390): the last one known, raised by the cycles that have passed. -/
def cycleAt (e : Efl) (now : Nat) : Nat :=
  if cycleNs e = 0 then e.cycleNo else e.cycleNo + (now - e.cycleStart) / cycleNs e

/-- Start of the link cycle that is running at an instant. -/
def startAt (e : Efl) (now : Nat) : Nat :=
  if cycleNs e = 0 then e.cycleStart else e.cycleStart + (now - e.cycleStart) / cycleNs e * cycleNs e

/-! ### Port faults (R56, R57, R435, R436) -/

/-- The line-lost event, when a line that was not lost before is lost now (R436). -/
def lostLines (before : Efl) (w : EWork) : EWork :=
  let w := if lineLost w.e 0 && !lineLost before 0 then w.raise 153 else w
  if lineLost w.e 1 && !lineLost before 1 then w.raise 153 else w

/-- A port retires (R435, R436). -/
def retirePort (p : Nat) (w : EWork) : EWork :=
  if (w.port p).retired then w
  else lostLines w.e ((w.modPort p (fun x => { x with retired := true, crcRetry := none, slotRetry := none, sentAt := none })).raise 152)

/-- A transient port fault counted in its window, stamped with its detection; permanent at the N-th within W (R56, R57). -/
def countPort (env : EfEnv) (found p : Nat) (w : EWork) : EWork :=
  let n := env.par 0x7010 1
  let l := lastN n ((w.port p).faults ++ [found])
  let w := w.modPort p (fun x => { x with faults := l })
  let w := { w with counted := w.counted + 1 }
  if n ≤ l.length ∧ found - l.headD found < env.par 0x7010 2 * 4000 then retirePort p w else w

/-- A CRC error of a port (R388, R435): its retry is the CYCLE frame of the next link cycle on that port. -/
def crcError (env : EfEnv) (p : Nat) (isCycle : Bool) (now : Nat) (w : EWork) : EWork :=
  let c := cycleAt w.e now
  let w := (w.modPort p (fun x => { x with crcErrors := add32 x.crcErrors 1 })).raise 140
  match (w.port p).crcRetry with
  | some (at_, _) => if isCycle && decide (at_ < c) then retirePort p w else w
  | none => w.modPort p (fun x => { x with crcRetry := some (c, env.tick) })

/-- A frame outside its slot counted on a port, with its retry (R406, R407, R435). -/
def slotCounted (env : EfEnv) (p : Nat) (recurs : Bool) (now : Nat) (w : EWork) : EWork :=
  let c := cycleAt w.e now
  let w := w.modPort p (fun x => { x with slotErrors := add32 x.slotErrors 1 })
  match (w.port p).slotRetry with
  | some (at_, _) => if recurs && decide (at_ < c) then retirePort p w else w
  | none => w.modPort p (fun x => { x with slotRetry := some (c, env.tick) })

/-- A frame received outside its slot (R406). -/
def slotError (env : EfEnv) (p : Nat) (recurs : Bool) (now : Nat) (w : EWork) : EWork := (slotCounted env p recurs now w).raise 141

/-- The retry of a CRC error that a CYCLE frame with a good FCS passes (R435): the transient fault is counted. -/
def passCrcRetry (env : EfEnv) (p : Nat) (c : Nat) (w : EWork) : EWork := match (w.port p).crcRetry with
  | some (at_, tick) => if at_ < c then countPort env tick p (w.modPort p (fun x => { x with crcRetry := none })) else w
  | none => w

/-- The retry of a frame outside its slot that a CYCLE frame inside its window passes (R435). -/
def passSlotRetry (env : EfEnv) (p : Nat) (c : Nat) (w : EWork) : EWork :=
  match (w.port p).slotRetry with
  | some (at_, tick) => if at_ < c then countPort env tick p (w.modPort p (fun x => { x with slotRetry := none })) else w
  | none => w

/-! ### Inauguration (R416 to R423) -/

/-- The node's key (R417): priority and unique ID. -/
def EfEnv.key (env : EfEnv) : Nat := env.par 0x7001 1 * 2 ^ 48 + env.uid % 2 ^ 48

/-- A candidate (R417). -/
def EfEnv.candidate (env : EfEnv) : Bool := decide (env.par 0x7001 1 < 0xFFFF)

/-- An announced switch given up (R413, R415). -/
def abandonSwitch (w : EWork) : EWork :=
  if w.e.swState == .announced || w.e.swState == .confirmed then
    ({ w with e := { w.e with swState := .abandoned, swAcked := false, swAcks := [], swOutcome := 0x0225 } }).raise 139
  else w

/-- Inauguration starts, or starts again at step 1 (R416, R422): UNLOCKED, no frame of types 1 to 4. -/
def startInaug (env : EfEnv) (now : Nat) (w : EWork) : EWork :=
  let w := abandonSwitch w
  let c := cycleAt w.e now
  ({ w with e :=
    { w.e with
      cycleNo := c, cycleStart := startAt w.e now, seenCycle := max w.e.seenCycle c,
      inaug := true, lock := .unlocked, goodRun := 0, slewNs := 0, lockRetry := none, master := false, polled := [],
      swMute := false, phase := if env.candidate then .waiting else .none,
      phaseEnd := now + env.uid % 256 * 1000,
      lowest := if env.candidate then some env.key else none, backoffs := 0,
      hopsA := none, hopsB := none, reports := [] } }).raise 128

/-- A link-up or link-down of a port (R416; event 151). -/
def portLink (env : EfEnv) (p : Nat) (up phyMaster : Bool) (now : Nat) (w : EWork) : EWork :=
  if (w.port p).up = up ∨ 4 ≤ p then w
  else
    let before := w.e
    let w := (w.modPort p (fun x => { x with up := up, phyMaster := phyMaster, sentAt := none })).raise 151
    let w := lostLines before w
    if (w.port p).retired || !commsRun env.mode then w else startInaug env now w

/-- The CLAIM frame of this node. -/
def claimFrame (env : EfEnv) (e : Efl) : EfFrame :=
  { typ := 7, dst := 0xFFFF, src := e.address, topo := e.topoCounter, body := .claim env.key }

/-- A CLAIM sent, with a claim window of 2 ms (R418 step 1). -/
def claimSend (env : EfEnv) (now : Nat) (w : EWork) : EWork :=
  if w.e.inaug && w.e.phase == .waiting && decide (w.e.phaseEnd ≤ now) then
    originate (claimFrame env w.e) { w with e := { w.e with phase := .window, phaseEnd := now + 2000000 } }
  else w

/-- The end of a back-off: the CLAIM again (R419). -/
def backoffEnd (env : EfEnv) (now : Nat) (w : EWork) : EWork :=
  if w.e.inaug && w.e.phase == .backoff && decide (w.e.phaseEnd ≤ now) then
    originate (claimFrame env w.e) { w with e := { w.e with phase := .window, phaseEnd := now + 2000000 } }
  else w

/-- A frame passed on to the other port of its line (R382). -/
def forward (p : Nat) (f : EfFrame) (w : EWork) : EWork :=
  if portLive (w.port (mate p)) && !(w.port p).retired then w.send [mate p] f else w

/-- A CLAIM received during an inauguration (R418 step 2, R419). -/
def claimReceived (env : EfEnv) (p key : Nat) (f : EfFrame) (now : Nat) (w : EWork) : EWork :=
  let lower := match w.e.lowest with
    | some k => decide (key < k)
    | none => true
  if lower then
    let w := forward p f { w with e := { w.e with lowest := some key } }
    if env.candidate && decide (key < env.key) && w.e.phase != .collecting then
      { w with e := { w.e with phase := .withdrawn } }
    else w
  else if w.e.phase == .window && decide (now < w.e.phaseEnd) && decide (env.key < key) && decide (w.e.backoffs < 4) then
    ({ w with e :=
      { w.e with
        phase := .backoff, backoffs := w.e.backoffs + 1,
        phaseEnd := now + 1000000 + env.uid % 16 * 250000 } }).raise 131
  else w

/-- The own claim window ends with no lower key seen (R418 step 4): the candidate becomes master. -/
def claimWindowEnd (env : EfEnv) (now : Nat) (w : EWork) : EWork :=
  if w.e.inaug && w.e.phase == .window && decide (w.e.phaseEnd ≤ now) && w.e.lowest == some env.key then
    let w := ({ w with e :=
      { w.e with phase := .collecting, master := true, masterKey := env.key, reports := [] } }).raise 130
    let req (side : Nat) : EfFrame := { typ := 8, dst := 0xFFFF, src := 0, body := .topoReq side 1 }
    let w := w.send ([0, 2].filter (fun p => portLive (w.port p))) (req 0)
    w.send ([1, 3].filter (fun p => portLive (w.port p))) (req 1)
  else w

/-- TOPO_REQ received (R418 step 4): side and hop count are kept for each line, and the frame goes on with one hop more. -/
def topoReq (p side hops : Nat) (f : EfFrame) (w : EWork) : EWork :=
  if w.e.master then w
  else
    let w := if !w.e.inaug then w
      else if lineOf p = 0 then { w with e := { w.e with hopsA := some (side, hops) } }
      else { w with e := { w.e with hopsB := some (side, hops) } }
    forward p { f with body := .topoReq side (hops + 1) } w

/-- The report of this node on one line (R418 step 5). -/
def reportOf (env : EfEnv) (e : Efl) (residence line side hops : Nat) : TopoReport :=
  let d (l : Nat) : Nat := max (nth {} (2 * l) e.ports).delay (nth {} (2 * l + 1) e.ports).delay
  { uniqueId := env.uid, line := line, side := side, hops := hops, residence := residence, functions := env.functions,
    counter := e.topoCounter, schedCrc := (e.sched.map (·.crc)).getD 0, hopA := d 0, hopB := d 1 }

/-- TOPO_RESP sent on each line that the request reached (R418 step 5). -/
def topoRespSend (env : EfEnv) (residence : Nat) (w : EWork) : EWork :=
  if !w.e.inaug || w.e.master then w
  else
    let one (line : Nat) (h : Option (Nat × Nat)) (w : EWork) : EWork := match h with
      | some (side, hops) =>
        w.send (livePorts w.e line) { typ := 9, dst := 0xFFFF, src := 0, body := .topoResp (reportOf env w.e residence line side hops) }
      | none => w
    one 1 w.e.hopsB (one 0 w.e.hopsA w)

/-- TOPO_RESP received by the new master (R420): kept once for each node and line. -/
def topoResp (r : TopoReport) (w : EWork) : EWork :=
  if w.e.inaug && w.e.master && !w.e.reports.any (fun x => x.uniqueId == r.uniqueId && x.line == r.line) then
    { w with e := { w.e with reports := w.e.reports ++ [r] } }
  else w

/-- The report that counts for each node: of Line A where it is reached there (R420). -/
def bestReports (rs : List TopoReport) : List TopoReport :=
  rs.filter (fun r => r.line == 0) ++
    rs.filter (fun r => r.line != 0 && !rs.any (fun x => x.uniqueId == r.uniqueId && x.line == 0))

/-- Reports in order of their hop counts, insertion by rising count. -/
def insertReport (r : TopoReport) : List TopoReport → List TopoReport
  | [] => [r]
  | x :: xs => if r.hops ≤ x.hops then r :: x :: xs else x :: insertReport r xs

/-- Reports sorted by rising hop count. -/
def sortReports (rs : List TopoReport) : List TopoReport := rs.foldr insertReport []

/-- Positions 1 upwards in the order of R420: the far end of the port-0 side first, the master, then the port-1 side. -/
def numberNodes (env : EfEnv) (e : Efl) (residence : Nat) : List TopoNode :=
  let rs := bestReports e.reports
  let self := reportOf env e residence 0 0 0
  let order := (sortReports (rs.filter (fun r => r.side == 0))).reverse ++ [self] ++ sortReports (rs.filter (fun r => r.side == 1))
  let rec number : Nat → List TopoReport → List TopoNode
    | _, [] => []
    | i, r :: rest =>
      { uniqueId := r.uniqueId, number := if i ≤ 254 then i else 0, position := i, residence := r.residence,
        functions := r.functions, hopA := r.hopA, hopB := r.hopB } :: number (i + 1) rest
  number 1 order

/-- A published topology taken over: own address and position (R420, R421), mode (R415), event 129. -/
def adoptTopology (env : EfEnv) (t : Topology) (w : EWork) : EWork :=
  let mine : Option TopoNode := t.nodes.find? (fun n => n.uniqueId == env.uid)
  let number : Nat := (mine.map (·.number)).getD 0
  let position : Nat := (mine.map (·.position)).getD 0
  ({ w with e :=
    { w.e with
      inaug := false, phase := .none, topo := some t, topoCounter := t.counter, masterKey := t.masterKey,
      address := if number = 0 then 0 else t.segment * 256 + number,
      position := position, seenFrames := [], swState := .none } }).raise 129

/-- The new master numbers the nodes and sends TOPO (R420, R421, R423). -/
def topoPublish (env : EfEnv) (residence now : Nat) (w : EWork) : EWork :=
  if w.e.inaug && w.e.master && w.e.phase == .collecting then
    let nodes := numberNodes env w.e residence
    let counter := ((w.e.reports.map (·.counter)).foldl max w.e.topoCounter + 1) % 65536
    let t : Topology :=
      { counter := counter, segment := (w.e.sched.map (·.segment)).getD 0, masterKey := env.key, nodes := nodes }
    let keep := match w.e.sched with
      | some s => s.defines w.e.mode
      | none => false
    let w := { w with e := { w.e with mode := if keep then w.e.mode else 0, cycleNo := cycleAt w.e now, cycleStart := startAt w.e now } }
    let w := if nodes.any (fun n => n.number == 0) then w.raise 132 else w
    let w := originate { typ := 10, dst := 0xFFFF, src := 0, topo := counter, body := .topo t } w
    let w := adoptTopology env t w
    { w with e := { w.e with master := true } }
  else w

/-- TOPO received (R420, R421). -/
def topoReceived (env : EfEnv) (t : Topology) (w : EWork) : EWork :=
  if w.e.inaug && !w.e.master then adoptTopology env t w else w

/-! ### Hop delays (R392 to R394) -/

/-- Hop delay of R392, rounded to the nearest ns. -/
def hopDelay (t1 t2 t3 t4 : Nat) : Nat := (((t4 : Int) - t1 - ((t3 : Int) - t2) + 1) / 2).toNat

/-- A measurement judged (R393). -/
def hopMeasured (p d : Nat) (w : EWork) : EWork :=
  let x := w.port p
  let near (a b : Nat) : Bool := decide (a ≤ b + 20) && decide (b ≤ a + 20)
  if x.delay ≠ 0 ∧ near d x.delay then w.modPort p (fun y => { y with delay := d, candidate := none })
  else match x.candidate with
    | some c =>
      if near d c then w.modPort p (fun y => { y with delay := d, candidate := none })
      else (w.modPort p (fun y => { y with candidate := some d })).raise 155
    | none =>
      let w := w.modPort p (fun y => { y with candidate := some d })
      if x.delay = 0 then w else w.raise 155

/-- The delay requests of a measurement (R394, R418 step 3): at inauguration, in the node's own maintenance window, and in the
next one after a rejection. -/
def measureHops (now : Nat) (w : EWork) : EWork :=
  let due := w.e.inaug || decide (cycleAt w.e now % 1000 = w.e.position) || w.e.ports.any (fun p => p.candidate.isSome)
  if due then
    (rangeFrom 0 4).foldl (fun w p =>
      if portLive (w.port p) then
        (w.modPort p (fun x => { x with sentAt := some now })).send [p]
          { typ := 5, dst := 0xFFFF, src := w.e.address, body := .delayReq }
      else w) w
  else w

/-- DELAY_RESP received (R392, R393). -/
def delayResp (p t2 t3 now : Nat) (w : EWork) : EWork := match (w.port p).sentAt with
  | some t1 => hopMeasured p (hopDelay t1 t2 t3 now) (w.modPort p (fun x => { x with sentAt := none }))
  | none => w

/-! ### Path delay (R395, R406) -/

/-- Position of the link master in a topology. -/
def masterPosition (t : Topology) : Nat :=
  ((t.nodes.find? (fun n => n.uniqueId == t.masterKey % 2 ^ 48)).map (·.position)).getD 0

/-- Delay of the hop between positions `i` and `i + 1` on a line, as the node farther from the master has stored it. -/
def hopBetween (t : Topology) (line i : Nat) : Nat :=
  let owner := if masterPosition t ≤ i then i + 1 else i
  match t.nodes.find? (fun n => n.position == owner) with
  | some n => if line = 0 then n.hopA else n.hopB
  | none => 0

/-- Sum of the hop delays between two positions; with `resid`, also of the residence times of the nodes between them. -/
def pathDelay (t : Topology) (line a b : Nat) (resid : Bool) : Nat :=
  let lo := min a b
  let hi := max a b
  let hops := ((rangeFrom lo (hi - lo)).map (hopBetween t line)).foldl (· + ·) 0
  let inner := (t.nodes.filter (fun n => decide (lo < n.position) && decide (n.position < hi))).map (·.residence)
  if resid then hops + inner.foldl (· + ·) 0 else hops

/-- Position of a node address. -/
def positionOf (t : Topology) (addr : Nat) : Nat :=
  ((t.nodes.find? (fun n => n.number == addr % 256 && n.number != 0)).map (·.position)).getD 0

/-! ### Link time and lock state (R395 to R397) -/

/-- The number under which the session of a transmit stream is kept (R506): a twin's lower one, else the stream's own. -/
def sessionKey (e : Efl) (n : Nat) : Nat := match e.sched.bind (fun s => s.streamDef n), e.sched with
  | some d, some s =>
    ((s.streams.filter (fun x => x.cls == 1 && d.cls == 1 && x.source == d.source && x.plen == d.plen && x.timeout == d.timeout &&
      x.connkey == d.connkey)).map (·.stream)).foldl min n
  | _, _ => n

/-- New sessions of every transmit stream (R427): SESSION + 1 from FRAM, B the current link cycle number. The streams of a twin share
both (R506). -/
def newSessions (cycle : Nat) (e : Efl) : Efl :=
  let next (t : TxStream) : Nat := (spGet 0 (sessionKey e t.stream) e.stored + 1) % 65536
  { e with
    tx := e.tx.map (fun t => { t with session := next t, base := cycle }),
    stored := e.tx.foldl (fun l t => spSet 0 (sessionKey e t.stream) (next t) l) e.stored }

/-- Loss of lock counted on every port in service once LOCKED is regained (R397, R435). -/
def lockRegained (env : EfEnv) (w : EWork) : EWork :=
  let w := w.raise 134
  let w := match w.e.lockRetry with
    | some (_, tick) => (rangeFrom 0 4).foldl (fun (w : EWork) p => if portLive (w.port p) then countPort env tick p w else w) w
    | none => w
  { w with e := { w.e with lock := .locked, goodRun := 0, lockRetry := none } }

/-- A follower's lock state and correction at a CYCLE frame with offset `o` (R396). -/
def lockStep (env : EfEnv) (o : Int) (cycle now guard : Nat) (w : EWork) : EWork :=
  let w := { w with e := { w.e with offset := o, slewNs := -o } }
  let near := decide (o.natAbs < 100)
  match w.e.lock with
  | .unlocked =>
    let step (n : Nat) : Nat := ((n : Int) - o).toNat
    let e : Efl := { w.e with lock := .locking, goodRun := if near then 1 else 0, slewNs := 0, linkNs := step w.e.linkNs }
    { w with e := newSessions cycle e }
  | .locking =>
    let n := if near then w.e.goodRun + 1 else 0
    let w := { w with e := { w.e with goodRun := n } }
    if 16 ≤ n then lockRegained env w else w
  | .locked =>
    if guard < 2 * o.natAbs then
      ({ w with e := { w.e with lock := .silent, goodRun := 0, lockRetry := some (cycleAt w.e now, env.tick) } }).raise 135
    else w
  | .silent =>
    let n := if near then w.e.goodRun + 1 else 0
    let w := { w with e := { w.e with goodRun := n } }
    if 8 ≤ n then lockRegained env w else w

/-- LOCKED not regained within 100 link cycles (R435): permanent, for every port in service. -/
def lockExpiry (now : Nat) (w : EWork) : EWork := match w.e.lockRetry with
  | some (c, _) =>
    if w.e.lock == .silent && decide (c + 100 ≤ cycleAt w.e now) then
      (rangeFrom 0 4).foldl (fun w p => if portLive (w.port p) then retirePort p w else w)
        { w with e := { w.e with lockRetry := none } }
    else w
  | none => w

/-! ### Schedule modes (R410 to R415) -/

/-- At the switch cycle a confirmed switch takes effect, and a node that acknowledged without hearing its end falls silent
(R413, R414). -/
def resolveSwitch (cycle : Nat) (w : EWork) : EWork :=
  if cycle < w.e.swCycle then w
  else match w.e.swState with
    | .confirmed =>
      ({ w with e := { w.e with mode := w.e.swTarget, swState := .none, swAcked := false, swOutcome := 0 } }).raise 138
    | .announced =>
      if w.e.swAcked && !w.e.master then { w with e := { w.e with swMute := true, swState := .none, swAcked := false } } else w
    | _ => w

/-- What a follower takes from the switch fields of a CYCLE frame (R412 to R415). -/
def switchSeen (cycle mode state target swCycle : Nat) (fresh : Bool) (w : EWork) : EWork :=
  let w := if w.e.swMute || fresh then { w with e := { w.e with swMute := false, mode := mode } } else w
  let w := resolveSwitch cycle w
  let defined := match w.e.sched with
    | some s => s.defines target
    | none => false
  match state with
  | 1 =>
    if w.e.swState == .announced then w
    else ({ w with e :=
      { w.e with swState := .announced, swTarget := target, swCycle := swCycle, swAcked := defined } }).raise 137
  | 2 => { w with e := { w.e with swState := .confirmed, swTarget := target, swCycle := swCycle } }
  | 3 => abandonSwitch w
  | _ => if w.e.swState == .abandoned then { w with e := { w.e with swState := .none } } else w

/-- Checks of a mode request in the order of R410; 0 where one passes. -/
def modeRequestChecks (e : Efl) (v : Nat) : List Nat :=
  let defined := match e.sched with
    | some s => s.defines v
    | none => false
  [if 7 < v then 0x0101 else 0, if !defined then 0x0222 else 0, if !e.master then 0x0221 else 0, if e.inaug then 0x0223 else 0,
   if e.swState == .announced || e.swState == .confirmed then 0x0501 else 0, if v = e.mode then 0x0224 else 0]

/-- An accepted request, announced from the next link cycle on (R411). -/
def modeRequest (v now : Nat) (e : Efl) : Efl :=
  { e with swState := .announced, swTarget := v, swCycle := cycleAt e now + 5, swAcks := [] }

/-- Nodes of the topology, but for this one, that own a slot in a mode (R413). -/
def ownersOf (env : EfEnv) (s : Schedule) (t : Topology) (mode : Nat) : List TopoNode :=
  let owners := (slotsOf s mode).map (·.owner)
  t.nodes.filter (fun n => n.uniqueId != env.uid && n.functions.any (fun f => owners.contains f))

/-! ### Frames received -/

/-- The instant of a received frame by the module's link clock. -/
def rxNow (e : Efl) (r : EfRx) : Nat := e.linkNs + r.rel

/-- R388: what a receiver does with every frame first. True in the second place when the frame is to be used. -/
def rxChecks (env : EfEnv) (r : EfRx) (w : EWork) : EWork × Bool :=
  if !commsRun env.mode || !portLive (w.port r.port) || decide (4 ≤ r.port) then (w, false)
  else if !r.fcsOk then (crcError env r.port (r.frame.typ == 1) (rxNow w.e r) w, false)
  else (w, r.frame.version == 1 && r.lenOk)

/-- R406: the window and topology checks of a slot-bound frame. -/
def slotChecks (env : EfEnv) (r : EfRx) (due : Nat) (w : EWork) : EWork × Bool :=
  let e := w.e
  let now := rxNow e r
  let path := match e.topo with
    | some t => pathDelay t (lineOf r.port) e.position (positionOf t r.frame.src) true
    | none => 0
  let accept := (e.sched.map (·.accept)).getD 0
  let at_ : Int := (now : Int) - path - startAt e now
  if r.frame.topo ≠ e.topoCounter then
    ((w.modPort r.port (fun x => { x with topoErrors := add32 x.topoErrors 1 })).raise 142, false)
  else if e.lock == .locked ∧ ¬ ((due : Int) - accept ≤ at_ ∧ at_ < due + accept + 1) then
    (slotError env r.port false now w, false)
  else (w, true)

/-- R389: a copy already used is discarded without a count; else the frame is marked as used. -/
def firstCopy (f : EfFrame) (w : EWork) : EWork × Bool :=
  let key := (f.typ * 65536 + f.slot, f.src, f.cycle)
  if w.e.seenFrames.contains key then (w, false)
  else ({ w with e := { w.e with seenFrames := lastN 256 (w.e.seenFrames ++ [key]) } }, true)

/-- The content of a CYCLE frame (R403). -/
structure CycleInfo where
  time : Nat
  ticks : Nat
  cycle : Nat
  mode : Nat
  state : Nat
  target : Nat
  swCycle : Nat
  crc : Nat
  key : Nat
  deriving DecidableEq, Repr

/-- CYCLE payload read (R403). -/
def readCycle (bs : List Byte) : CycleInfo :=
  { time := beAt 0 8 bs, ticks := beAt 8 8 bs, cycle := beAt 16 8 bs, mode := beAt 24 1 bs, state := beAt 25 1 bs,
    target := beAt 26 1 bs, swCycle := beAt 28 4 bs, crc := beAt 32 8 bs, key := beAt 40 8 bs }

/-- CYCLE payload written (R403). -/
def writeCycle (c : CycleInfo) : List Byte :=
  toBE 8 c.time ++ toBE 8 c.ticks ++ toBE 8 c.cycle ++ toBE 1 c.mode ++ toBE 1 c.state ++ toBE 1 c.target ++ toBE 1 0 ++
    toBE 4 c.swCycle ++ toBE 8 c.crc ++ toBE 8 c.key

/-- The bytes of a body; none for the others. -/
def EfBody.toBytes : EfBody → List Byte
  | .bytes bs => bs
  | _ => []

/-- R402: the schedule identity compared; event 136 once while they differ. -/
def judgeSchedule (crc : Nat) (w : EWork) : EWork :=
  let differ := (w.e.sched.map (·.crc)).getD 0 != crc
  let w := if differ && !w.e.schedMismatch then w.raise 136 else w
  { w with e := { w.e with schedMismatch := differ } }

/-- A CYCLE frame of the current topology taken by a follower (R395, R396, R402, R410 to R415). -/
def followCycle (env : EfEnv) (r : EfRx) (c : CycleInfo) (inWindow : Bool) (w : EWork) : EWork :=
  let e := w.e
  let now := rxNow e r
  let line := lineOf r.port
  let d := match e.topo with
    | some t => pathDelay t line e.position (masterPosition t) false
    | none => 0
  let o : Int := (now : Int) - (c.time + r.frame.corr + d)
  let guard := (e.sched.map (·.guard)).getD 0
  let fresh := e.lock == .unlocked
  let w := lockStep env o c.cycle now guard w
  if !inWindow then w
  else
    let w := judgeSchedule c.crc w
    let w := { w with e :=
      { w.e with cycleNo := c.cycle, cycleStart := c.time, lastGood := c.time, seenCycle := max w.e.seenCycle c.cycle, polled := [] } }
    switchSeen c.cycle c.mode c.state c.target c.swCycle fresh w

/-- A CYCLE frame received (R388, R395, R406, R416, R435). -/
def cycleFrame (env : EfEnv) (r : EfRx) (w : EWork) : EWork :=
  let w0 := if commsRun env.mode then forward r.port { r.frame with corr := r.frame.corr + r.resid } w else w
  match rxChecks env r w0 with
  | (w, false) => w
  | (w, true) =>
    let c := readCycle r.frame.body.toBytes
    let now := rxNow w.e r
    if w.e.inaug then w
    else if c.key ≠ w.e.masterKey then startInaug env now w
    else if w.e.master then w
    else if r.frame.topo ≠ w.e.topoCounter then
      (w.modPort r.port (fun x => { x with topoErrors := add32 x.topoErrors 1 })).raise 142
    else
      let accept := (w.e.sched.map (·.accept)).getD 0
      let path := match w.e.topo with
        | some t => pathDelay t (lineOf r.port) w.e.position (masterPosition t) true
        | none => 0
      let n := cycleNs w.e
      let at_ : Int := (now : Int) - path - startAt w.e now
      let near := decide (-(accept : Int) ≤ at_ ∧ at_ < accept + 1) || decide (-(accept : Int) ≤ at_ - n ∧ at_ - n < accept + 1)
      let inWindow := w.e.lock != .locked || near
      let w := passCrcRetry env r.port c.cycle w
      let w := if inWindow then passSlotRetry env r.port c.cycle w else slotError env r.port true now w
      match firstCopy r.frame w with
      | (w, false) => w
      | (w, true) => followCycle env r c inWindow w

/-- Addresses that mean this node (R384). -/
def addressed (e : Efl) (dst : Nat) : Bool :=
  dst == 0xFFFF || (e.address != 0 && (dst == e.address || dst == e.address / 256 * 256 + 255))

/-- A POLL frame received (R404). -/
def pollFrame (env : EfEnv) (r : EfRx) (w : EWork) : EWork :=
  let w0 := if commsRun env.mode then forward r.port r.frame w else w
  match rxChecks env r w0 with
  | (w, false) => w
  | (w, true) => match slotAt w.e r.frame.slot with
    | none => w
    | some d => match slotChecks env r (dueOf d 2) w with
      | (w, false) => w
      | (w, true) => match firstCopy r.frame w with
        | (w, false) => w
        | (w, true) =>
          if addressed w.e r.frame.dst && env.functions.contains d.owner && (d.kind == 2 || d.kind == 3) && !w.e.polled.contains r.frame.slot then
            { w with e := { w.e with polled := w.e.polled ++ [r.frame.slot] } }
          else w

/-! ### Safety telegrams (R424 to R430) -/

/-- The safety code of R425 over a telegram's bytes up to the end of its payload. -/
def safetyCode (connkey : Nat) (bs : List Byte) : Nat := crc32c (toBE 8 connkey ++ bs)

/-- A safety telegram (R424). -/
def telegramBytes (d : StreamDef) (session seq stamp : Nat) (payload : List Byte) : List Byte :=
  let bs := toBE 2 d.stream ++ toBE 2 d.source ++ toBE 2 session ++ toBE 2 payload.length ++ toBE 4 seq ++ toBE 4 0 ++
    toBE 8 stamp ++ payload
  bs ++ toBE 4 (safetyCode d.connkey bs)

/-- Sequence numbers of R426. -/
def seqOf (cycle base : Nat) : Nat := (cycle + 2 ^ 32 - base % 2 ^ 32) % 2 ^ 32

/-- A telegram judged for its receive slot (R429) at link tick `t`: the new slot and the event, if any. A gap raises event 147. -/
def judgeTelegram (d : StreamDef) (t : Nat) (bs : List Byte) (x : RxStream) : RxStream × List Nat :=
  let plen := beAt 6 2 bs
  let seq := beAt 8 4 bs
  let session := beAt 4 2 bs
  let stamp := beAt 16 8 bs
  let body := slice 0 (24 + plen) bs
  let payload := slice 24 plen bs
  let take (x : RxStream) : RxStream :=
    { x with accepted := true, session := session, seq := seq, stamp := stamp, payload := payload, countOk := add32 x.countOk 1 }
  if beAt 2 2 bs ≠ d.source ∨ plen ≠ d.plen ∨ beAt 12 4 bs ≠ 0 then (x, [143])
  else if beAt (24 + plen) 4 bs ≠ safetyCode d.connkey body then ({ x with codeFails := add32 x.codeFails 1 }, [144])
  else if t < stamp ∨ d.timeout ≤ t - stamp then ({ x with stales := add32 x.stales 1 }, [145])
  else if !x.accepted ∨ session ≠ x.session then (take x, [148])
  else
    let diff := (seq + 2 ^ 32 - x.seq) % 2 ^ 32
    if diff = 0 ∨ 2 ^ 31 ≤ diff then (x, [])
    else if 1 < diff then (take { x with gaps := add32 x.gaps 1 }, [147])
    else (take x, [])

/-- The stream under whose number a receive stream is judged: the lower one of a twin that 0x8050+j:01 lists, else itself (R507). -/
def twinOf (par : Nat → Nat → Nat) (stream : Nat) : Nat :=
  match (rangeFrom 0 64).find? (fun j =>
    let v := par (0x8050 + j) 1
    v != 0xFFFFFFFF && (v / 2 ^ 16 == stream || v % 2 ^ 16 == stream)) with
  | some j => min (par (0x8050 + j) 1 / 2 ^ 16) (par (0x8050 + j) 1 % 2 ^ 16)
  | none => stream

/-- A telegram received for the stream that it names (R429, R507). -/
def telegramReceived (env : EfEnv) (s : Schedule) (t : Nat) (bs : List Byte) (w : EWork) : EWork :=
  match s.streamDef (beAt 0 2 bs) with
  | none => w
  | some d =>
    let n := twinOf env.par d.stream
    let hit := w.e.rx.findSome? (fun x => if x.stream == n then some (judgeTelegram d t bs x) else none)
    match hit with
    | none => w
    | some (x, evs) =>
      evs.foldl (fun w k => w.raise k) { w with e := { w.e with rx := w.e.rx.map (fun y => if y.stream == n then x else y) } }

/-! ### Queues (R431 to R434) -/

/-- Lowest priority present in a queue. -/
def lowestPrio : List NvFrame → Nat
  | [] => 0
  | f :: fs => fs.foldl (fun p x => min p x.prio) f.prio

/-- The first frame of a priority removed. -/
def dropFirst (p : Nat) : List NvFrame → List NvFrame
  | [] => []
  | f :: fs => if f.prio = p then fs else f :: dropFirst p fs

/-- A frame put into a queue of 64; true when one was dropped (R432). -/
def queuePut (f : NvFrame) (q : List NvFrame) : List NvFrame × Bool :=
  if q.length < 64 then (q ++ [f], false) else (dropFirst (lowestPrio (q ++ [f])) (q ++ [f]), true)

/-- A drop counted, with the overload flag (R432, R433). -/
def countDrop (tick : Nat) (w : EWork) : EWork :=
  let w := if w.e.overload then w else w.raise 149
  { w with e := { w.e with dropped := add32 w.e.dropped 1, overload := true, lastDrop := tick } }

/-- A non-vital frame for the module (R431). -/
def ingressPut (tick : Nat) (f : NvFrame) (w : EWork) : EWork :=
  let (q, dropped) := queuePut f w.e.ingress
  let w := { w with e := { w.e with ingress := q } }
  if dropped then countDrop tick w else w

/-- A non-vital frame that waits for a message slot (R431). -/
def egressPut (tick : Nat) (f : NvFrame) (w : EWork) : EWork :=
  let (q, dropped) := queuePut f w.e.egress
  let w := { w with e := { w.e with egress := q } }
  if dropped then countDrop tick w else w

/-- Highest priority present. -/
def highestPrio (q : List NvFrame) : Nat := q.foldl (fun p x => max p x.prio) 0

/-- The overload flag cleared after 4,000 ticks without a drop (R433). -/
def overloadCleared (tick : Nat) (w : EWork) : EWork :=
  if w.e.overload && decide (w.e.lastDrop + 4000 ≤ tick) then ({ w with e := { w.e with overload := false } }).raise 150 else w

/-- A RESPONSE frame received (R404, R406, R412, R429, R431). -/
def responseFrame (env : EfEnv) (r : EfRx) (w : EWork) : EWork :=
  let w0 := if commsRun env.mode then forward r.port r.frame w else w
  match rxChecks env r w0 with
  | (w, false) => w
  | (w, true) => match slotAt w.e r.frame.slot, w.e.sched with
    | some d, some s => match slotChecks env r (dueOf d 3) w with
      | (w, false) => w
      | (w, true) => match firstCopy r.frame w with
        | (w, false) => w
        | (w, true) =>
          let w := if w.e.master && w.e.swState == .announced && r.frame.flags.testBit 4 && bits 7 5 r.frame.flags == w.e.swTarget
            then { w with e := { w.e with swAcks := r.frame.src :: w.e.swAcks } } else w
          let bs := r.frame.body.toBytes
          let cls := ((s.streamDef d.stream).map (·.cls)).getD 0
          if bs.isEmpty || w.e.lock == .unlocked then w
          else if cls = 1 then telegramReceived env s (rxNow w.e r / 250000) bs w
          else if addressed w.e r.frame.dst then
            ingressPut env.tick { prio := bits 3 2 r.frame.flags, source := d.owner, data := bs, dst := r.frame.dst } w
          else w
    | _, _ => w

/-- A MESSAGE frame received (R408, R431, R434). -/
def messageFrame (env : EfEnv) (r : EfRx) (w : EWork) : EWork :=
  let vitalSlot := ((slotAt w.e r.frame.slot).map (·.kind)).getD 0 == 2
  let w0 := if commsRun env.mode && !vitalSlot then forward r.port r.frame w else w
  match rxChecks env r w0 with
  | (w, false) => w
  | (w, true) => match slotAt w.e r.frame.slot with
    | none => w
    | some d => match slotChecks env r (dueOf d 4) w with
      | (w, false) => w
      | (w, true) => match firstCopy r.frame w with
        | (w, false) => w
        | (w, true) =>
          let older := w.e.delivered.any (fun p => p.1 == d.owner && decide (r.frame.cycle < p.2))
          if older || !addressed w.e r.frame.dst || vitalSlot then w
          else
            let w := { w with e := { w.e with delivered := spSet 0 d.owner r.frame.cycle w.e.delivered } }
            ingressPut env.tick { prio := bits 3 2 r.frame.flags, source := d.owner, data := r.frame.body.toBytes, dst := r.frame.dst } w

/-- A DELAY_REQ answered on its port (R392). -/
def delayReq (env : EfEnv) (r : EfRx) (w : EWork) : EWork := match rxChecks env r w with
  | (w, false) => w
  | (w, true) =>
    w.send [r.port] { typ := 6, dst := r.frame.src, src := w.e.address, body := .delayResp (rxNow w.e r) (rxNow w.e r + r.resid) }

/-- A DELAY_RESP received. -/
def delayRespFrame (env : EfEnv) (r : EfRx) (w : EWork) : EWork := match rxChecks env r w with
  | (w, true) => match r.frame.body with
    | .delayResp t2 t3 => delayResp r.port t2 t3 (rxNow w.e r) w
    | _ => w
  | (w, false) => w

/-- A CLAIM received (R416, R418, R419). -/
def claimFrameReceived (env : EfEnv) (r : EfRx) (w : EWork) : EWork := match rxChecks env r w with
  | (w, true) => match r.frame.body with
    | .claim key =>
      let w := if w.e.inaug then w else startInaug env (rxNow w.e r) w
      claimReceived env r.port key r.frame (rxNow w.e r) w
    | _ => w
  | (w, false) => w

/-- A TOPO_REQ received. -/
def topoReqFrame (env : EfEnv) (r : EfRx) (w : EWork) : EWork := match rxChecks env r w with
  | (w, true) => match r.frame.body with
    | .topoReq side hops => topoReq r.port side hops r.frame w
    | _ => w
  | (w, false) => w

/-- A TOPO_RESP received; it goes on along its line. -/
def topoRespFrame (env : EfEnv) (r : EfRx) (w : EWork) : EWork :=
  match rxChecks env r (if commsRun env.mode then forward r.port r.frame w else w) with
  | (w, true) => match r.frame.body with
    | .topoResp rep => topoResp rep w
    | _ => w
  | (w, false) => w

/-- A TOPO frame received; it goes on along its line. -/
def topoFrame (env : EfEnv) (r : EfRx) (w : EWork) : EWork :=
  match rxChecks env r (if commsRun env.mode then forward r.port r.frame w else w) with
  | (w, true) => match r.frame.body with
    | .topo t => topoReceived env t w
    | _ => w
  | (w, false) => w

/-! ### Frames sent -/

/-- Own frames of types 1 to 4 may go (R396, R402, R407, R414, R416, R421). -/
def slotTraffic (env : EfEnv) (e : Efl) : Bool :=
  commsRun env.mode && !e.inaug && e.lock == .locked && !e.schedMismatch && !e.swMute && e.address != 0 && e.sched.isSome

/-- The bus guardian (R407): a start `skew` ns off the due instant goes out inside the window only; a blocked frame counts. -/
def guarded (env : EfEnv) (skew : Int) (f : EfFrame) (now : Nat) (w : EWork) : EWork :=
  let a := (w.e.sched.map (·.accept)).getD 0
  if -(a : Int) ≤ skew ∧ skew < a + 1 then originate f w
  else
    (rangeFrom 0 4).foldl (fun w p => if portLive (w.port p) then slotCounted env p true now w else w) (w.raise 156)

/-- A frame's header fields that the link gives: source, slot, cycle, topology, length. -/
def slotFrame (e : Efl) (typ flags dst slot cycle : Nat) (bs : List Byte) : EfFrame :=
  { typ := typ, flags := flags, dst := dst, src := e.address, slot := slot, cycle := cycle % 2 ^ 32, topo := e.topoCounter,
    len := bs.length, body := .bytes bs }

/-- The CYCLE frame at a link cycle start (R390, R403, R411, R413, R423). -/
def sendCycle (env : EfEnv) (skew : Int) (w : EWork) : EWork :=
  if !w.e.master || w.e.inaug || !commsRun env.mode || w.e.sched.isNone || w.e.address == 0 then w
  else
    let w := if w.e.lock == .locked then w else
      ({ w with e := { w.e with lock := .locked, offset := 0 } }).raise 134
    let c := w.e.cycleNo + 1
    let start := max w.e.linkNs (w.e.cycleStart + cycleNs w.e)
    let w := { w with e := { w.e with cycleNo := c, cycleStart := start, lastGood := start, seenCycle := c, polled := [], schedMismatch := false } }
    let w := if w.e.swState == .announced && decide (c + 4 = w.e.swCycle) then w.raise 137 else w
    let all := match w.e.sched, w.e.topo with
      | some s, some t => (ownersOf env s t w.e.swTarget).all (fun n => w.e.swAcks.contains (t.segment * 256 + n.number))
      | _, _ => false
    let w := if w.e.swState == .announced && decide (c + 1 = w.e.swCycle) then
        if all then { w with e := { w.e with swState := .confirmed } } else abandonSwitch w
      else w
    let w := resolveSwitch c w
    let info : CycleInfo :=
      { time := start, ticks := start / 250000, cycle := c, mode := w.e.mode, state := w.e.swState.code, target := w.e.swTarget,
        swCycle := w.e.swCycle % 2 ^ 32, crc := (w.e.sched.map (·.crc)).getD 0, key := env.key }
    let slot := match w.e.sched with
      | some s => ((slotsOf s w.e.mode).findIdx? (fun d => d.kind == 1)).getD 0
      | none => 0
    let w := guarded env skew (slotFrame w.e 1 0 0xFFFF slot c (writeCycle info)) start w
    if w.e.swState == .abandoned then { w with e := { w.e with swState := .none } } else w

/-- The node address that owns a function ID in the topology. -/
def ownerAddress (e : Efl) (f : Nat) : Option Nat := match e.topo with
  | some t => (t.nodes.find? (fun n => n.functions.contains f)).map (fun n => t.segment * 256 + n.number)
  | none => none

/-- The POLL of a polled slot (R404). -/
def sendPoll (env : EfEnv) (slot : Nat) (skew : Int) (w : EWork) : EWork :=
  match slotAt w.e slot with
  | some d =>
    if w.e.master && slotTraffic env w.e && (d.kind == 2 || d.kind == 3) then
      match ownerAddress w.e d.owner with
      | some dst =>
        let w := if dst = w.e.address then { w with e := { w.e with polled := w.e.polled ++ [slot] } } else w
        guarded env skew (slotFrame w.e 2 (bitIf 1 (d.kind == 2)) dst slot w.e.cycleNo []) w.e.linkNs w
      | none => w
    else w
  | none => w

/-- Acknowledge bits of a RESPONSE in FLAGS (R412). -/
def ackFlags (e : Efl) : Nat := if e.swState == .announced && e.swAcked then 2 ^ 4 + e.swTarget % 8 * 2 ^ 5 else 0

/-- The RESPONSE of a polled slot (R404, R412, R426, R428); `serve` tells whether telegrams go out. -/
def sendResponse (env : EfEnv) (serve : Bool) (slot : Nat) (skew : Int) (w : EWork) : EWork :=
  match slotAt w.e slot with
  | some d =>
    if slotTraffic env w.e && env.functions.contains d.owner && (d.kind == 2 || d.kind == 3) && w.e.polled.contains slot then
      let c := w.e.cycleNo
      let bs := match w.e.sched.bind (fun s => s.streamDef d.stream), w.e.tx.find? (fun t => t.stream == d.stream) with
        | some sd, some t =>
          if !serve then [] else if sd.cls = 1 then telegramBytes sd t.session (seqOf c t.base) t.stamp t.payload else t.payload
        | _, _ => []
      let w := { w with e := { w.e with polled := w.e.polled.filter (fun x => x != slot) } }
      guarded env skew (slotFrame w.e 3 (bitIf 1 (d.kind == 2) + ackFlags w.e) 0xFFFF slot c bs) w.e.linkNs w
    else w
  | none => w

/-- A MESSAGE in an owned message slot (R405, R431): highest priority first, then oldest first. -/
def sendMessage (env : EfEnv) (slot : Nat) (skew : Int) (w : EWork) : EWork :=
  match slotAt w.e slot with
  | some d =>
    if slotTraffic env w.e && env.functions.contains d.owner && d.kind == 4 then
      let p := highestPrio w.e.egress
      match w.e.egress.find? (fun f => f.prio == p) with
      | some f =>
        let w := { w with e := { w.e with egress := dropFirst p w.e.egress } }
        guarded env skew (slotFrame w.e 4 (p % 4 * 4) f.dst slot w.e.cycleNo f.data) w.e.linkNs w
      | none => w
    else w
  | none => w

/-- The master lost at 3 link cycle starts without a good CYCLE frame (R409). -/
def masterLost (env : EfEnv) (now : Nat) (w : EWork) : EWork :=
  if commsRun env.mode && !w.e.inaug && !w.e.master && w.e.topo.isSome && decide (0 < cycleNs w.e) &&
      decide (w.e.lastGood + 3 * cycleNs w.e ≤ now) then
    startInaug env now (w.raise 133)
  else w

/-! ### The input latch and the output commit -/

/-- Freshness of a receive stream at a latch (R430): STAMP within [t − TIMEOUT + 1, t]. -/
def freshAt (s : Schedule) (t : Nat) (x : RxStream) : Bool := match s.streamDef x.stream with
  | some d => x.accepted && decide (x.stamp ≤ t) && decide (t < x.stamp + d.timeout)
  | none => false

/-- The link at an input latch (R391, R396, R430, R431): link time advances by the tick and the slew of at most 200 ppm, the
counts are latched, streams are judged for freshness, and the ingress queue is handed over. -/
def eflLatch (tickNs : Nat) (w : EWork) : EWork :=
  let most := tickNs / 5000
  let corr := if w.e.lock == .unlocked || w.e.master then 0 else clampInt most w.e.slewNs
  let e := w.e
  let linkNs := ((e.linkNs : Int) + tickNs + corr).toNat
  let w := { w with e := { e with linkNs := linkNs, slewNs := e.slewNs - corr } }
  let w := if w.e.inaug then w else resolveSwitch (cycleAt w.e linkNs) w
  let t := linkNs / 250000
  let judge (x : RxStream) : RxStream × Bool := match w.e.sched with
    | some s => let f := freshAt s t x; ({ x with fresh := f }, x.fresh && !f)
    | none => ({ x with fresh := false }, x.fresh)
  let judged := w.e.rx.map judge
  let w := { w with e :=
    { w.e with
      latchCycle := cycleAt w.e linkNs, latchTick := t, rx := judged.map (·.1), latched := w.e.ingress, ingress := [] } }
  (judged.filter (·.2)).foldl (fun w _ => w.raise 146) w

/-- The link tick count at the output commit of the tick, 200 µs after its start (R75, R390, R424). -/
def commitLinkTick (e : Efl) : Nat := (e.linkNs + 200000) / 250000

/-- Transmit images copied at an output commit (R77, R424): payload and stamp of each transmit stream. -/
def copyTransmit (payloads : List (Nat × List Byte)) (e : Efl) : Efl :=
  { e with tx := e.tx.map (fun t => match payloads.find? (fun p => p.1 == t.stream) with
      | some p => { t with payload := p.2, stamp := commitLinkTick e }
      | none => { t with stamp := commitLinkTick e }) }

/-- The streams of a receive side set up at the end of every BOOT (R670): none accepted, none fresh. -/
def coldStreams (streams : List Nat) : List RxStream := streams.map (fun n => { stream := n })

end Sys2Proof.Machine
end

