-- ==== Sys2Proof/Machine/Can.lean ====
section
/-!
DEFINITION. The CAN FD controllers of 09_can_fd_controllers.md: acceptance, transmission and cancellation, network time, safety
telegrams, errors and retirement.
-/
namespace Sys2Proof.Machine

/-- What a step gives the controllers: tick, mode, the dictionary parameters, and the entries of an index span that differ from
their defaults, as offsets. -/
structure CEnv where
  tick : Nat
  mode : Mode
  par : Nat → Nat → Nat
  configured : Nat → Nat → List Nat
  cont : Bool := false

/-- The controllers at work in a step, with the events raised and the frames sent. -/
structure CWork where
  c : Can
  ev : List Nat := []
  tx : List CanTx := []
  counted : Nat := 0

/-- An event raised. -/
def CWork.raise (n : Nat) (w : CWork) : CWork := { w with ev := w.ev ++ [n] }
/-- Controller `n`. -/
def CWork.ctl (w : CWork) (n : Nat) : CanCtl := nth {} n w.c.ctls
/-- Controller changed. -/
def CWork.modCtl (n : Nat) (k : CanCtl → CanCtl) (w : CWork) : CWork := { w with c := { w.c with ctls := modNth n k w.c.ctls } }
/-- Message object `m` of controller `n`. -/
def CWork.obj (w : CWork) (n m : Nat) : CanObj := spGet {} m (w.ctl n).objs
/-- Message object changed. -/
def CWork.modObj (n m : Nat) (k : CanObj → CanObj) (w : CWork) : CWork :=
  w.modCtl n (fun x => { x with objs := spMod {} m k x.objs })

/-- Configuration of a message object (R444). -/
structure ObjCfg where
  num : Nat
  dir : Nat
  ext : Bool
  id : Nat
  fd : Bool
  brs : Bool
  len : Nat
  binding : Nat
  deriving DecidableEq, Repr

/-- Configuration of object `m` of controller `n` from 0x7C00 + 256 × n + m. -/
def CEnv.objCfg (env : CEnv) (n m : Nat) : ObjCfg :=
  let p (s : Nat) : Nat := env.par (0x7C00 + 256 * n + m) s
  { num := m, dir := p 1, ext := (p 2).testBit 31, id := bits 28 0 (p 2), fd := (p 3).testBit 0, brs := (p 3).testBit 1,
    len := p 4, binding := p 5 }

/-- The objects of a controller that are in use. -/
def CEnv.objCfgs (env : CEnv) (n : Nat) : List ObjCfg :=
  ((env.configured (0x7C00 + 256 * n) 256).map (env.objCfg n)).filter (fun o => o.dir == 1 || o.dir == 2)

/-- An acceptance rule (R447). -/
structure RuleCfg where
  kind : Nat
  cls : Nat
  reject : Bool
  obj : Nat
  a : Nat
  b : Nat
  deriving DecidableEq, Repr

/-- Rules of controller `n`, rule 0 first, those that are off left out (R449). -/
def CEnv.rules (env : CEnv) (n : Nat) : List RuleCfg :=
  ((env.configured (0x7900 + 0xC0 * n) 192).map (fun r =>
    let p (s : Nat) : Nat := env.par (0x7900 + 0xC0 * n + r) s
    ({ kind := p 1, cls := p 2, reject := p 3 == 1, obj := p 4, a := p 5, b := p 6 } : RuleCfg))).filter (fun r => r.kind != 0)

/-- A rule applies to a frame (R448). -/
def ruleApplies (r : RuleCfg) (f : CanFrame) : Bool :=
  r.cls.testBit 0 == f.ext && (bits 2 1 r.cls == 0 || (bits 2 1 r.cls == 1 && !f.fd) || (bits 2 1 r.cls == 2 && f.fd))

/-- A rule matches an identifier (R448). -/
def ruleMatches (r : RuleCfg) (id : Nat) : Bool :=
  match r.kind with
  | 1 => decide (r.a ≤ id) && decide (id ≤ r.b)
  | 2 => id == r.a || id == r.b
  | 3 => (id ^^^ r.a) &&& r.b == 0
  | _ => false

/-- The object into which the rules store a frame; none when it is rejected (R449). -/
def acceptFrame (rules : List RuleCfg) (f : CanFrame) : Option Nat :=
  match rules.find? (fun r => ruleApplies r f && ruleMatches r f.id) with
  | some r => if r.reject then none else some r.obj
  | none => none

/-- Whether any rule matched: a frame that none matches counts as rejected (R449). -/
def anyRule (rules : List RuleCfg) (f : CanFrame) : Bool := rules.any (fun r => ruleApplies r f && ruleMatches r f.id)

/-- Data lengths of R440. -/
def canLengthOk (fd : Bool) (n : Nat) : Bool :=
  decide (n ≤ 8) || (fd && (n == 12 || n == 16 || n == 20 || n == 24 || n == 32 || n == 48 || n == 64))

/-- A controller that takes part on its bus in some way (R443). -/
def CanState.up : CanState → Bool
  | .monitoring | .active | .passive => true
  | .off | .busOff | .retired => false

/-- A controller that may send (R443): an error-active node, or error-passive. -/
def CanState.sends : CanState → Bool
  | .active | .passive => true
  | .off | .monitoring | .busOff | .retired => false

/-! ### Safety telegrams (R467 to R469) -/

/-- The safety code of a CAN telegram (R468). -/
def canSafetyCode (d : CanStream) (bs : List Byte) : Nat := crc32c (toBE 8 d.connkey ++ toBE 2 d.stream ++ bs)

/-- A CAN safety telegram (R467). -/
def canTelegram (d : CanStream) (session seq stamp : Nat) (payload : List Byte) : List Byte :=
  let bs := toBE 2 d.source ++ toBE 2 session ++ toBE 4 seq ++ toBE 4 stamp ++ payload
  bs ++ toBE 4 (canSafetyCode d bs)

/-- A CAN telegram judged (R469): the checks of R429 with `t` modulo 2^32. -/
def judgeCanTelegram (d : CanStream) (t : Nat) (bs : List Byte) (x : RxStream) : RxStream × List Nat :=
  let session := beAt 2 2 bs
  let seq := beAt 4 4 bs
  let stamp := beAt 8 4 bs
  let payload := slice 12 d.plen bs
  let age := (t + 2 ^ 32 - stamp) % 2 ^ 32
  let take (x : RxStream) : RxStream :=
    { x with accepted := true, session := session, seq := seq, stamp := stamp, payload := payload, countOk := add32 x.countOk 1 }
  if beAt 0 2 bs ≠ d.source ∨ bs.length ≠ 16 + d.plen then (x, [181])
  else if beAt (12 + d.plen) 4 bs ≠ canSafetyCode d (slice 0 (12 + d.plen) bs) then
    ({ x with codeFails := add32 x.codeFails 1 }, [182])
  else if 2 ^ 31 ≤ age ∨ d.timeout ≤ age then ({ x with stales := add32 x.stales 1 }, [183])
  else if !x.accepted ∨ session ≠ x.session then (take x, [186])
  else
    let diff := (seq + 2 ^ 32 - x.seq) % 2 ^ 32
    if diff = 0 ∨ 2 ^ 31 ≤ diff then (x, [])
    else if 1 < diff then (take { x with gaps := add32 x.gaps 1 }, [185])
    else (take x, [])

/-- Network tick count of a controller `rel` ns after the last input latch. -/
def netTick (x : CanCtl) (rel : Nat) : Nat := (x.netNs + rel) / 250000

/-- A frame stored by a receive object bound to a stream (R451, R469); non-vital data (class 2) is taken as received. -/
def streamStored (d : CanStream) (t : Nat) (bs : List Byte) (w : CWork) : CWork :=
  let judge (x : RxStream) : RxStream × List Nat :=
    if d.cls = 1 then judgeCanTelegram d t bs x
    else ({ x with accepted := true, stamp := t, payload := bs, countOk := add32 x.countOk 1 }, [])
  match w.c.rx.findSome? (fun x => if x.stream == d.stream then some (judge x) else none) with
  | none => w
  | some (x, evs) =>
    evs.foldl (fun w n => w.raise n) { w with c := { w.c with rx := w.c.rx.map (fun y => if y.stream == d.stream then x else y) } }

/-- The error counters after a frame, as ISO 11898-1 has them; the controller is error-active again below 128 (R440, R470). -/
def setCounters (tec rcv : Nat) (x : CanCtl) : CanCtl :=
  { x with
    tec := tec, rcv := rcv,
    state := if x.state == .passive && decide (tec < 128) && decide (rcv < 128) then .active else x.state,
    busOffRetry := x.busOffRetry.map (fun p => (p.1, p.2.1, true)) }

/-- A data frame received (R449 to R452). -/
def canReceived (env : CEnv) (n rel tec rcv : Nat) (f : CanFrame) (w : CWork) : CWork :=
  if !(w.ctl n).state.up ∨ 4 ≤ n then w
  else
    let w := w.modCtl n (setCounters tec rcv)
    let reject (w : CWork) : CWork := w.modCtl n (fun x => { x with rejected := add32 x.rejected 1 })
    let rules := env.rules n
    match acceptFrame rules f with
    | none => if anyRule rules f then w else reject w
    | some m =>
      let o := env.objCfg n m
      if (w.obj n m).retired then reject w
      else if o.fd ≠ f.fd ∨ o.brs ≠ f.brs ∨ o.ext ≠ f.ext ∨ o.len ≠ f.data.length then w.raise 174
      else
        let overwrites := !(w.obj n m).seen
        let w := if overwrites then w.raise 173 else w
        let w := w.modObj n m (fun x => { x with stored := some f.data, seen := false, frames := add32 x.frames 1 })
        let w := w.modCtl n (fun x => { x with accepted := add32 x.accepted 1 })
        match w.c.defs.find? (fun d => d.stream == o.binding && !d.transmit) with
        | some d => streamStored d (netTick (w.ctl n) rel % 2 ^ 32) f.data w
        | none => w

/-- A remote frame received: discarded and counted (R440). -/
def canRemote (n : Nat) (w : CWork) : CWork :=
  if !(w.ctl n).state.up ∨ 4 ≤ n then w
  else (w.modCtl n (fun x => { x with rejected := add32 x.rejected 1 })).raise 175

/-! ### Transmission and cancellation (R453 to R458) -/

/-- A transmit request placed: outcome pending. -/
def placeRequest (n m : Nat) (data : List Byte) (w : CWork) : CWork :=
  w.modObj n m (fun o => { o with request := some data, stage := .pending, cancelling := false, byWrite := false, next := none, outcome := 1 })

/-- A request over: its outcome, and the replacing request that waited (R457). -/
def endRequest (n m outcome : Nat) (w : CWork) : CWork :=
  let o := w.obj n m
  let w := if o.byWrite then w.modCtl n (fun x => { x with cancelOutcome := outcome }) else w
  let w := w.modObj n m (fun o => { o with request := none, cancelling := false, byWrite := false, outcome := outcome })
  match o.next with
  | some d => placeRequest n m d w
  | none => w.modObj n m (fun o => { o with next := none })

/-- A cancellation of a pending request at the stage its frame has reached (R456). -/
def cancelRequest (n m : Nat) (stage : CanStage) (byWrite : Bool) (w : CWork) : CWork :=
  if (w.obj n m).request.isNone then w
  else
    let w := w.modObj n m (fun o => { o with byWrite := o.byWrite || byWrite })
    match stage with
    | .pending | .retransmit => endRequest n m 3 w
    | .arbitration | .onBus => w.modObj n m (fun o => { o with cancelling := true, stage := stage })

/-- A trigger of a send object (R453, R456): it replaces a request that is pending. -/
def triggerObj (n m : Nat) (stage : CanStage) (data : List Byte) (w : CWork) : CWork :=
  if (w.obj n m).retired then w
  else if (w.obj n m).request.isNone then placeRequest n m data w
  else cancelRequest n m stage false (w.modObj n m (fun o => { o with next := some data }))

/-- The next dictionary segment of a controller handed to its bound send object (R445, R527). -/
def pumpDict (env : CEnv) (n : Nat) (w : CWork) : CWork :=
  match (env.objCfgs n).find? (fun o => o.dir == 1 && o.binding == 0xFFFE), (w.ctl n).dictQ with
  | some o, d :: rest =>
    if (w.obj n o.num).request.isNone then placeRequest n o.num d (w.modCtl n (fun x => { x with dictQ := rest })) else w
  | _, _ => w

/-- An attempt of a frame on the bus ends (R454, R456, R458). -/
def canTransmitted (env : CEnv) (n m tec rcv : Nat) (r : CanResult) (w : CWork) : CWork :=
  let o := w.obj n m
  if !(w.ctl n).state.sends ∨ 4 ≤ n ∨ o.request.isNone then w
  else
    let cfg := env.objCfg n m
    let frame : CanFrame := { ext := cfg.ext, id := cfg.id, fd := cfg.fd, brs := cfg.brs, data := o.request.getD [] }
    match r with
    | .sent =>
      let w := w.modCtl n (fun x => setCounters tec rcv { x with sent := add32 x.sent 1 })
      let w := w.modObj n m (fun o => { o with frames := add32 o.frames 1 })
      let w := { w with tx := w.tx ++ [{ ctrl := n, frame := frame }] }
      pumpDict env n (endRequest n m 2 w)
    | .error =>
      let w := w.modCtl n (fun x => { x with tec := tec, rcv := rcv })
      if o.cancelling then (endRequest n m 4 w).raise 176 else w.modObj n m (fun o => { o with stage := .retransmit })
    | .lost => if o.cancelling then endRequest n m 3 w else w.modObj n m (fun o => { o with stage := .pending })

/-- Every pending request of a controller cancelled with outcome 3 (R471). -/
def cancelAll (n : Nat) (w : CWork) : CWork :=
  w.modCtl n (fun x => { x with
    dictQ := [],
    objs := x.objs.map (fun p => if p.2.request.isSome then
      (p.1, { p.2 with request := none, next := none, cancelling := false, byWrite := false, outcome := 3 }) else p) })

/-- A controller retires (R471). -/
def retireCan (n : Nat) (w : CWork) : CWork :=
  if (w.ctl n).state == .retired then w
  else
    ((cancelAll n w).modCtl n (fun x =>
      { x with
        state := .retired, passiveRetry := none, busOffRetry := none, keeps := false, netNs := 0, slewNs := 0, latchTick := 0,
        master := false, synced := false, masterIdx := none, refLatch := none })).raise (168 + n)

/-- A transient controller fault counted (R56, R57, R470). -/
def countCan (env : CEnv) (found n : Nat) (w : CWork) : CWork :=
  let k := env.par 0x7810 1
  let l := lastN k ((w.ctl n).faults ++ [found])
  let w := w.modCtl n (fun x => { x with faults := l })
  let w := { w with counted := w.counted + 1 }
  if k ≤ l.length ∧ found - l.headD found < env.par 0x7810 2 * 4000 then retireCan n w else w

/-! ### Errors (R470, R471) -/

/-- A protocol error (R440): CANn.LASTERR and the error counters. -/
def canError (n code : Nat) (dph : Bool) (tec rcv : Nat) (w : CWork) : CWork :=
  if !(w.ctl n).state.up ∨ 4 ≤ n then w
  else w.modCtl n (fun x => { x with lastErr := some (code % 8, dph), tec := tec, rcv := rcv })

/-- Entry to error-passive (R470). -/
def canPassive (tick n : Nat) (w : CWork) : CWork :=
  if (w.ctl n).state ≠ CanState.active ∨ 4 ≤ n then w
  else (w.modCtl n (fun x =>
    { x with state := .passive, passiveRetry := match x.passiveRetry with | some t => some t | none => some tick })).raise (160 + n)

/-- Entry to bus-off (R470): again before one frame without error, it is permanent; after one it is a fault of its own, and the one before
it has not recurred. -/
def canBusOff (env : CEnv) (n : Nat) (w : CWork) : CWork :=
  let tick := env.tick
  if !(w.ctl n).state.sends ∨ 4 ≤ n then w
  else
    let w := (w.modCtl n (fun x => { x with state := .busOff })).raise (164 + n)
    match (w.ctl n).busOffRetry with
    | some (_, _, false) => retireCan n w
    | some (found, _, true) => countCan env found n (w.modCtl n (fun x => { x with busOffRetry := some (tick, none, false) }))
    | none => w.modCtl n (fun x => { x with busOffRetry := some (tick, none, false) })

/-- Bus-off recovery completes (R470): error-active again, and the 1 s runs. -/
def canRecovered (tick n : Nat) (w : CWork) : CWork :=
  if (w.ctl n).state ≠ CanState.busOff ∨ 4 ≤ n then w
  else w.modCtl n (fun x =>
    { x with state := .active, tec := 0, rcv := 0, busOffRetry := x.busOffRetry.map (fun p => (p.1, some tick, p.2.2)) })

/-- The end of the 1 s of a retry (R470). -/
def canRetryEnd (env : CEnv) (n : Nat) (w : CWork) : CWork :=
  let w : CWork := match (w.ctl n).passiveRetry with
    | some found =>
      if found + 4000 ≤ env.tick then
        let w := w.modCtl n (fun x => { x with passiveRetry := none })
        if (w.ctl n).state == CanState.active then countCan env found n w else retireCan n w
      else w
    | none => w
  match (w.ctl n).busOffRetry with
  | some (found, some from_, _) =>
    if from_ + 4000 ≤ env.tick && (w.ctl n).state != CanState.busOff then countCan env found n (w.modCtl n (fun x => { x with busOffRetry := none }))
    else w
  | _ => w

/-! ### Network time (R459 to R464) -/

/-- Modes in which the master role is exercised (R443). -/
def masterMode (m : Mode) : Bool := m == .configure || m == .safe || m == .run

/-- New sessions of the streams of a controller (R427, R468), at a step of its network time. -/
def canSessions (n : Nat) (w : CWork) : CWork :=
  let c := w.c
  let mine (t : CanTxStream) : Option CanStream := c.defs.find? (fun d => d.stream == t.stream && d.ctrl == n && d.transmit)
  let tick := netTick (w.ctl n) 0
  { w with c := { c with
    tx := c.tx.map (fun t => match mine t with
      | some d =>
        { t with session := (spGet 0 t.stream c.stored + 1) % 65536, base := tick / d.period, period := tick / d.period }
      | none => t),
    stored := c.tx.foldl (fun l t => match mine t with
      | some _ => spSet 0 t.stream ((spGet 0 t.stream c.stored + 1) % 65536) l
      | none => l) c.stored } }

/-- UNSYNCED entered (R462). -/
def canUnsync (n : Nat) (w : CWork) : CWork :=
  let was := (w.ctl n).synced
  let w := w.modCtl n (fun x => { x with synced := false, stepped := false, goodRun := 0, slewNs := 0 })
  if was then w.raise 180 else w

/-- An offset of a follower (R461, R462). -/
def canOffset (tick n : Nat) (o : Int) (w : CWork) : CWork :=
  let w := w.modCtl n (fun x => { x with offset := o, lastOffset := tick })
  if 10000 < o.natAbs && (w.ctl n).stepped then canUnsync n w
  else if !(w.ctl n).stepped then
    let step (v : Nat) : Nat := ((v : Int) - o).toNat
    let w := w.modCtl n (fun x =>
      { x with netNs := step x.netNs, stepped := true, goodRun := 0, refLatch := x.refLatch.map (fun p => (p.1, step p.2)) })
    canSessions n w
  else
    let near := decide (o.natAbs < 2000)
    let w := w.modCtl n (fun x => { x with slewNs := -o, goodRun := if near then x.goodRun + 1 else 0 })
    if 4 ≤ (w.ctl n).goodRun ∧ !(w.ctl n).synced then (w.modCtl n (fun x => { x with synced := true })).raise 179 else w

/-- A reference message received (R460 to R463). -/
def canReference (env : CEnv) (n rel idx k time : Nat) (w : CWork) : CWork :=
  let x := w.ctl n
  if !x.state.up ∨ !x.keeps ∨ 4 ≤ n ∨ (x.master ∧ x.index ≤ idx) then w
  else
    let w := if x.masterIdx = some idx then w else
      (w.modCtl n (fun y => { y with masterIdx := some idx })).raise 178
    let w := if x.master && decide (idx < x.index) then
      w.modCtl n (fun y => { y with master := false, stepped := true, goodRun := 0, lastOffset := env.tick }) else w
    let r := (w.ctl n).netNs + rel
    let old := if x.masterIdx = some idx then (w.ctl n).refLatch else none
    let w := w.modCtl n (fun y => { y with lastRef := env.tick, refCount := k, refLatch := some (k, r) })
    match old with
      | some (k', r') =>
        if (k' + 1) % 256 = k then canOffset env.tick n ((r' : Int) - ((r' / 2 ^ 48 * 2 ^ 48 + time % 2 ^ 48 : Nat) : Int)) w else w
      | none => w

/-- The master's own reference message (R460, R461); `first` is the time of a message with no predecessor latched, which is open. -/
def canSendReference (env : CEnv) (n rel first : Nat) (w : CWork) : CWork :=
  let x := w.ctl n
  if !x.state.sends ∨ !x.master ∨ !masterMode env.mode ∨ env.tick < x.lastSent + env.par (0x7830 + n) 4 ∨ 4 ≤ n then w
  else
    let k := (x.refCount + 1) % 256
    let time := (x.refLatch.map (fun p : Nat × Nat => p.2)).getD first % 2 ^ 48
    let frame : CanFrame :=
      { id := x.base + x.index, data := [BitVec.ofNat 8 (x.index * 32), BitVec.ofNat 8 k] ++ toBE 6 time }
    let w := w.modCtl n (fun y =>
      { y with refCount := k, refLatch := some (k, y.netNs + rel), lastSent := env.tick, lastRef := env.tick })
    { w with tx := w.tx ++ [{ ctrl := n, frame := frame }] }

/-- A potential master takes the role (R463). -/
def canTakeover (env : CEnv) (n : Nat) (w : CWork) : CWork :=
  let x := w.ctl n
  if x.role ≠ 2 ∨ !x.state.sends ∨ !x.keeps ∨ x.master ∨ !masterMode env.mode ∨ 4 ≤ n ∨
      env.tick < x.lastRef + (3 + x.index) * env.par (0x7830 + n) 4 then w
  else
    let w := if x.synced then w else w.raise 179
    (w.modCtl n (fun y =>
      { y with
        master := true, synced := true, offset := 0, slewNs := 0, masterIdx := some y.index,
        lastSent := env.tick - env.par (0x7830 + n) 4 })).raise 177

/-- A follower without an offset for 3 reference periods (R462). -/
def canSyncLost (env : CEnv) (n : Nat) (w : CWork) : CWork :=
  let x := w.ctl n
  if x.master ∨ !x.keeps ∨ (!x.synced ∧ !x.stepped) ∨ 4 ≤ n ∨ env.tick < x.lastOffset + 3 * env.par (0x7830 + n) 4 then w else canUnsync n w

/-! ### Modes, the input latch and the output commit -/

/-- Stream-bound send objects of a controller. -/
def streamObjs (env : CEnv) (w : CWork) (n : Nat) : List ObjCfg :=
  (env.objCfgs n).filter (fun o => o.dir == 1 && w.c.defs.any (fun d => d.stream == o.binding && d.transmit))

/-- Entry to a mode (R443, R456, R473): bus participation, the settings that take effect, cancelled requests when RUN is left. -/
def canMode (env : CEnv) (stages : List (Nat × Nat × CanStage)) (old : Mode) (n : Nat) (w : CWork) : CWork :=
  let x := w.ctl n
  if x.state == .retired then w
  else
    let on := commsRun env.mode
    let take := on
    let w := if old == .run && env.mode != .run then
        (streamObjs env w n).foldl (fun w o =>
          let stage := ((stages.find? (fun p => p.1 == n && p.2.1 == o.num)).map (·.2.2)).getD .pending
          cancelRequest n o.num stage false (w.modObj n o.num (fun y => { y with next := none }))) w
      else w
    let w := if on then w else cancelAll n w
    w.modCtl n (fun y =>
      { y with
        state := if !on then .off else if env.mode == .standby && !env.cont then .monitoring
          else if y.state == .off || y.state == .monitoring then .active else y.state,
        nominal := if take then env.par (0x7820 + n) 2 else y.nominal,
        dataPhase := if take then env.par (0x7820 + n) 3 else y.dataPhase,
        role := if take then env.par (0x7830 + n) 1 else y.role,
        index := if take then env.par (0x7830 + n) 2 else y.index,
        base := if take then env.par (0x7830 + n) 3 else y.base,
        keeps := on && decide ((if take then env.par (0x7830 + n) 1 else y.role) ≠ 0),
        master := y.master && masterMode env.mode,
        netNs := if on then y.netNs else 0, lastRef := if y.keeps then y.lastRef else env.tick })

/-- Freshness of a CAN receive stream (R464, R469, R471, R472). -/
def canFresh (w : CWork) (x : RxStream) : Bool :=
  match w.c.defs.find? (fun d => d.stream == x.stream && !d.transmit) with
  | some d =>
    let k := w.ctl d.ctrl
    let t := k.latchTick % 2 ^ 32
    x.accepted && k.state != .retired && (k.synced || k.master) && decide ((t + 2 ^ 32 - x.stamp) % 2 ^ 32 < d.timeout)
  | none => false

/-- The controllers at an input latch (R451, R460, R462, R469): network time advances, counts are latched, stored frames enter the
image, streams are judged. -/
def canLatch (tickNs : Nat) (w : CWork) : CWork :=
  let advance (x : CanCtl) : CanCtl :=
    if !x.keeps then { x with latchTick := 0 }
    else
      let corr := if x.master then 0 else clampInt (tickNs / 5000) x.slewNs
      let net := ((x.netNs : Int) + (if x.master then 250000 else tickNs) + corr).toNat
      { x with netNs := net, slewNs := x.slewNs - corr, latchTick := net / 250000 }
  let enter (x : CanCtl) : CanCtl := { x with objs := x.objs.map (fun p => (p.1, { p.2 with seen := true })) }
  let w := { w with c := { w.c with ctls := w.c.ctls.map (fun x => enter (advance x)) } }
  let judged := w.c.rx.map (fun x => let f := canFresh w x; (({ x with fresh := f } : RxStream), x.fresh && !f))
  let w := { w with c := { w.c with rx := judged.map (·.1) } }
  (judged.filter (·.2)).foldl (fun w _ => w.raise 184) w

/-- The network tick count of a controller at the output commit of the tick (R75, R467); 0 while it keeps no time. -/
def commitNetTick (x : CanCtl) : Nat := if x.keeps then netTick x 200000 else 0

/-- The triggers of an output commit (R453, R464, R468); `serve` tells whether transmit streams are sent, `copy` whether the commit copies
payloads: a continued telegram keeps the payload and the stamp of the last copy (R490). -/
def canCommit (env : CEnv) (serve copy : Bool) (payloads : List (Nat × List Byte)) (stages : List (Nat × Nat × CanStage)) (w : CWork) :
    CWork :=
  let one (w : CWork) (d : CanStream) : CWork :=
    match w.c.tx.find? (fun t => t.stream == d.stream) with
    | none => w
    | some t =>
      let k := w.ctl d.ctrl
      let payload := if copy then ((payloads.find? (fun p => p.1 == d.stream)).map (·.2)).getD t.payload else t.payload
      let stamp := if copy then commitNetTick k % 2 ^ 32 else t.stamp
      let n := k.latchTick / d.period
      let put (f : CanTxStream → CanTxStream) (w : CWork) : CWork :=
        { w with c := { w.c with tx := w.c.tx.map (fun y => if y.stream == d.stream then f y else y) } }
      let w := put (fun y => { y with payload := payload, period := n, stamp := stamp }) w
      if n = t.period ∨ !serve ∨ !k.state.sends ∨ (d.cls = 1 ∧ !k.synced ∧ !k.master) then w
      else
        match (env.objCfgs d.ctrl).find? (fun o => o.dir == 1 && o.binding == d.stream) with
        | none => w
        | some o =>
          let data := if d.cls = 1 then canTelegram d t.session (seqOf n t.base) stamp payload else payload
          let stage := ((stages.find? (fun p => p.1 == d.ctrl && p.2.1 == o.num)).map (·.2.2)).getD .pending
          triggerObj d.ctrl o.num stage data w
  (w.c.defs.filter (fun d => d.transmit)).foldl one w

/-- Telegram continuation has ended in STANDBY: the controllers only monitor (R443, R490). -/
def canQuiet (c : Can) : Can :=
  { c with ctls := c.ctls.map (fun x => { x with state := if x.state.sends then .monitoring else x.state }) }

/-- The receive side at the end of every BOOT (R670). -/
def canCold (c : Can) : Can := { c with rx := (c.defs.filter (fun d => !d.transmit)).map (fun d => { stream := d.stream }) }

end Sys2Proof.Machine
end

