-- ==== Sys2Proof/Machine/DataUpdate.lean ====
section
/-!
DEFINITION. Data types of 13_update_and_online_change.md and of the application image of 02_frame_and_vital_cycle.md: headers, flash
slots, download, activation, on-line change, forces, and the image set in force.
-/
namespace Sys2Proof.Machine

/-- The fields of an image header that the module keeps (R602). -/
structure Header where
  cls : Nat
  version : Nat
  reqFw : Nat
  length : Nat
  keySet : Nat
  keySlot : Nat
  keyId : Nat
  bodyCrc : Nat
  bodyHash : List (BitVec 8)
  deriving DecidableEq, Repr

/-- Slot states of R601. -/
inductive SlotState where
  | empty | invalid | writing | valid
  deriving DecidableEq, Repr

/-- One flash slot: its state, whether it was loaded at the last BOOT, its header and body. -/
structure Slot where
  state : SlotState := .empty
  loaded : Bool := false
  header : Option Header := none
  body : List (BitVec 8) := []
  deriving DecidableEq, Repr

/-- The two slots of a class, as roles (R600). -/
structure SlotPair where
  a : Slot := {}
  b : Slot := {}
  deriving DecidableEq, Repr

/-- An entry of the SYMBOLS section (R104). -/
structure Symbol where
  id : Nat
  kind : Nat
  typ : Nat
  flags : Nat
  addr : Nat
  size : Nat
  deriving DecidableEq, Repr

/-- Ownership of an output channel or transmit field in IOMAP (R99): in use, and 1 fast task, 2 vital task, 0 none. -/
structure Owner where
  inUse : Bool := false
  owner : Nat := 0
  deriving DecidableEq, Repr

/-- A transmit telegram field of IOMAP: network, stream, offset and length in the payload, lane address and owner. -/
structure TxField where
  can : Bool
  stream : Nat
  offset : Nat
  addr : Nat
  own : Owner
  deriving DecidableEq, Repr

/-- The IOMAP section (R99, R200, R247, R465, R668). 02_frame_and_vital_cycle.md names its content and not its layout. -/
structure Iomap where
  outs : List Owner := []
  fields : List TxField := []
  binds : List BitBinding := []
  rx : List Nat := []
  responses : List (ReqSource × TxField) := []
  can : List CanStream := []
  deriving DecidableEq, Repr, Inhabited

/-- The FIREWALL section: windows of the lane cores and of the lane's DMA channels (R99). -/
structure FireSet where
  vital : List Window := []
  fast : List Window := []
  dma : List (Nat × List Window) := []
  deriving DecidableEq, Repr, Inhabited

/-- The TABLEREF section (R7, R99). -/
structure TableRef where
  tableVersion : Nat := 0
  tableCrc : Nat := 0
  safetyVersion : Nat := 0
  safetyCrc : Nat := 0
  deriving DecidableEq, Repr, Inhabited

/-- A loaded section: type, PAIRED mark, load address and length. -/
structure Section where
  typ : Nat
  paired : Bool
  load : Nat
  length : Nat
  content : List (BitVec 8)
  deriving DecidableEq, Repr

/-- An application image as the module keeps it. -/
structure App where
  version : Nat := 0
  crc : Nat := 0
  k : Nat := 40
  fastNs : Nat := 0
  vitalNs : Nat := 0
  sections : List Section := []
  symbols : List Symbol := []
  evtInit : BitVec 256 := 0
  ref : TableRef := {}
  fire : FireSet := {}
  iomap : Iomap := {}
  deriving DecidableEq, Repr

/-- States of an on-line change (R617). -/
inductive ChangeState where
  | none | preparing | ready | waiting | applied | cancelled | refused
  deriving DecidableEq, Repr

/-- Code of 0xA050:02. -/
def ChangeState.code : ChangeState → Nat
  | .none => 0 | .preparing => 1 | .ready => 2 | .waiting => 3 | .applied => 4 | .cancelled => 5 | .refused => 6

/-- The set that an on-line change carries (R616). -/
structure Candidate where
  app : App
  tables : Option TableSet
  safety : Option (Nat × Nat × List (Nat × SfInst))
  appSlot : Nat
  safetySlot : Nat
  schedSlot : Nat
  deriving DecidableEq, Repr

/-- An on-line change. -/
structure Change where
  state : ChangeState := .none
  result : Nat := 0
  applied : Nat := 0
  cand : Option Candidate := none
  waitFrom : Nat := 0
  logged : Bool := false
  stopping : Bool := false
  due : Bool := false
  deriving DecidableEq, Repr

/-- A force (R629). -/
inductive Force where
  | symbol (id value : Nat)
  | output (chan : Nat)
  deriving DecidableEq, Repr

/-- Images, download, activation, change and forces. `slots` follows the rows of R599. -/
structure Upd where
  slots : List SlotPair := List.replicate 8 {}
  target : Nat := 0x0010
  targetSlot : Nat := 2
  staged : Option Header := none
  dlHeader : Option Header := none
  dlClass : Nat := 0
  dlSlot : Nat := 0
  dlBody : List (BitVec 8) := []
  erasing : Bool := false
  activating : Nat := 0
  activateAtVote : Bool := false
  activated : Nat := 0
  fromMode : Option Mode := none
  outcome : Nat := 0
  change : Change := {}
  forces : List Force := []
  keys : List (List (BitVec 8)) := List.replicate 4 []
  app : Option App := none
  fwVersion : Nat := 0
  voterVersion : Nat := 0
  consistent : Bool := false
  deriving DecidableEq, Repr

end Sys2Proof.Machine
end

