-- ==== Sys2Proof/Config.lean ====
section
/-!
DEFINITION. Free values: constants without a body for what the spec leaves open. Nothing in Lean can see a value of them.
-/
namespace Sys2Proof.Config
open Machine

/-- A fresh free value of `w` bits; the step applies it to the counter `State.freeCtr`, which it advances. -/
opaque freeValue (w : Nat) (n : Nat) : Nat

/-- A word of the runtime state reserve (R175) as a snapshot of a vital cycle holds it, by address. -/
opaque reserveWord (cycle addr : Nat) : Nat

/-- COMMAND codes whose numbers 04_station_element_model.md does not state: kind, and which of its commanded states. -/
opaque commandCode (kind which : Nat) : Nat

/-- Command bits of a point or level crossing as a function of kind, variant, STATE and COMMAND: 04 states which outputs are
on, and not which command bit carries them. -/
opaque drivePattern (kind variant state command : Nat) : Nat

/-- What the bytes of an IOMAP section say; 02 gives its content and not its layout. -/
opaque iomap (bs : List Byte) : Iomap

/-- What the bytes of a FIREWALL section say. -/
opaque firewall (bs : List Byte) : FireSet

/-- What the bytes of a TABLEREF section say. -/
opaque tableRef (bs : List Byte) : TableRef

/-- Windows by master ID that a firmware or voter image carries (R32, R40); the layout of those images is not stated. -/
opaque imageWindows (bs : List Byte) : List (Nat × List Window)

/-- Public key of a Dorior key set, which the Basalt recovery ROM holds (R603); its first byte in bits 7:0. -/
opaque doriorKey (set : Nat) : BitVec 256

end Sys2Proof.Config
end

