-- ==== Sys2Proof/Machine/Firewall.lean ====
section
/-!
DEFINITION. The bus firewall of 01_module_architecture.md (R31 to R42): windows, violations and freezes.
-/
namespace Sys2Proof.Machine

/-- Kinds of an access. -/
inductive AccessKind where
  | read | write | execute
  deriving DecidableEq, Repr

/-- Whether an address lies in a window (R31). -/
def Window.holds (w : Window) (addr : Nat) : Bool := decide (w.base * 4096 ≤ addr) && decide (addr < (w.base + w.pages) * 4096)

/-- Whether a window carries an attribute. -/
def Window.allows (w : Window) : AccessKind → Bool
  | .read => w.r | .write => w.w | .execute => w.x

/-- Cause of a violation (R34, FWL.VINFO): 1 outside all windows, 2 attribute missing, 3 partial access to a P window. -/
def violation (ws : List Window) (addr width : Nat) (k : AccessKind) : Option Nat :=
  let hit := ws.filter (fun w => w.holds addr)
  if hit.isEmpty then some 1
  else
    let ok := hit.filter (fun w => w.allows k)
    if ok.isEmpty then some 2
    else if ok.any (fun w => w.p) && !(width == 8 && addr % 8 == 0) then some 3
    else none

/-- Windows of a master in the set in force (R31, R32). -/
def windowsOf (fw : Firewall) (runtime : Bool) (m : Nat) : List Window :=
  spGet [] m (if runtime then fw.runtime else fw.app)

/-- A master frozen; the first violation since restart is recorded (R36, R38). -/
def freezeMaster (m cause addr : Nat) (fw : Firewall) : Firewall :=
  let fw := if fw.frozen.contains m then fw else { fw with frozen := fw.frozen ++ [m] }
  if fw.vValid then fw else { fw with vValid := true, vMaster := m, vCause := cause, vAddr := addr }

/-- Firewall master of DMA channel `c` of a lane (R39). -/
def dmaMaster (l : LaneId) (c : Nat) : Nat := 8 + 16 * l.num + c

/-- The lane of a lane master (R39): a core, a DMA channel or a route engine. -/
def laneOfMaster (m : Nat) : Option LaneId :=
  let pick (n : Nat) : LaneId := if n = 0 then .a else if n = 1 then .b else .c
  if m < 6 then some (pick (m / 2))
  else if 8 ≤ m ∧ m < 56 then some (pick ((m - 8) / 16))
  else if 64 ≤ m ∧ m < 67 then some (pick (m - 64))
  else none

/-- Reserved ranges of the lane address map (R41, R42). -/
def reservedAddr (a : Nat) : Bool :=
  decide (0x01000000 ≤ a ∧ a < 0x80000000) || decide (0xF00E0000 ≤ a ∧ a < 0x100000000) || decide (0x110000000 ≤ a)

/-- A window that covers no reserved range (R42). -/
def windowOk (w : Window) : Bool :=
  let clear (lo hi : Nat) : Bool := decide (w.pages = 0 ∨ w.base + w.pages ≤ lo ∨ hi ≤ w.base)
  clear 0x1000 0x80000 && clear 0xF00E0 0x100000 && clear 0x110000 (2 ^ 40)

end Sys2Proof.Machine
end

