-- ==== Sys2Proof/Machine/Dma.lean ====
section
/-!
DEFINITION. The DMA channels and check-value units of one lane, 12_dma_and_check_units.md: descriptors, beats and their responses,
ends and completion records, checks over DMA streams and over stream payloads.
-/
namespace Sys2Proof.Machine

/-- A lane's channels at work in a step: the lane, the firewall, whether the module is in RUN, the tick, the next free value, the
events raised and whether the step found a lane fault. `rd` reads a byte of the lane's memory as it stood before the step. -/
structure DWork where
  id : LaneId
  lane : Lane
  fw : Firewall
  run : Bool
  tick : Nat
  free : Nat
  rd : Nat → Byte
  ev : List Nat := []
  fault : Bool := false

/-- Channel `c`. -/
def DWork.ch (w : DWork) (c : Nat) : DmaCh := nth {} c w.lane.dma
/-- Channel changed. -/
def DWork.modCh (c : Nat) (k : DmaCh → DmaCh) (w : DWork) : DWork := { w with lane := { w.lane with dma := modNth c k w.lane.dma } }
/-- Check unit `u`. -/
def DWork.unit (w : DWork) (u : Nat) : ChkUnit := nth {} u w.lane.chk
/-- Check unit changed. -/
def DWork.modUnit (u : Nat) (k : ChkUnit → ChkUnit) (w : DWork) : DWork := { w with lane := { w.lane with chk := modNth u k w.lane.chk } }

/-- End codes of R578. -/
def endDone : Nat := 1
/-- R575. -/
def endStopped : Nat := 2
/-- R592. -/
def endCheckFail : Nat := 3
/-- R570. -/
def endLoop : Nat := 4
/-- R564. -/
def endDesc : Nat := 5
/-- R571. -/
def endBusErr : Nat := 6
/-- R572. -/
def endLastErr : Nat := 7
/-- R567. -/
def endInteg : Nat := 8

/-- Beat width in bytes of SW or DW. -/
def beatBytes (code : Nat) : Nat := 2 ^ code

/-- A byte of the lane's memory: written in this step, or as it stood. -/
def DWork.byte (w : DWork) (a : Nat) : Byte := match w.lane.mem.find? (fun p => p.1 == a) with
  | some p => p.2
  | none => w.rd a

/-- `n` bytes from an address. -/
def DWork.bytes (w : DWork) (a n : Nat) : List Byte := (rangeFrom a n).map w.byte

/-- Bytes written into the lane's memory. -/
def DWork.store (bs : List (Nat × Byte)) (w : DWork) : DWork :=
  { w with lane := { w.lane with mem := bs.foldl (fun m p => spSet 0 p.1 p.2 m) w.lane.mem } }

/-! ### The end of a chain (R573, R578, R580, R591) -/

/-- The unit of a channel released, with or without a valid result (R588, R591). -/
def releaseUnits (c code : Nat) (w : DWork) : DWork :=
  let good := code == endDone || code == endCheckFail
  { w with lane := { w.lane with chk := w.lane.chk.map (fun u =>
      if u.chan == some c then { u with chan := none, lastChan := some c, valid := good && u.valid } else u) } }

/-- What an end records (R580, 0x9040+c). -/
def recordEnd (c : Nat) (w : DWork) : DWork :=
  w.modCh c (fun x =>
    { x with
      state := .idle, code := x.endCode, ended := true, endSeen := false, waiting := false, interrupt := x.interrupt || w.run,
      endCode := 0, desc := none, hold := [], beats := [], needFetch := false, unit := none,
      chains := add32 x.chains 1, notDone := if x.endCode == endDone then x.notDone else add32 x.notDone 1 })

/-- A chain with its end code settled and no response outstanding ends; outside RUN it waits for its completion record (R580). -/
def settleEnd (c : Nat) (w : DWork) : DWork :=
  let x := w.ch c
  if x.endCode = 0 ∨ !x.beats.isEmpty ∨ x.waiting then w
  else
    let w := releaseUnits c x.endCode w
    if w.run then recordEnd c w else w.modCh c (fun x => { x with waiting := true })

/-- An end cause; of several the highest code stands (R578). -/
def endChain (c code : Nat) (w : DWork) : DWork :=
  settleEnd c (w.modCh c (fun x => { x with endCode := max x.endCode code, needFetch := false }))

/-- A freeze of a channel under R36 (R576). -/
def freezeChannel (c cause addr : Nat) (w : DWork) : DWork :=
  let m := dmaMaster w.id c
  let w := { w with fw := freezeMaster m cause addr w.fw, ev := w.ev ++ [232] }
  w.modCh c (fun x => { x with state := .frozen, beats := [], needFetch := false, endCode := 0, waiting := false })

/-- An access of a channel judged by its windows; a violation freezes it. True in the second place when it may go on. -/
def channelAccess (c addr width : Nat) (k : AccessKind) (w : DWork) : DWork × Bool :=
  match violation (windowsOf w.fw false (dmaMaster w.id c) ++ windowsOf w.fw true (dmaMaster w.id c)) addr width k with
  | some cause => (freezeChannel c cause addr w, false)
  | none => (w, true)

/-! ### Descriptors (R562 to R564, R570) -/

/-- A descriptor's fields from its 32 bytes. -/
def readDescriptor (bs : List Byte) : Descriptor :=
  let ctl := leAt 0x14 2 bs
  { src := leAt 0 8 bs, dst := leAt 8 8 bs, len := leAt 0x10 4 bs, last := ctl.testBit 15, pw := ctl.testBit 14,
    chkEnd := ctl.testBit 13, chkEn := ctl.testBit 12, unit := bits 10 8 ctl, dfix := ctl.testBit 7, sfix := ctl.testBit 6,
    dw := bits 5 3 ctl, sw := bits 2 0 ctl, next := leAt 0x18 8 bs }

/-- Length of a unit's check value. -/
def unitLen (u : ChkUnit) : Nat := (crcKindOf u.poly).bytes

/-- Destination length (R563). -/
def destLen (d : Descriptor) (u : ChkUnit) : Nat :=
  if d.chkEnd then (if u.dir = 0 then d.len + unitLen u else d.len - unitLen u) else d.len

/-- The checks of R564 on a fetched descriptor. -/
def descriptorOk (c : Nat) (bs : List Byte) (u : ChkUnit) : Bool :=
  let d := readDescriptor bs
  let sw := beatBytes d.sw
  let dw := beatBytes d.dw
  let dl := destLen d u
  let usesUnit := d.chkEn || d.chkEnd
  let crcRight := crcOf .crc16 (bs.take 0x16 ++ bs.drop 0x18) == leAt 0x16 2 bs
  let fields := decide (d.src < 2 ^ 40) && decide (d.dst < 2 ^ 40) && !(leAt 0x14 2 bs).testBit 11 && decide (d.sw ≤ 4) &&
    decide (d.dw ≤ 4) && decide (0 < d.len) && (d.last || (d.next % 32 == 0 && decide (d.next < 2 ^ 40)))
  let srcEnd := if d.sfix then d.src + sw else d.src + d.len
  let dstEnd := if d.dfix then d.dst + dw else d.dst + dl
  let ranges := decide (srcEnd ≤ 2 ^ 40) && decide (dstEnd ≤ 2 ^ 40) && (dl == 0 || decide (srcEnd ≤ d.dst) || decide (dstEnd ≤ d.src))
  let fixed := (!d.sfix || (d.src % sw == 0 && d.len % sw == 0)) && (!d.dfix || (d.dst % dw == 0 && dl % dw == 0))
  let paired := !d.pw || (d.sw == 3 && !d.sfix && d.src % 8 == 0 && d.len % 8 == 0)
  let unitOk := !usesUnit || (u.src == 0 && (u.chan == none || u.chan == some c) &&
    !(d.chkEnd && u.dir == 1 && decide (d.len < unitLen u)))
  crcRight && fields && ranges && fixed && paired && unitOk

/-! ### Beats (R565 to R573) -/

/-- Destination address of destination byte `i`. -/
def destAddr (d : Descriptor) (i : Nat) : Nat := if d.dfix then d.dst + i % beatBytes d.dw else d.dst + i

/-- Beat address of a byte address. -/
def beatAddr (width a : Nat) : Nat := a / width * width

/-- Bytes cut into write beats: consecutive bytes of one aligned beat, at most `n` beats, all in one 4 KiB page. -/
def cutBeats (d : Descriptor) (page : Nat) : Nat → Nat → List Byte → List (List (Nat × Byte))
  | 0, _, _ => []
  | _, _, [] => []
  | n + 1, i, b :: bs =>
    let width := beatBytes d.dw
    let a := destAddr d i
    if a / 4096 ≠ page then []
    else
      let k := min (width - a % width) (b :: bs).length
      let these := (rangeFrom 0 k).zip ((b :: bs).take k)
      these.map (fun p => (destAddr d (i + p.1), p.2)) :: cutBeats d page n (i + k) ((b :: bs).drop k)

/-- One write burst from the holding register issued (R568, R569): up to 16 beats within one page; a burst that takes the
remaining count to zero is final: its data are released and the next descriptor is due. -/
def issueBurst (c : Nat) (d : Descriptor) (dl : Nat) (w : DWork) : DWork :=
  let x := w.ch c
  let beats := cutBeats d (destAddr d x.dstDone / 4096) 16 x.dstDone x.hold
  let n := (beats.map List.length).foldl (· + ·) 0
  let addr := (beats.headD []).head?.map (·.1) |>.getD 0
  let width := beatBytes d.dw
  match channelAccess c (beatAddr width addr) width .write w with
  | (w, false) => w
  | (w, true) =>
    let final := x.dstDone + n = dl
    let burst := (beats.flatten).map (fun p => (p.1, p.2, w.byte p.1))
    let mk (b : List (Nat × Byte)) : Beat :=
      { write := true, addr := beatAddr width ((b.head?.map (·.1)).getD 0), width := width, data := b, burst := burst,
        final := final, desc := x.cur, before := x.bytes }
    let new := beats.map mk
    w.modCh c (fun y =>
      { y with
        beats := y.beats ++ new, dstDone := y.dstDone + n, hold := if final then y.hold.drop n else y.hold,
        needFetch := final && !d.last, desc := if final then none else y.desc })

/-- One read beat issued (R566). -/
def issueRead (c : Nat) (d : Descriptor) (w : DWork) : DWork :=
  let x := w.ch c
  let width := beatBytes d.sw
  let a := if d.sfix then d.src else d.src + x.srcDone
  match channelAccess c (beatAddr width a) width .read w with
  | (w, false) => w
  | (w, true) => w.modCh c (fun y => { y with beats := y.beats ++ [{ write := false, addr := beatAddr width a, width := width, desc := y.cur }] })

/-- What a running channel does next (R565, R568): with no beat of its descriptor outstanding, it writes a full holding register or
the end of the data, and otherwise reads. -/
def issueNext (c : Nat) (w : DWork) : DWork :=
  let x := w.ch c
  match x.desc with
  | none => w
  | some d =>
    let dl := destLen d (w.unit d.unit)
    if x.state ≠ DmaState.running ∨ x.endCode ≠ 0 ∨ x.beats.any (fun b => !b.final) then w
    else if x.hold.length + beatBytes d.sw > 32 ∨ x.srcDone = d.len then
      if x.hold.isEmpty then w.modCh c (fun y => { y with desc := none, needFetch := !d.last }) else issueBurst c d dl w
    else issueRead c d w

/-- The chain is over when LAST is done and no response is outstanding (R573). -/
def checkDone (c : Nat) (w : DWork) : DWork :=
  let x := w.ch c
  if x.endCode = 0 && x.beats.isEmpty && x.desc.isNone && !x.needFetch && x.state == .running then
    endChain c (if x.checkBad then endCheckFail else endDone) w
  else w

/-- A descriptor taken into work: the unit is bound or started afresh (R588). -/
def takeDescriptor (c addr : Nat) (d : Descriptor) (w : DWork) : DWork :=
  let w := w.modCh c (fun x =>
    { x with needFetch := false, cur := addr, nextDesc := d.next, desc := some d, srcDone := 0, dstDone := 0, hold := [], tail := [],
             bytes := 0 })
  if d.chkEn then
    let fresh := (w.ch c).unit != some d.unit || (w.ch c).unitFresh
    let w := if fresh then w.modUnit d.unit (fun u => { u with chan := some c, reg := crcInit (crcKindOf u.poly), valid := false }) else w
    w.modCh c (fun x => { x with unit := some d.unit, unitFresh := false })
  else w

/-- The next descriptor fetched and checked (R564, R570). -/
def fetchDescriptor (c : Nat) (w : DWork) : DWork :=
  let x := w.ch c
  if x.state ≠ DmaState.running ∨ !x.needFetch ∨ x.endCode ≠ 0 then w
  else if x.hopLim < x.hops + 1 then endChain c endLoop w
  else
    let addr := x.nextDesc
    match channelAccess c addr 8 .read w with
    | (w, false) => w
    | (w, true) =>
      let w := w.modCh c (fun y => { y with hops := y.hops + 1, cur := addr })
      let bs := w.bytes addr 32
      let d := readDescriptor bs
      if descriptorOk c bs (w.unit d.unit) then issueNext c (takeDescriptor c addr d w) else endChain c endDesc w

/-- Bytes fed to a unit. -/
def feedUnit (u : Nat) (bs : List Byte) (w : DWork) : DWork :=
  w.modUnit u (fun x => { x with reg := bs.foldl (crcFeed (crcKindOf x.poly)) x.reg })

/-- A check value in the byte order of a unit. -/
def checkBytes (u : ChkUnit) (v : Nat) : List Byte := if u.order = 0 then toBE (unitLen u) v else toLE (unitLen u) v

/-- Value of a unit at CHKEND. A unit that no descriptor of the chain has started (CHKEND without CHKEN) gives a free value. -/
def endValue (c : Nat) (d : Descriptor) (w : DWork) : Nat :=
  let x := w.ch c
  let u := w.unit d.unit
  if x.unit = some d.unit ∧ !x.unitFresh then crcFinal (crcKindOf u.poly) u.reg
  else Config.freeValue 64 w.free % 2 ^ (8 * unitLen u)

/-- Source bytes taken into the holding register and through the unit (R588 to R590). -/
def takeBytes (c : Nat) (d : Descriptor) (bs : List Byte) (w : DWork) : DWork :=
  let x := w.ch c
  let u := w.unit d.unit
  let n := unitLen u
  let strip := d.chkEnd && u.dir == 1
  let all := x.tail ++ bs
  let pass := if strip then all.take (all.length - n) else bs
  let keep := if strip then all.drop (all.length - n) else []
  let w := if d.chkEn then feedUnit d.unit pass w else w
  let w := w.modCh c (fun y => { y with srcDone := y.srcDone + bs.length, tail := keep, hold := y.hold ++ pass })
  if d.chkEnd && (w.ch c).srcDone == d.len then
    let u := w.unit d.unit
    let v := endValue c d w
    let w := { w with free := w.free + 1 }
    let bad := strip && keep != checkBytes u v
    let w := w.modUnit d.unit (fun y =>
      { y with
        value := v, valid := true, bad := bad, checks := add32 y.checks 1, mismatches := satAdd (2 ^ 32 - 1) y.mismatches (boolNat bad),
        newBad := y.newBad || bad })
    w.modCh c (fun y =>
      { y with
        hold := if strip then y.hold else y.hold ++ checkBytes u v, chkVal := v % 2 ^ 32, checkBad := y.checkBad || bad,
        unitFresh := true })
  else w

/-- A good read response: bytes inside the source range are kept; in paired-word mode each word is checked (R566, R567). -/
def goodRead (c : Nat) (b : Beat) (w : DWork) : DWork :=
  match (w.ch c).desc with
  | none => w
  | some d =>
    let x := w.ch c
    let lo := if d.sfix then b.addr else max b.addr (d.src + x.srcDone)
    let hi := if d.sfix then b.addr + b.width else min (b.addr + b.width) (d.src + d.len)
    let bs := w.bytes lo (hi - lo)
    if d.pw && !pairOk (leNat bs) then endChain c endInteg { w with fault := true, ev := w.ev ++ [52] }
    else issueNext c (takeBytes c d bs w)

/-- A good write response: the bytes are written; a burst whose every response was good counts (R568, R581). -/
def goodWrite (c : Nat) (b : Beat) (w : DWork) : DWork :=
  let w := w.store b.data
  let x := w.ch c
  let lastOne := !x.beats.any (fun y => y.write && y.burst == b.burst && y.desc == b.desc)
  if lastOne then
    let w := w.modCh c (fun y =>
      { y with
        bytes := if y.cur = b.desc then y.bytes + b.burst.length else y.bytes,
        hold := if b.final then y.hold else y.hold.drop b.burst.length })
    issueNext c w
  else w

/-- Old or new, byte by byte, by free values: the bytes of a final burst whose response failed (R572). -/
def scatter (burst : List (Nat × Byte × Byte)) (w : DWork) : DWork :=
  let pairs := (rangeFrom w.free burst.length).zip burst
  let w := w.store (pairs.map (fun p => (p.2.1, if Config.freeValue 1 p.1 % 2 = 1 then p.2.2.1 else p.2.2.2)))
  { w with free := w.free + burst.length }

/-- The other beats of a burst whose response failed: its bytes are never counted (R581), and after LASTERR they are not written again. -/
def failBurst (lose : Bool) (b z : Beat) : Beat :=
  if z.write && z.burst == b.burst && z.desc == b.desc then
    { z with burst := [], data := if lose then [] else z.data, final := if lose then false else z.final }
  else z

/-- An error response (R571, R572, R575). -/
def badResponse (c : Nat) (b : Beat) (w : DWork) : DWork :=
  let x := w.ch c
  if b.final then
    let w := scatter b.burst w
    let w := w.modCh c (fun y =>
      { y with
        cur := b.desc, bytes := b.before, beats := y.beats.map (failBurst true b) })
    endChain c endLastErr w
  else if x.state == .running && x.endCode == 0 && decide (b.tries < x.retry) then
    w.modCh c (fun y =>
      { y with beats := y.beats ++ [{ b with tries := b.tries + 1 }], retries := satAdd 255 y.retries 1, repeats := add32 y.repeats 1 })
  else endChain c endBusErr (w.modCh c (fun y => { y with beats := if b.write then y.beats.map (failBurst false b) else y.beats }))

/-- The response of the oldest outstanding beat (R568 to R575). -/
def beatResponse (c : Nat) (ok : Bool) (w : DWork) : DWork :=
  let x := w.ch c
  match x.beats with
  | [] => w
  | b :: rest =>
    if x.state ≠ DmaState.running ∧ x.state ≠ DmaState.stopping then w
    else
      let w := w.modCh c (fun y => { y with beats := rest })
      let w := if !ok then badResponse c b w
        else if b.write then goodWrite c b w
        else if x.state == .running && x.endCode == 0 then goodRead c b w
        else w
      let w := settleEnd c w
      if (w.ch c).state == .stopping && (w.ch c).beats.isEmpty && (w.ch c).endCode == 0 then endChain c endStopped w else checkDone c w

/-! ### Start and stop (R574 to R577, R579) -/

/-- A refused write to a channel's page (R577). -/
def refuseCh (c off status : Nat) (w : DWork) : DWork := w.modCh c (fun x => { x with wst := some (off, status) })

/-- START in IDLE (R574). -/
def startChain (c : Nat) (w : DWork) : DWork :=
  w.modCh c (fun x =>
    { x with
      state := .running, hops := 0, bytes := 0, retries := 0, code := 0, needFetch := true, nextDesc := x.chDesc, cur := x.chDesc,
      desc := none, hold := [], beats := [], unit := none, unitFresh := true, tail := [], checkBad := false, chkVal := 0, endCode := 0,
      waiting := false, ended := false, endSeen := false, interrupt := false })

/-- STOP of a channel that runs (R575). -/
def stopChain (c : Nat) (w : DWork) : DWork :=
  let x := w.ch c
  if x.state ≠ DmaState.running then w
  else
    let w := w.modCh c (fun y => { y with state := .stopping, needFetch := false })
    if (w.ch c).beats.isEmpty && (w.ch c).endCode == 0 then endChain c endStopped w else w

/-- A write of DMA.CHCTL (R574, R575, R577). -/
def writeChctl (c word : Nat) (w : DWork) : DWork :=
  let x := w.ch c
  let start := word.testBit 0
  let stop := word.testBit 1
  let retry := bits 10 8 word
  if bits 31 11 word ≠ 0 ∨ bits 7 2 word ≠ 0 ∨ (start ∧ stop) then refuseCh c 0 0x0101 w
  else if start ∧ x.state = .running then refuseCh c 0 0x0501 w
  else if start ∧ x.state = .stopping then refuseCh c 0 0x0503 w
  else if start ∧ x.state = .frozen then refuseCh c 0 0x0201 w
  else if stop ∧ x.state = .idle then refuseCh c 0 0x0211 w
  else if retry ≠ x.retry ∧ x.state ≠ .idle ∧ ¬ stop then refuseCh c 0 0x0501 w
  else
    let w := if x.state = .idle then w.modCh c (fun y => { y with retry := retry }) else w
    if start then startChain c w else if stop then stopChain c w else w

/-- The completion record of a channel that waits (R581, R582). -/
def completionBytes (tick c seq : Nat) (x : DmaCh) : List Byte :=
  toLE 8 tick ++ toLE 8 x.cur ++ toLE 4 x.bytes ++ toLE 2 x.hops ++ toLE 1 c ++ toLE 1 x.endCode ++ toLE 4 x.chkVal ++ toLE 4 seq

/-- A completion record written once the ring has room (R580, R582). -/
def writeCompletion (c : Nat) (w : DWork) : DWork :=
  let x := w.ch c
  let r := w.lane.ring
  let size := 2 ^ r.size
  if !x.waiting ∨ (r.head + 1) % size = r.tail then w
  else
    let a := r.base + 32 * r.head
    match channelAccess c a 8 .write w with
    | (w, false) => w
    | (w, true) =>
      let bs := completionBytes w.tick c r.seq x
      let w := w.store ((rangeFrom a 32).zip bs)
      recordEnd c { w with lane := { w.lane with ring := { r with head := (r.head + 1) % size, seq := add32 r.seq 1 } } }

/-- Every channel idle (R157, R597). -/
def channelsIdle (l : Lane) : Bool := l.dma.all (fun x => x.state == .idle)

/-! ### Register writes of channels and units (R577, R587, R597) -/

/-- A write of a DMA register of a channel's page but CHCTL. -/
def writeDmaReg (c off v : Nat) (w : DWork) : DWork :=
  let x := w.ch c
  let idle := x.state == .idle
  let ring := w.lane.ring
  let allIdle := channelsIdle w.lane
  let setRing (r : Ring) : DWork := { w with lane := { w.lane with ring := r } }
  if off = 0x000 then writeChctl c v w
  else if off = 0x004 then
    if bits 31 16 v ≠ 0 then refuseCh c off 0x0101 w
    else if v = 0 then refuseCh c off 0x0102 w
    else if !idle then refuseCh c off 0x0501 w
    else w.modCh c (fun y => { y with hopLim := v })
  else if off = 0x008 then
    if v % 32 ≠ 0 then refuseCh c off 0x0101 w
    else if !idle then refuseCh c off 0x0501 w
    else w.modCh c (fun y => { y with chDesc := y.chDesc / 2 ^ 32 * 2 ^ 32 + v })
  else if off = 0x00C then
    if 256 ≤ v then refuseCh c off 0x0101 w
    else if !idle then refuseCh c off 0x0501 w
    else w.modCh c (fun y => { y with chDesc := y.chDesc % 2 ^ 32 + v * 2 ^ 32 })
  else if c ≠ 0 ∨ ¬ (off = 0x800 ∨ off = 0x804 ∨ off = 0x808 ∨ off = 0x810) then
    if off = 0x010 ∨ off = 0x014 ∨ off = 0x018 ∨ off = 0x01C ∨ off = 0x020 ∨ off = 0x024 ∨ off = 0xF00 ∨ (c = 0 ∧ off = 0x80C) then
      { w with fw := { w.fw with nullWrites := add32 w.fw.nullWrites 1 } }
    else if v = 0 then w else refuseCh c off 0x0101 w
  else if off = 0x810 ∧ 2 ^ ring.size ≤ v then refuseCh c off 0x0101 w
  else if !allIdle then refuseCh c off 0x0501 w
  else if off = 0x810 then setRing { ring with tail := v }
  else if off = 0x800 then
    if v % 32 ≠ 0 then refuseCh c off 0x0101 w else setRing { ring with base := ring.base / 2 ^ 32 * 2 ^ 32 + v }
  else if off = 0x804 then
    if 256 ≤ v then refuseCh c off 0x0101 w else setRing { ring with base := ring.base % 2 ^ 32 + v * 2 ^ 32 }
  else
    if bits 31 4 v ≠ 0 then refuseCh c off 0x0101 w
    else if v < 4 ∨ 12 < v then refuseCh c off 0x0102 w
    else setRing { ring with size := v }

/-- A write of CHK.CFG (R587); `streamOk` tells whether a port stream may be named, with its payload length. -/
def writeChkCfg (u v : Nat) (streamLen : Nat → Nat → Nat → Option Nat) (w : DWork) : DWork :=
  let x := w.unit u
  let src := bits 9 8 v
  let refuse (s : Nat) : DWork := w.modUnit u (fun y => { y with wst := some (0, s) })
  let n := (crcKindOf (bits 1 0 v)).bytes
  let portBad : Bool := match streamLen src (bits 10 10 v) (bits 31 16 v) with
    | some len => decide (len < n)
    | none => true
  if bits 15 11 v ≠ 0 ∨ bits 7 6 v ≠ 0 ∨ bits 3 2 v ≠ 0 ∨ src = 3 then refuse 0x0101
  else if x.chan.isSome ∨ x.src = 1 ∨ x.src = 2 then refuse 0x0501
  else if src ≠ 0 ∧ portBad then refuse 0x0101
  else w.modUnit u (fun y =>
    { y with
      stream := bits 31 16 v, net := bits 10 10 v, src := src, order := bits 5 5 v, dir := bits 4 4 v, poly := bits 1 0 v,
      valid := false, bad := false, value := 0 })

/-! ### Checks on port streams (R593, R594) -/

/-- A receive payload checked by the units of a lane that are bound to it: the units, and whether a check failed. -/
def checkReceive (net stream : Nat) (payload : List Byte) (l : Lane) : Lane × Bool :=
  let judge (u : ChkUnit) : ChkUnit × Bool :=
    if u.src = 1 ∧ u.net = net ∧ u.stream = stream then
      let k := crcKindOf u.poly
      let n := payload.length - unitLen u
      let v := crcOf k (payload.take n)
      let bad := payload.drop n != checkBytes u v
      ({ u with
         value := v, valid := true, bad := bad, checks := add32 u.checks 1,
         mismatches := satAdd (2 ^ 32 - 1) u.mismatches (boolNat bad), newBad := u.newBad || bad }, bad)
    else (u, false)
  let js := l.chk.map judge
  ({ l with chk := js.map (·.1) }, js.any (·.2))

/-- A transmit payload with the check value of the bound unit in its last bytes (R594). -/
def checkTransmit (net stream : Nat) (payload : List Byte) (l : Lane) : Lane × List Byte :=
  match l.chk.find? (fun u => u.src == 2 && u.net == net && u.stream == stream) with
  | none => (l, payload)
  | some u =>
    let n := payload.length - unitLen u
    let v := crcOf (crcKindOf u.poly) (payload.take n)
    ({ l with chk := l.chk.map (fun y =>
        if y.src = 2 ∧ y.net = net ∧ y.stream = stream then { y with value := v, valid := true, checks := add32 y.checks 1 } else y) },
      payload.take n ++ checkBytes u v)

/-! ### Agreement (R583) and the end tables (R584, R595) -/

/-- Pairs of Green lanes. -/
def greenPairs (ls : Tri Lane) : List (LaneId × LaneId) :=
  [(LaneId.a, LaneId.b), (.b, .c), (.a, .c)].filter (fun p => (ls.get p.1).colour == .green && (ls.get p.2).colour == .green)

/-- Channel `c` has ended alike in two Green lanes since its last start, not yet reported (R583). -/
def endAgreed (ls : Tri Lane) (c : Nat) : Bool :=
  (greenPairs ls).any (fun p =>
    let x := nth {} c (ls.get p.1).dma
    let y := nth {} c (ls.get p.2).dma
    x.ended && y.ended && !x.endSeen && !y.endSeen && x.code == y.code && x.hops == y.hops && x.bytes == y.bytes)

/-- A mismatch of unit `u` found alike in two Green lanes (R592, R593). -/
def mismatchAgreed (ls : Tri Lane) (u : Nat) : Bool :=
  (greenPairs ls).any (fun p => (nth {} u (ls.get p.1).chk).newBad && (nth {} u (ls.get p.2).chk).newBad)

/-- The agreement at an input latch: the lanes with their marks, and the events. -/
def dmaAgreement (ls : Tri Lane) : Tri Lane × List Nat :=
  let cs := (rangeFrom 0 16).filter (endAgreed ls)
  let us := (rangeFrom 0 8).filter (mismatchAgreed ls)
  if cs.isEmpty ∧ us.isEmpty then (ls, [])
  else
    let mark (l : Lane) : Lane :=
      { l with
        dma := cs.foldl (fun d c => modNth c (fun x => { x with endSeen := true }) d) l.dma,
        chk := us.foldl (fun d u => modNth u (fun x => { x with newBad := false }) d) l.chk }
    (ls.mapWith (fun _ l => mark l), cs.map (· + 192) ++ us.map (· + 208))

/-- Words of a DMA end table entry, value halves (R584). -/
def endEntry (x : DmaCh) : Nat × Nat := if x.ended then (x.code + x.hops * 2 ^ 16, x.bytes) else (0, 0)

/-- Words of a check end table entry, value halves (R595). -/
def chkEntry (u : ChkUnit) : Nat × Nat := (boolNat u.valid + 2 * boolNat u.bad, u.value % 2 ^ 32)

/-- Leaving RUN stops channels 4 to 15 (R579). -/
def stopAppChannels (w : DWork) : DWork := (rangeFrom 4 12).foldl (fun w c => stopChain c w) w

/-- Every channel of a lane stopped (R155, R579). -/
def stopAllChannels (w : DWork) : DWork := (rangeFrom 0 16).foldl (fun w c => stopChain c w) w

/-- A channel after a restart or a region reset (R576, R579): idle, end code 0, its counters kept or cleared by the caller. -/
def resetChannel (x : DmaCh) : DmaCh := { ({} : DmaCh) with chains := x.chains, repeats := x.repeats, notDone := x.notDone }

end Sys2Proof.Machine
end

