-- ==== Sys2Proof/Machine/Sfu.lean ====
section
/-!
DEFINITION. The safety function unit of 06_machine_safety_functions.md: filters, discrepancy, reset edges, and the state tables of
the seven instance types, as functions of the SFU and of what a tick gives it.
-/
namespace Sys2Proof.Machine

/-- State codes of R288. -/
def sfTRIPPED : Nat := 1
/-- READY. -/
def sfREADY : Nat := 2
/-- ACTIVE. -/
def sfACTIVE : Nat := 3
/-- FAULT. -/
def sfFAULT : Nat := 4
/-- WAIT_RELEASE. -/
def sfWAIT : Nat := 5
/-- MUTED. -/
def sfMUTED : Nat := 6
/-- OBSTRUCTED. -/
def sfOBSTRUCTED : Nat := 7
/-- STOPPING. -/
def sfSTOPPING : Nat := 8
/-- ARMED. -/
def sfARMED : Nat := 9

/-- What a tick gives the SFU: tick count, samples and their validity, input channels in service and verifiable (R305),
output channels in service and not forced off (R305), values of demand variables by stable ID, and 0x5001:02. -/
structure SfEnv where
  tick : Nat
  img : InputImage
  inSvc : Nat
  outOk : Nat
  demands : List (Nat × Bool) := []
  recordAll : Bool := false

/-- State block of an instance; an instance without one is in the cold state (R333). -/
def sfOf (s : Sfu) (i : Nat) : SfState := spGet {} i s.states

/-- State block replaced. -/
def sfPut (i : Nat) (x : SfState) (s : Sfu) : Sfu := { s with states := spSet {} i x s.states }

/-- A channel field that names a channel. -/
def named (ch : Nat) : Bool := ch != 0xFFFF

/-- Value of a demand variable (R326, R328). -/
def SfEnv.demand (env : SfEnv) (id : Nat) : Bool := (env.demands.lookup id).getD false

/-! ### Filters -/

/-- One sample into a filter (R303, R669): `need` consecutive samples change it. -/
def filterStep (need : Nat) (sample : Bool) (f : Filter) : Filter :=
  if f.fresh then { st := sample, run := 0, fresh := false }
  else if sample = f.st then { f with run := 0 }
  else if need ≤ f.run + 1 then { f with st := sample, run := 0 }
  else { f with run := f.run + 1 }

/-- Sample of a channel; an invalid one counts as `inval` (R304). -/
def sampleOf (env : SfEnv) (ch : Nat) (inval : Bool) : Bool :=
  if env.img.valid.testBit ch then env.img.chans.testBit ch else inval

/-- Demand level of CH1 to CH4 of a type (R302). -/
def demandLevel (typ mode ch : Nat) : Bool :=
  if typ = 6 then true
  else if typ = 4 then ch == 1 || ch == 3
  else if (typ = 1 || typ = 3) && mode = 2 then ch == 2
  else false

/-- Samples that change a channel to `sample`: two, and for the demand of an OSSD two plus its filter (R303). -/
def needSamples (c : SfInst) (ch : Nat) (sample : Bool) : Nat :=
  if c.typ = 2 && sample = demandLevel 2 1 ch then 2 + c.p1 else 2

/-- One channel of an instance filtered. -/
def stepChannel (env : SfEnv) (c : SfInst) (n ch : Nat) (f : Filter) : Filter :=
  if named ch then
    let s := sampleOf env ch (demandLevel c.typ c.mode n)
    filterStep (needSamples c n s) s f
  else f

/-- One feedback channel filtered; an invalid sample counts as pulled in (R304). -/
def stepFeedback (env : SfEnv) (ch : Nat) (f : Filter) : Filter :=
  if named ch then filterStep 2 (sampleOf env ch false) f else f

/-- A named channel is in service and verifiable; an unnamed one counts so. -/
def chanSvc (env : SfEnv) (ch : Nat) : Bool := !named ch || env.inSvc.testBit ch

/-- Filters and in-service bits of an instance for this tick. -/
def stepFilters (env : SfEnv) (c : SfInst) (x : SfState) : SfState :=
  { x with
    c1 := stepChannel env c 1 c.ch1 x.c1, c2 := stepChannel env c 2 c.ch2 x.c2,
    c3 := stepChannel env c 3 c.ch3 x.c3, c4 := stepChannel env c 4 c.ch4 x.c4,
    b1 := stepFeedback env c.fb1 x.b1, b2 := stepFeedback env c.fb2 x.b2,
    svc := bitIf 0 (named c.ch1 && env.inSvc.testBit c.ch1) + bitIf 1 (named c.ch2 && env.inSvc.testBit c.ch2) +
      bitIf 2 (named c.ch3 && env.inSvc.testBit c.ch3) + bitIf 3 (named c.ch4 && env.inSvc.testBit c.ch4) +
      bitIf 4 (named c.fb1 && env.inSvc.testBit c.fb1) + bitIf 5 (named c.fb2 && env.inSvc.testBit c.fb2) }

/-- Every channel CH1 to CH4, FB1, FB2 of an instance is in service and verifiable (R305). -/
def allSvc (env : SfEnv) (c : SfInst) : Bool :=
  chanSvc env c.ch1 && chanSvc env c.ch2 && chanSvc env c.ch3 && chanSvc env c.ch4 && chanSvc env c.fb1 && chanSvc env c.fb2

/-- STATE word of a state block (R294). -/
def sfStateWord (x : SfState) : Nat :=
  x.state + x.fault * 2 ^ 8 + bitIf 16 x.permit + bitIf 17 x.req + bitIf 18 x.muted +
    bitIf 19 x.d.run + bitIf 20 x.p.run + bitIf 21 x.f1.run + bitIf 22 x.f2.run

/-- INPUTS word of a state block (R294). -/
def sfInputsWord (x : SfState) : Nat :=
  bitIf 0 x.c1.st + bitIf 1 x.c2.st + bitIf 2 x.c3.st + bitIf 3 x.c4.st + bitIf 4 x.b1.st + bitIf 5 x.b2.st + x.svc * 2 ^ 6

/-- The eight words of a state block, value halves (R294). -/
def sfWords (x : SfState) : List Nat :=
  [sfStateWord x, sfInputsWord x, x.d.t, x.p.t, x.f1.t, x.f2.t, x.stamp, x.aux]

/-! ### Entering states, diagnostic records -/

/-- A diagnostic record (R339). -/
def diagRecord (tick who kind st fault : Nat) : Nat :=
  (tick % 2 ^ 32) * 2 ^ 32 + who * 2 ^ 24 + kind * 2 ^ 16 + st * 2 ^ 8 + fault

/-- A record kept among the 64 newest, newest first (R339). -/
def addDiag (r : Nat) (s : Sfu) : Sfu := { s with diag := (r :: s.diag).take 64 }

/-- A timer started from 0. -/
def tmStart : SfTimer := { run := true, t := 0 }

/-- A timer stopped at 0. -/
def tmStop : SfTimer := {}

/-- A running timer has reached its duration. -/
def tmDue (x : SfTimer) (dur : Nat) : Bool := x.run && decide (dur ≤ x.t)

/-- A block enters a state (R287, R294, R295): permit of types 1 to 5, fault code cleared in ACTIVE and ARMED, STAMP, entry tick
of READY, trip count. -/
def enterState (c : SfInst) (tick st : Nat) (x : SfState) : SfState :=
  if x.state = st then x
  else
    { x with
      state := st,
      permit := st == sfACTIVE && decide (1 ≤ c.typ ∧ c.typ ≤ 5),
      fault := if st = sfACTIVE || st = sfARMED then 0 else x.fault,
      stamp := tick % 2 ^ 32, stampFull := tick,
      readyAt := if st = sfREADY then tick else x.readyAt,
      trips := if x.state = sfACTIVE || (c.typ = 6 && x.state = sfMUTED) || st = sfFAULT then add32 x.trips 1 else x.trips }

/-- A block enters FAULT with a code; its timers stop (R305 to R308, R328). -/
def enterFault (c : SfInst) (tick code : Nat) (x : SfState) : SfState :=
  let y := if x.state = sfFAULT then { x with stamp := tick % 2 ^ 32, stampFull := tick } else enterState c tick sfFAULT x
  { y with fault := code, permit := false, req := false, d := tmStop, p := tmStop, f1 := tmStop, f2 := tmStop, goneSince := none }

/-- Records of the change from `old` to `new` (R339): every entry to FAULT, other changes when asked for. -/
def noteChange (env : SfEnv) (i : Nat) (old new : SfState) (s : Sfu) : Sfu :=
  if new.state = sfFAULT && (old.state != sfFAULT || old.fault != new.fault) then
    addDiag (diagRecord env.tick i 2 new.state new.fault) s
  else if old.state != new.state && env.recordAll then addDiag (diagRecord env.tick i 1 new.state new.fault) s
  else s

/-- A block changed by the evaluation of its instance. -/
def commitBlock (env : SfEnv) (i : Nat) (new : SfState) (s : Sfu) : Sfu := noteChange env i (sfOf s i) new (sfPut i new s)

/-! ### Reset-edge checkers (pass 1) -/

/-- One checker in one tick (R309 to R311, R316). -/
def stepChecker (env : SfEnv) (k : Checker) : Checker × Option Nat :=
  let f := filterStep 2 (sampleOf env k.chan false) k.filt
  let rose := f.st && (k.filt.fresh || !k.filt.st)
  let fell := !f.st && !k.filt.fresh && k.filt.st
  let k1 := { k with filt := f, edge := none }
  if rose then ({ k1 with pressing := true, r := env.tick, jammed := false }, none)
  else if f.st then
    (if k1.pressing && !k1.jammed && decide (12000 ≤ env.tick - k1.r) then
      ({ k1 with jammed := true, jams := add32 k1.jams 1 }, some 5)
     else (k1, none))
  else if fell then
    let h := env.tick - k1.r
    let k2 := { k1 with pressing := false, jammed := false, armed := true }
    if !k1.armed || k1.jammed || !k1.pressing then (k2, none)
    else if h < 400 then ({ k2 with short := add32 k2.short 1 }, some 4)
    else if h < 12000 then ({ k2 with edge := some k1.r, accepted := add32 k2.accepted 1 }, some 3)
    else (k2, none)
  else ({ k1 with pressing := false, jammed := false, armed := true }, none)

/-- Pass 1 (R291): checkers in ascending number, a record for every press judged. -/
def passCheckers (env : SfEnv) (s : Sfu) : Sfu :=
  (rangeFrom 0 s.checkers.length).foldl (fun s j =>
    match s.checkers[j]? with
    | some k =>
      let (k', rec) := stepChecker env k
      let s := { s with checkers := setNth j k' s.checkers }
      match rec with
      | some kind => addDiag (diagRecord env.tick (0x80 + j) kind 0 0) s
      | none => s
    | none => s) s

/-- Press start of the edge accepted in this tick on the reset channel of an instance. -/
def edgeOf (s : Sfu) (c : SfInst) : Option Nat :=
  match s.checkers.find? (fun k => k.chan == c.reset) with
  | some k => k.edge
  | none => none

/-- A reset edge qualifies for an instance in READY (R312). -/
def resetQualifies (s : Sfu) (c : SfInst) (x : SfState) : Bool :=
  match edgeOf s c with
  | some r => x.state == sfREADY && decide (x.readyAt ≤ r)
  | none => false

/-! ### Discrepancy -/

/-- Demand flags of CH1 and CH2 in a block. -/
def demandOf (c : SfInst) (x : SfState) : Bool × Bool :=
  (x.c1.st == demandLevel c.typ c.mode 1, x.c2.st == demandLevel c.typ c.mode 2)

/-- The discrepancy rules of R307 and R308 for one tick, `x0` the block before the filters and `x` after: the block, and the
fault code of a window that has expired. -/
def discrepancy (c : SfInst) (x0 x : SfState) : SfState × Option Nat :=
  let (a, b) := demandOf c x
  if x.d.run then
    (if c.disc ≤ x.d.t then ({ x with d := tmStop }, some (if x.kind = .demand then 1 else 2))
     else if x.kind = .demand then ({ x with d := if a && b then tmStop else x.d }, none)
     else
      let firstDemand := if x.first = 1 then a else b
      let otherDemand := if x.first = 1 then b else a
      ({ x with d := if firstDemand || !otherDemand then tmStop else x.d }, none))
  else if x0.c1.fresh || x0.c2.fresh then (x, none)
  else
    let (a0, b0) := demandOf c x0
    let ca := a != a0
    let cb := b != b0
    if ca && !cb then
      (if a && !b then ({ x with d := tmStart, kind := .demand, first := 1 }, none)
       else if !a && b then ({ x with d := tmStart, kind := .ret, first := 1 }, none)
       else (x, none))
    else if cb && !ca then
      (if b && !a then ({ x with d := tmStart, kind := .demand, first := 2 }, none)
       else if !b && a then ({ x with d := tmStart, kind := .ret, first := 2 }, none)
       else (x, none))
    else (x, none)

/-! ### Types 1, 2, 3 and 5 -/

/-- State rows that types 1, 2, 3 and 5 share (R317, R318, R314), but for what ACTIVE does on demand. -/
def pairRows (s : Sfu) (env : SfEnv) (c : SfInst) (x : SfState) : SfState :=
  let (a, b) := demandOf c x
  let go (st : Nat) : SfState := enterState c env.tick st x
  if x.state = sfTRIPPED then
    (if !a && !b && !x.d.run && (!(c.typ = 3 && c.flags.testBit 0) || x.guardDone) then go sfREADY else x)
  else if x.state = sfREADY then
    (if a || b then go sfTRIPPED else if resetQualifies s c x then go sfACTIVE else x)
  else if x.state = sfFAULT then
    (if a && b then go sfTRIPPED else x)
  else x

/-- Rows of a door edge beyond those of R317 (R326), in the order of the table. -/
def doorRows (env : SfEnv) (c : SfInst) (x : SfState) : SfState :=
  let (a, b) := demandOf c x
  let close := env.demand c.p2
  let rise := close && !x.closePrev
  let x := { x with closePrev := close }
  if x.state = sfACTIVE && (a || b) then { enterState c env.tick sfOBSTRUCTED x with req := true, p := tmStop, aux := 0 }
  else if x.state = sfOBSTRUCTED then
    let x := if !a && !b && !x.p.run && !x.aux.testBit 0 then { x with p := tmStart } else x
    let x := if a || b then { x with p := tmStop, aux := setBit 0 false x.aux } else x
    let x := if tmDue x.p c.p1 then { x with p := tmStop, aux := setBit 0 true x.aux } else x
    if x.aux.testBit 0 && rise then { enterState c env.tick sfACTIVE x with req := false, aux := 0 } else x
  else x

/-- One tick of an instance of type 1, 2, 3 or 5 (R305, R308, R317 to R320, R326). -/
def evalPair (s : Sfu) (env : SfEnv) (c : SfInst) (x0 x : SfState) : SfState :=
  let (a, b) := demandOf c x
  let x := if a && b then { x with guardDone := true } else x
  if !allSvc env c then (if x.state = sfFAULT && x.fault = 3 then x else enterFault c env.tick 3 x)
  else if x.state = sfFAULT then pairRows s env c x
  else
    match discrepancy c x0 x with
    | (y, some code) => enterFault c env.tick code y
    | (y, none) =>
      if c.typ = 5 && (y.state = sfACTIVE || y.state = sfOBSTRUCTED) then doorRows env c y
      else
        let y := if c.typ = 5 then { y with closePrev := env.demand c.p2 } else y
        if y.state = sfACTIVE then (if (a || b) && !y.muted then enterState c env.tick sfTRIPPED y else y)
        else pairRows s env c y

/-! ### Two-hand control -/

/-- A hand is pressed: NO 1 and NC 0. -/
def handPressed (no nc : Filter) : Bool := no.st && !nc.st

/-- A hand is released: NO 0 and NC 1. -/
def handReleased (no nc : Filter) : Bool := !no.st && nc.st

/-- Contact window of one hand (R324): runs while the hand is between. -/
def contactTimer (no nc : Filter) (t : SfTimer) : SfTimer :=
  if handPressed no nc || handReleased no nc then tmStop else if t.run then t else tmStart

/-- One tick of a two-hand control (R324, R325). -/
def evalTwoHand (s : Sfu) (env : SfEnv) (c : SfInst) (x : SfState) : SfState :=
  let p1 := handPressed x.c1 x.c2
  let p2 := handPressed x.c3 x.c4
  let released := handReleased x.c1 x.c2 && handReleased x.c3 x.c4
  let go (st : Nat) (y : SfState) : SfState := enterState c env.tick st y
  if !allSvc env c then (if x.state = sfFAULT && x.fault = 3 then x else enterFault c env.tick 3 x)
  else if x.state = sfFAULT then (if released then go sfTRIPPED x else x)
  else if tmDue x.d c.disc || tmDue x.f1 c.disc then { enterFault c env.tick 8 x with aux := 0 }
  else
    let x := { x with d := contactTimer x.c1 x.c2 x.d, f1 := contactTimer x.c3 x.c4 x.f1 }
    if x.state = sfTRIPPED then (if released then go sfREADY x else x)
    else if x.state = sfREADY then (if resetQualifies s c x then go sfARMED x else x)
    else if x.state = sfARMED then
      (if x.p.run then
        (if tmDue x.p 2000 then { go sfWAIT x with p := tmStop, aux := 0 }
         else if p1 && p2 then { go sfACTIVE x with p := tmStop }
         else if (x.aux.testBit 0 && !p1) || (x.aux.testBit 1 && !p2) then { x with p := tmStop, aux := 0 }
         else x)
       else if p1 && p2 then { go sfACTIVE x with aux := 0 }
       else if p1 then { x with p := tmStart, aux := 1 }
       else if p2 then { x with p := tmStart, aux := 2 }
       else x)
    else if x.state = sfACTIVE then (if p1 && p2 then x else { go sfWAIT x with aux := 0 })
    else if x.state = sfWAIT then (if released then go sfARMED x else x)
    else x

/-! ### Muting -/

/-- MUTED written in the state block of a curtain. -/
def setMuted (link : Nat) (b : Bool) (s : Sfu) : Sfu := sfPut link { sfOf s link with muted := b } s

/-- One tick of a muting instance (R321, R305): its block and whether it holds its curtain muted. -/
def evalMuting (s : Sfu) (env : SfEnv) (c : SfInst) (x0 x : SfState) : SfState × Bool :=
  let go (st : Nat) (y : SfState) : SfState := enterState c env.tick st y
  let m1 := x.c1.st
  let m2 := x.c2.st
  let m3 := named c.ch3 && x.c3.st
  let m4 := named c.ch4 && x.c4.st
  let none0 := !m1 && !m2 && !m3 && !m4
  let pairA := m1 && m2
  let pairB := m3 && m4
  let curtain := sfOf s c.link
  let cc : SfInst := (s.insts.lookup c.link).getD { typ := 2, mode := 1 }
  let ossdOk := let (a, b) := demandOf cc curtain; !a && !b
  let lampOk := env.outOk.testBit c.lamp
  let keep := x.state == sfMUTED
  if !allSvc env c then (if x.state = sfFAULT && x.fault = 3 then x else enterFault c env.tick 3 x, false)
  else if !lampOk then (if x.state = sfFAULT then x else enterFault c env.tick 9 x, false)
  else if x.state = sfTRIPPED then (if none0 then go sfREADY x else x, false)
  else if x.state = sfREADY then (if resetQualifies s c x then go sfARMED x else x, false)
  else if x.state = sfARMED then
    (if x.d.run then
      (if tmDue x.d c.p1 then
        (if pairA then { x with d := tmStop } else enterFault c env.tick 9 x, false)
       else if pairA then
        (if curtain.state = sfACTIVE && ossdOk then ({ go sfMUTED x with d := tmStop, p := tmStart }, true)
         else ({ x with d := tmStop }, false))
       else if !m1 && !m2 then ({ x with d := tmStop }, false)
       else (x, false))
     else if (m1 && !(x0.c1.st && !x0.c1.fresh) && !m2) || (m2 && !(x0.c2.st && !x0.c2.fresh) && !m1) then
      ({ x with d := tmStart }, false)
     else (x, false))
  else if x.state = sfMUTED then
    (if (if c.mode = 1 then !pairA else !pairA && !pairB) then ({ go sfARMED x with p := tmStop }, false)
     else if curtain.state != sfACTIVE then ({ go sfARMED x with p := tmStop }, false)
     else if tmDue x.p c.p2 then (enterFault c env.tick 10 x, false)
     else (x, keep))
  else if x.state = sfFAULT then (if none0 then go sfTRIPPED x else x, false)
  else (x, false)

/-! ### Safe stop outputs -/

/-- Outputs of a safe stop output and the return switches of their groups are in service and not forced off (R305). -/
def outputsOk (env : SfEnv) (c : SfInst) : Bool :=
  (!named c.out1 || env.outOk.testBit c.out1) && (!named c.out2 || env.outOk.testBit c.out2)

/-- External device monitoring is set. -/
def monitored (c : SfInst) : Bool := c.flags.testBit 1

/-- Every monitored feedback shows released. -/
def feedbackReleased (c : SfInst) (x : SfState) : Bool :=
  (!named c.fb1 || x.b1.st) && (!named c.fb2 || x.b2.st)

/-- The cause of a FAULT of a safe stop output is gone (R328). -/
def causeGone (env : SfEnv) (c : SfInst) (x : SfState) : Bool :=
  outputsOk env c && allSvc env c && (!monitored c || feedbackReleased c x)

/-- Feedback windows started (R330, R331). -/
def startWindows (c : SfInst) (x : SfState) : SfState :=
  { x with
    f1 := if monitored c && named c.fb1 then tmStart else tmStop,
    f2 := if monitored c && named c.fb2 then tmStart else tmStop,
    seen1 := false, seen2 := false }

/-- One feedback channel against its window [t, t + F) (R330, R331): `want` is the level that it must show. Answers the timer,
whether the window is satisfied, and whether the window failed or the level was lost outside a window. -/
def judgeFeedback (c : SfInst) (ch : Nat) (want : Bool) (f : Filter) (t : SfTimer) (seen : Bool) : SfTimer × Bool × Bool :=
  if !monitored c || !named ch then (tmStop, false, false)
  else if t.run && decide (t.t < c.p3) then (t, seen || f.st == want, false)
  else (tmStop, false, (t.run && !seen) || f.st != want)

/-- The windows that opened in this tick see the level of this tick (R330, R331). -/
def settleWindows (want : Bool) (x : SfState) : SfState :=
  { x with seen1 := x.f1.run && x.b1.st == want, seen2 := x.f2.run && x.b2.st == want }

/-- One tick of a safe stop output (R305, R306, R312, R328 to R331). -/
def evalStop (s : Sfu) (env : SfEnv) (c : SfInst) (x : SfState) : SfState :=
  let perm := (rangeFrom 0 64).filter c.permits.testBit
  let all := perm.all (fun i => (sfOf s i).permit)
  let anyFault := perm.any (fun i => (sfOf s i).state == sfFAULT)
  let dem := env.demand c.p2
  let fault (code : Nat) (y : SfState) : SfState :=
    let g := causeGone env c y
    { enterFault c env.tick code y with goneSince := if g then some env.tick else none }
  let off (y : SfState) : SfState := startWindows c { enterState c env.tick sfTRIPPED y with req := false, p := tmStop }
  let settle (want : Bool) (y : SfState) : SfState := settleWindows want y
  if !allSvc env c then (if x.state = sfFAULT && x.fault = 3 then { x with goneSince := none } else fault 3 x)
  else if !outputsOk env c then (if x.state = sfFAULT && (x.fault = 3 || x.fault = 0x0C) then { x with goneSince := none } else fault 0x0C x)
  else if x.state = sfFAULT then
    let gone := causeGone env c x
    let since := if gone then (match x.goneSince with
      | some t => some t
      | none => some env.tick) else none
    let x := { x with goneSince := since }
    let leave := if named c.reset then
        (match edgeOf s c, since with
          | some r, some t => decide (t ≤ r)
          | _, _ => false)
      else gone && !dem
    if leave then { enterState c env.tick sfTRIPPED x with goneSince := none } else x
  else
    let on := x.state = sfACTIVE || x.state = sfSTOPPING
    let j1 := judgeFeedback c c.fb1 (!on) x.b1 x.f1 x.seen1
    let j2 := judgeFeedback c c.fb2 (!on) x.b2 x.f2 x.seen2
    if j1.2.2 || j2.2.2 then fault (if on then 6 else 7) x
    else
      let x := { x with f1 := j1.1, f2 := j2.1, seen1 := j1.2.1, seen2 := j2.2.1 }
      if x.state = sfTRIPPED then
        (if all && dem && (!monitored c || feedbackReleased c x) then
          settle false (startWindows c (enterState c env.tick sfACTIVE x))
         else x)
      else if x.state = sfACTIVE then
        (if !dem then settle true (off x)
         else if !all && c.mode = 0 then settle true (off x)
         else if !all && anyFault then settle true (off x)
         else if !all then { enterState c env.tick sfSTOPPING x with req := true, p := tmStart }
         else x)
      else if x.state = sfSTOPPING then
        (if tmDue x.p c.p1 || !dem || anyFault then settle true (off x) else x)
      else x

/-! ### The passes -/

/-- Timers that run take `dt` ticks, and the marks of the last tick are cleared (R94). -/
def ageTimer (dt : Nat) (t : SfTimer) : SfTimer := if t.run then { t with t := add32 t.t dt } else t

/-- The SFU at the start of a tick. -/
def ageSfu (dt : Nat) (s : Sfu) : Sfu :=
  { s with
    states := s.states.map (fun p => (p.1, { p.2 with
      d := ageTimer dt p.2.d, p := ageTimer dt p.2.p, f1 := ageTimer dt p.2.f1, f2 := ageTimer dt p.2.f2, done := false })),
    checkers := s.checkers.map (fun k => { k with edge := none }) }

/-- Pass 2 (R291): muting instances. -/
def passMuting (env : SfEnv) (s0 s : Sfu) : Sfu :=
  s.insts.foldl (fun s p =>
    if p.2.typ = 6 && !(sfOf s p.1).done then
      let x := sfOf s p.1
      let (y, muted) := evalMuting s env p.2 (sfOf s0 p.1) x
      setMuted p.2.link muted (commitBlock env p.1 y s)
    else s) s

/-- Pass 3 (R291): instances of types 1 to 5. -/
def passInstances (env : SfEnv) (s0 s : Sfu) : Sfu :=
  s.insts.foldl (fun s p =>
    let x := sfOf s p.1
    if x.done then s
    else if p.2.typ = 4 then commitBlock env p.1 (evalTwoHand s env p.2 x) s
    else if p.2.typ = 1 || p.2.typ = 2 || p.2.typ = 3 || p.2.typ = 5 then
      commitBlock env p.1 (evalPair s env p.2 (sfOf s0 p.1) x) s
    else s) s

/-- Pass 5 (R291): safe stop outputs. -/
def passOutputs (env : SfEnv) (s : Sfu) : Sfu :=
  s.insts.foldl (fun s p =>
    if p.2.typ = 7 && !(sfOf s p.1).done then commitBlock env p.1 (evalStop s env p.2 (sfOf s p.1)) s else s) s

/-- Filters of every instance for this tick. -/
def passFilters (env : SfEnv) (s : Sfu) : Sfu :=
  s.insts.foldl (fun s p => sfPut p.1 (stepFilters env p.2 (sfOf s p.1)) s) s

/-- Passes 1 to 3 (R291). -/
def sfuFront (env : SfEnv) (s : Sfu) : Sfu :=
  passInstances env s (passMuting env s (passCheckers env (passFilters env s)))

/-- Output channels that the safety configuration names, with their commands: safe stop outputs on in ACTIVE and STOPPING,
muting lamps on in MUTED (R287, R321, R328). -/
def sfuCommands (s : Sfu) : List (Nat × Bool) :=
  s.insts.flatMap (fun p =>
    let x := sfOf s p.1
    let on := x.state == sfACTIVE || x.state == sfSTOPPING
    if p.2.typ = 7 then
      (if named p.2.out1 then [(p.2.out1, on)] else []) ++ (if named p.2.out2 then [(p.2.out2, on)] else [])
    else if p.2.typ = 6 then [(p.2.lamp, x.state == sfMUTED)]
    else [])

/-- Distinct reset channels of a configuration in order of first naming, each with its checker (R289, R316). -/
def freshCheckers (insts : List (Nat × SfInst)) : List Checker :=
  (((insts.map (·.2.reset)).filter named).eraseDups).map (fun ch => { chan := ch })

/-- The SFU of a cold restart (R333, R669). -/
def coldSfu (s : Sfu) : Sfu := { s with states := [], checkers := freshCheckers s.insts }

/-- The SFU at a warm restart or takeover (R316, R332, R334): `gap` is added to restrictive timers, checkers start disarmed,
outputs restored on start fresh switch-on windows, and trips count from 0 again (0x5100+i:07). -/
def warmSfu (gap : Nat) (s : Sfu) : Sfu :=
  let block (p : Nat × SfState) : Nat × SfState :=
    match s.insts.lookup p.1 with
    | none => p
    | some c =>
      let x := p.2
      let y := { x with
        trips := 0,
        d := ageTimer gap x.d, p := if c.typ = 5 then x.p else ageTimer gap x.p,
        f1 := ageTimer gap x.f1, f2 := ageTimer gap x.f2 }
      (p.1, if c.typ = 7 && (x.state = sfACTIVE || x.state = sfSTOPPING) then startWindows c y else y)
  { s with states := s.states.map block, checkers := freshCheckers s.insts }

/-! ### Expiries as steps of their own -/

/-- Fault code that goes before an expiry of the same tick (R305, R306, R321): 0x03, 0x0C, and 0x09 of a muting lamp. -/
def faultAhead (env : SfEnv) (c : SfInst) : Option Nat :=
  if !allSvc env c then some 3
  else if c.typ = 7 && !outputsOk env c then some 0x0C
  else if c.typ = 6 && !env.outOk.testBit c.lamp then some 9
  else none

/-- One instance of a type changed by an expiry in a tick; nothing where the condition is absent. -/
def expireInst (env : SfEnv) (typs : List Nat) (f : SfInst → SfState → Option SfState) (i : Nat) (s : Sfu) : Sfu :=
  match s.insts.lookup i with
  | none => s
  | some c =>
    let x := sfOf s i
    if x.done || !typs.contains c.typ then s
    else match f c x with
      | some y =>
        let y := match faultAhead env c with
          | some code => enterFault c env.tick code x
          | none => y
        commitBlock env i { y with done := true } s
      | none => s

end Sys2Proof.Machine
end

