-- ==== Sys2Proof/Machine/Field.lean ====
section
/-!
DEFINITION. The field controller of 07_field_io.md: sampling, judging, tests, holds, retirements and the drive of the switches,
as functions of the Field region and of what a tick gives it.
-/
namespace Sys2Proof.Machine

/-- What a step gives the field controller: tick, mode, and the dictionary parameters by index and subindex. -/
structure FEnv where
  tick : Nat
  mode : Mode
  par : Nat → Nat → Nat

/-- The Field region at work in a step, with the events raised, in order. -/
structure FWork where
  f : Fio
  ev : List Nat := []

/-- An event raised. -/
def FWork.raise (e : Nat) (w : FWork) : FWork := { w with ev := w.ev ++ [e] }

/-- Input channel `i`. -/
def FWork.inp (w : FWork) (i : Nat) : InChan := nth {} i w.f.ins
/-- Output channel `c`. -/
def FWork.out (w : FWork) (c : Nat) : OutChan := nth {} c w.f.outs
/-- Group `g`. -/
def FWork.grp (w : FWork) (g : Nat) : Group := nth {} g w.f.groups
/-- Input channel changed. -/
def FWork.modIn (i : Nat) (k : InChan → InChan) (w : FWork) : FWork := { w with f := { w.f with ins := modNth i k w.f.ins } }
/-- Output channel changed. -/
def FWork.modOut (c : Nat) (k : OutChan → OutChan) (w : FWork) : FWork := { w with f := { w.f with outs := modNth c k w.f.outs } }
/-- Group changed. -/
def FWork.modGrp (g : Nat) (k : Group → Group) (w : FWork) : FWork := { w with f := { w.f with groups := modNth g k w.f.groups } }

/-- Group of an input channel (R341). -/
def groupOfIn (i : Nat) : Nat := i / 8
/-- Group of an output channel (R341). -/
def groupOfOut (c : Nat) : Nat := c / 4
/-- Input channels of a group. -/
def insOf (g : Nat) : List Nat := rangeFrom (8 * g) 8
/-- Output channels of a group. -/
def outsOf (g : Nat) : List Nat := rangeFrom (4 * g) 4

/-- One counted occurrence stamped `at_` into a counting window (R56, R667): the window, and whether the fault is permanent. -/
def countFault (n span at_ : Nat) (l : List Nat) : List Nat × Bool :=
  let l := lastN n (l ++ [at_])
  (l, decide (n ≤ l.length) && decide (at_ - l.headD at_ < span))

/-- N of the I/O channels (R57, R58). -/
def FEnv.n (env : FEnv) : Nat := env.par 0x6010 1
/-- W of the I/O channels in ticks (R57, R667). -/
def FEnv.span (env : FEnv) : Nat := env.par 0x6010 2 * 4000
/-- Readback settle time of an output (R360). -/
def FEnv.settle (env : FEnv) (c : Nat) : Nat := env.par (0x6100 + c) 2

/-- FIO.LASTF written. -/
def FWork.last (kind : Nat) (cls : FieldClass) (ch : Nat) (w : FWork) : FWork :=
  { w with f := { w.f with lastFault := some (kind, cls, ch) } }

/-- One more transient fault for 0x9010:02. -/
def FWork.transient (w : FWork) : FWork := { w with f := { w.f with transients := add32 w.f.transients 1 } }

/-- An abandoned pulse counted (R365). -/
def FWork.abandon (w : FWork) : FWork := { w with f := { w.f with pcnt := satAdd 0xFFFFFFFF w.f.pcnt 1 } }

/-! ### Opening switches, retirement -/

/-- The high-side switch of an output opened (R343, R366). -/
def openOut (tick c : Nat) (w : FWork) : FWork :=
  w.modOut c (fun o => if o.driven then { o with driven := false, lastChange := tick, openLoad := false } else o)

/-- Every switch of a group opened. -/
def openGroup (tick g : Nat) (w : FWork) : FWork :=
  (outsOf g).foldl (fun w c => openOut tick c w) (w.modGrp g (fun x => { x with driven := false }))

/-- A group retires itself (R23, R370): every switch open, every channel of it retired. The field record shows it from the next tick (R346). -/
def retireGroup (tick g : Nat) (w : FWork) : FWork :=
  if (w.grp g).retired then w
  else
    let w := openGroup tick g w
    let w := w.modGrp g (fun x => { x with retired := true, rsRetired := true })
    let w := (outsOf g).foldl (fun w c => w.modOut c (fun o => { o with retired := true })) w
    let w := (insOf g).foldl (fun w i => w.modIn i (fun x => { x with retired := true })) w
    w.raise 110

/-- The block limit of a group: 2 outputs, 4 inputs, or its return switch (R23). -/
def checkGroup (tick g : Nat) (w : FWork) : FWork :=
  let no := ((outsOf g).filter (fun c => (w.out c).retired)).length
  let ni := ((insOf g).filter (fun i => (w.inp i).retired)).length
  if 2 ≤ no || 4 ≤ ni || (w.grp g).rsRetired then retireGroup tick g w else w

/-- An input retires (R370). -/
def retireIn (tick i : Nat) (w : FWork) : FWork :=
  if (w.inp i).retired then w
  else
    checkGroup tick (groupOfIn i) ((w.modIn i (fun x =>
      { x with retired := true, suspended := none, coupler := none })).raise 105)

/-- An output retires (R370): its switch is held open. -/
def retireOut (tick c : Nat) (w : FWork) : FWork :=
  if (w.out c).retired then w
  else
    checkGroup tick (groupOfOut c) (((openOut tick c w).modOut c (fun o =>
      { o with retired := true, hold := none, onRetry := none, lightRetry := none, coupler := none })).raise 106)

/-- A return switch retires, and its group with it (R366). -/
def retireReturn (tick g : Nat) (w : FWork) : FWork :=
  checkGroup tick g (w.modGrp g (fun x => { x with rsRetired := true, onRetry := none, openRetry := none }))

/-- A transient fault of an input counted, stamped with its detection; permanent at the N-th within W (R56). -/
def countIn (env : FEnv) (found i : Nat) (w : FWork) : FWork :=
  let (l, perm) := countFault env.n env.span found (w.inp i).faults
  let w := (w.modIn i (fun x => { x with faults := l, count := add32 x.count 1 })).transient
  if perm then retireIn env.tick i w else w

/-- A transient fault of an output counted. -/
def countOut (env : FEnv) (found c : Nat) (w : FWork) : FWork :=
  let (l, perm) := countFault env.n env.span found (w.out c).faults
  let w := (w.modOut c (fun x => { x with faults := l, count := add32 x.count 1 })).transient
  if perm then retireOut env.tick c w else w

/-- A transient fault of a return switch counted. -/
def countReturn (env : FEnv) (found g : Nat) (w : FWork) : FWork :=
  let (l, perm) := countFault env.n env.span found (w.grp g).faults
  let w := (w.modGrp g (fun x => { x with faults := l })).transient
  if perm then retireReturn env.tick g w else w

/-! ### Reactions to faults -/

/-- An off-direction mismatch of an output (R366, R367): the group is forced off until the retry sample. -/
def offMismatch (env : FEnv) (at_ c : Nat) (w : FWork) : FWork :=
  let g := groupOfOut c
  if (w.grp g).retired || (w.grp g).lockout || (w.grp g).forced.isSome then w
  else
    let w := openGroup at_ g ((w.raise 97).last 2 .output c)
    (w.modGrp g (fun x => { x with forced := some { chan := c, due := at_ + env.settle c, found := at_ } })).raise 107

/-- The retry of an off-direction mismatch (R366, R367): `high` is the retry sample. A permanent fault, by the retry or by its count
(R55, R56), retires the output and locks the outputs of the group out; otherwise the group is released. -/
def offRetry (env : FEnv) (g : Nat) (fo : ForcedOff) (high : Bool) (w : FWork) : FWork :=
  let w := w.modGrp g (fun x => { x with forced := none })
  let w :=
    if high then retireOut env.tick fo.chan (w.modOut fo.chan (fun o => { o with count := add32 o.count 1 }))
    else countOut env fo.found fo.chan w
  if (w.out fo.chan).retired then (w.modGrp g (fun x => { x with lockout := true })).raise 109 else w.raise 108

/-- An on-direction mismatch, or an overload handled as one (R366, R368): held off for 400 ticks; a recurrence at the retry is
permanent (R55), and the retirement is its event. -/
def onMismatch (env : FEnv) (event kind c : Nat) (ovl : Bool) (w : FWork) : FWork :=
  if (w.out c).retired then w
  else if (w.out c).onRetry.isSome && (w.out c).hold.isNone then
    retireOut env.tick c (w.modOut c (fun o => { o with count := add32 o.count 1 }))
  else
    ((openOut env.tick c (w.raise event)).last kind .output c).modOut c (fun o => { o with hold := some (env.tick + 400), onRetry := some env.tick, overload := ovl })

/-- A group held off for 400 ticks (R366, R368): return switch open when driven closed, or group overload. -/
def holdGroup (env : FEnv) (event kind g : Nat) (w : FWork) : FWork :=
  if (w.grp g).retired then w
  else if (w.grp g).onRetry.isSome && (w.grp g).hold.isNone then retireReturn env.tick g w
  else
    ((openGroup env.tick g (w.raise event)).last kind .group g).modGrp g (fun x => { x with hold := some (env.tick + 400), onRetry := some env.tick })

/-- A return switch that shows closed while driven open, or a failed group test (R366): every high-side switch of the group held
open until the next tick's sense. -/
def returnStuck (env : FEnv) (g : Nat) (w : FWork) : FWork :=
  if (w.grp g).retired then w
  else if (w.grp g).openRetry.isSome then retireReturn env.tick g w
  else
    ((openGroup env.tick g (w.raise 104)).last 8 .group g).modGrp g (fun x => { x with openRetry := some env.tick })

/-- The supply reaction of R371 and R373 on one group: switches open, inputs 0, tests and retries abandoned uncounted. -/
def supplyOut (tick code g : Nat) (w : FWork) : FWork :=
  let w := openGroup tick g w
  let w := w.modGrp g (fun x =>
    { x with
      unver := true, inZero := true, back := false, sup := code, pend := none, pendDone := false,
      forced := none, hold := none, onRetry := none, openRetry := none })
  let w := (outsOf g).foldl (fun w c => if (w.out c).pulse then w.abandon else w) (if (w.grp g).test then w.abandon else w)
  let w := w.modGrp g (fun x => { x with test := false })
  let w := (outsOf g).foldl (fun w c => w.modOut c (fun o =>
    { o with hold := none, onRetry := none, lightRetry := none, coupler := none, pulse := false, pulseHigh := false })) w
  (insOf g).foldl (fun w i => w.modIn i (fun x =>
    { x with valid := false, data := false, suspended := none, coupler := none })) w

/-! ### The input latch -/

/-- Test-pulse sources run in these modes (R352, R375). -/
def sourcesRun (m : Mode) : Bool := m == .configure || m == .standby || m == .run || m == .safe

/-- The test-pulse source that feeds an input (R351): of the safety configuration where it names the input as CH1 to CH4. -/
def sourceOf (env : FEnv) (insts : List (Nat × SfInst)) (i : Nat) : Nat :=
  let find (c : SfInst) : Option Nat :=
    if c.ch1 = i then some (nth 0xFF 0 c.tps) else if c.ch2 = i then some (nth 0xFF 1 c.tps)
    else if c.ch3 = i then some (nth 0xFF 2 c.tps) else if c.ch4 = i then some (nth 0xFF 3 c.tps) else none
  match insts.findSome? (fun p => find p.2) with
  | some s => s
  | none => env.par (0x6200 + i) 3

/-- Whether a source is dark in a tick (R350). -/
def sourceDark (tick src : Nat) : Bool := decide (src < 8) && tick % 8 == src

/-- The test sample of one input judged (R351, R366, R374); a mismatch at its own retry is permanent (R55). -/
def judgeInput (env : FEnv) (insts : List (Nat × SfInst)) (fs : FieldSamples) (i : Nat) (w : FWork) : FWork :=
  let x := w.inp i
  let g := w.grp (groupOfIn i)
  if x.retired || g.inZero || x.coupler == some env.tick || !sourceDark env.tick (sourceOf env insts i) then w
  else if fs.test.testBit i then
    if x.suspended.isSome then retireIn env.tick i (w.modIn i (fun y => { y with count := add32 y.count 1 }))
    else ((w.raise 96).last 1 .input i).modIn i (fun y => { y with suspended := some env.tick })
  else
    match x.suspended with
    | some found => countIn env found i (w.modIn i (fun y => { y with suspended := none }))
    | none => w

/-- Coupler faults from before tick `till` whose retry, the next tick, has passed without a missing check bit (R366). -/
def couplerRetries (env : FEnv) (till : Nat) (w : FWork) : FWork :=
  let due (x : Option Nat) : Bool := match x with
    | some t => decide (t < till)
    | none => false
  let w := (rangeFrom 0 48).foldl (fun w i =>
    let x := w.inp i
    if due x.coupler && !x.retired then countIn env (x.coupler.getD 0) i (w.modIn i (fun y => { y with coupler := none })) else w) w
  let w := (rangeFrom 0 24).foldl (fun w c =>
    let x := w.out c
    if due x.coupler && !x.retired then countOut env (x.coupler.getD 0) c (w.modOut c (fun y => { y with coupler := none })) else w) w
  (rangeFrom 0 6).foldl (fun w g =>
    let x := w.grp g
    if due x.coupler && !x.retired then countReturn env (x.coupler.getD 0) g (w.modGrp g (fun y => { y with coupler := none })) else w) w

/-- Data and valid bit of one input in the field record (R349): states of the channel and its group as the record of the tick shows
them, and the mismatch of this tick (R346, R351). -/
def latchInput (env : FEnv) (fs : FieldSamples) (i : Nat) (w : FWork) : FWork :=
  w.modIn i (fun x =>
    let ok := w.f.running && !w.f.lost && w.f.reset != .running && w.f.record.inUse.testBit i && x.suspended.isNone &&
      x.coupler != some env.tick
    { x with valid := ok, data := ok && fs.data.testBit i })

/-- Readback is judged in this mode: off-direction, and on-direction (R375). -/
def judgesOff (m : Mode) : Bool := m == .run || m == .configure || m == .safe

/-- The pulse sample of a dark pulse of the tick before (R362, R365): abandoned when the switch has been driven off. -/
def judgePulse (env : FEnv) (c : Nat) (w : FWork) : FWork :=
  let o := w.out c
  if !o.driven then w.abandon else if o.pulseHigh then offMismatch env env.tick c w else w

/-- The readback sample of one output judged (R359, R360, R366). -/
def judgeOutput (env : FEnv) (fs : FieldSamples) (blanked : Bool) (c : Nat) (w : FWork) : FWork :=
  let w := w.modOut c (fun o => { o with rbk := fs.rbk.testBit c, current := nth o.current c fs.currents })
  let o := w.out c
  let g := w.grp (groupOfOut c)
  let high := fs.rbk.testBit c
  let settled := decide (o.lastChange + env.settle c ≤ env.tick)
  if o.pulse then judgePulse env c w
  else if g.retired || o.retired || g.unver || g.forced.isSome || blanked || !settled then w
  else if high && !o.driven && judgesOff env.mode then offMismatch env env.tick c w
  else if !high && o.driven && env.mode == .run then onMismatch env 98 3 c false w
  else if high && o.driven && o.onRetry.isSome && o.hold.isNone then
    match o.onRetry with
    | some found => countOut env found c (w.modOut c (fun y => { y with onRetry := none, overload := false }))
    | none => w
  else w

/-- Off-direction mismatches go before on-direction ones of the same group (R374): outputs driven off are judged first. -/
def judgeOutputs (env : FEnv) (fs : FieldSamples) (blanked : Bool) (w : FWork) : FWork :=
  let offs := (rangeFrom 0 24).filter (fun c => !(w.out c).driven)
  let ons := (rangeFrom 0 24).filter (fun c => (w.out c).driven)
  (offs ++ ons).foldl (fun w c => judgeOutput env fs blanked c w) w

/-- The sense of one return switch judged (R361, R366) against the state `was` in which it was driven when the sense was taken: a
group that this latch opens (R367) shows its switch open from the next tick's sense. -/
def judgeReturn (env : FEnv) (fs : FieldSamples) (was : Bool) (g : Nat) (w : FWork) : FWork :=
  let x := w.grp g
  let closed := fs.sense.testBit g
  if x.test then
    let w := w.modGrp g (fun y => { y with test := false })
    if !x.driven then w.abandon else if x.testClosed then returnStuck env g w else w
  else if x.retired || x.unver || x.coupler.isSome || !judgesOff env.mode then w
  else if closed && !was then returnStuck env g w
  else if !closed && x.driven && env.mode == .run then holdGroup env 104 8 g w
  else
    let w := match x.openRetry with
      | some found => countReturn env found g (w.modGrp g (fun y => { y with openRetry := none }))
      | none => w
    match (w.grp g).onRetry with
    | some found =>
      if (w.grp g).hold.isNone && x.driven then countReturn env found g (w.modGrp g (fun y => { y with onRetry := none })) else w
    | none => w

/-- The recovery press of one group judged (R372): filter, then the timing of R309 to R311. -/
def judgeRecovery (env : FEnv) (g : Nat) (w : FWork) : FWork :=
  let ch := env.par (0x6030 + g) 1
  let x := w.grp g
  if ch ≥ 48 then w
  else
    let f := filterStep 2 (w.inp ch).data x.filt
    let rose := f.st && !x.filt.st
    let fell := !f.st && x.filt.st
    let w := w.modGrp g (fun y => { y with filt := f })
    if rose then w.modGrp g (fun y => { y with press := some env.tick, jam := false })
    else if fell then
      let ok := match x.press, x.pend with
        | some r, some p => decide (p ≤ r) && decide (400 ≤ env.tick - r) && decide (env.tick - r < 12000) && !x.jam
        | _, _ => false
      let w := w.modGrp g (fun y => { y with press := none, jam := false, pendDone := y.pendDone || ok })
      if ok then w.raise 117 else w
    else
      match x.press with
      | some r =>
        if f.st && !x.jam && decide (12000 ≤ env.tick - r) && x.pend.isSome then
          (w.modGrp g (fun y => { y with jam := true })).raise 118
        else w
      | none => w

/-- The record of the tick as it stood before the samples of the tick (R346, R305, R354, R369). -/
def fieldRecord (f : Fio) : FieldRecord :=
  let grp (g : Nat) : Group := nth {} g f.groups
  let gOk (g : Group) : Bool :=
    !g.retired && !g.rsRetired && g.forced.isNone && g.hold.isNone && !g.lockout && !g.unver && g.pend.isNone && g.openRetry.isNone &&
      g.coupler.isNone
  let svc (i : Nat) : Bool :=
    f.running && !f.lost && !(nth {} i f.ins).retired && !(grp (groupOfIn i)).retired && !(grp (groupOfIn i)).inZero
  { inSvc := bitsOf svc (rangeFrom 0 48),
    inUse := bitsOf (fun i => svc i && (nth {} i f.ins).suspended.isNone) (rangeFrom 0 48),
    outOk := bitsOf (fun c =>
      let o := nth {} c f.outs
      f.running && !f.lost && !o.retired && o.hold.isNone && o.coupler.isNone && gOk (grp (groupOfOut c))) (rangeFrom 0 24) }

/-- A hold of R368 that has run its 400 ticks ends (R368). -/
def endHold (tick : Nat) (h : Option Nat) : Option Nat :=
  match h with
  | some t => if t ≤ tick then none else some t
  | none => none

/-- Supplies back in range: inputs valid again and outputs in recovery pending at this latch; a recovery accepted in the tick
before takes effect (R372). A hold that has run its 400 ticks is over in the record of this tick (R368). -/
def groupLatch (env : FEnv) (g : Nat) (w : FWork) : FWork :=
  w.modGrp g (fun x =>
    let x := { x with hold := endHold env.tick x.hold }
    let x := if x.pendDone then { x with pend := none, pendDone := false } else x
    if x.back then { x with back := false, inZero := false, unver := false, sup := 0, pend := some env.tick } else x)

/-- The retry samples of groups forced off that fall due (R366, R367). -/
def offRetries (env : FEnv) (fs : FieldSamples) (w : FWork) : FWork :=
  (rangeFrom 0 6).foldl (fun w g =>
    match (w.grp g).forced with
    | some fo => if fo.due ≤ env.tick && fo.found < env.tick then offRetry env g fo (fs.rbk.testBit fo.chan) w else w
    | none => w) w

/-- Blanking of R377 is in force. -/
def blanked (env : FEnv) (f : Fio) : Bool := f.blank && decide (env.tick < f.blankUntil)

/-- The field controller's part of the input latch (R348 to R351, R359 to R361, R366 to R374). -/
def fieldLatch (env : FEnv) (insts : List (Nat × SfInst)) (fs : FieldSamples) (w : FWork) : FWork :=
  let w := (rangeFrom 0 6).foldl (fun w g => groupLatch env g w) w
  let w := (rangeFrom 0 24).foldl (fun w c => w.modOut c (fun o => { o with hold := endHold env.tick o.hold })) w
  let w := couplerRetries env (env.tick - 1) w
  let w := { w with f := { w.f with record := fieldRecord w.f } }
  let w := if sourcesRun env.mode && w.f.running && w.f.reset != .running then
    (rangeFrom 0 48).foldl (fun w i => judgeInput env insts fs i w) w else w
  let w := (rangeFrom 0 48).foldl (fun w i => latchInput env fs i w) w
  let w := { w with f := { w.f with
    supplies := (rangeFrom 0 3).map (fun n => let s := nth {} n w.f.supplies; { s with mv := nth s.mv n fs.supplies }) } }
  let b := blanked env w.f
  let was := w.f.groups.map (·.driven)
  let w := if w.f.running && !w.f.lost && w.f.reset != .running then
      let w := offRetries env fs w
      let w := if env.mode == .standby then
          (rangeFrom 0 24).foldl (fun w c => w.modOut c (fun o => { o with rbk := fs.rbk.testBit c })) w
        else judgeOutputs env fs b w
      let w := (rangeFrom 0 6).foldl (fun w g => judgeReturn env fs (nth true g was) g w) w
      (rangeFrom 0 6).foldl (fun w g => judgeRecovery env g w) w
    else w
  { w with f := { w.f with outs := w.f.outs.map (fun o => { o with pulse := false, pulseHigh := false }) } }

/-- The 48 channels of the input image of the tick. -/
def fieldImage (f : Fio) : Nat × Nat :=
  (bitsOf (fun i => (nth {} i f.ins).data) (rangeFrom 0 48), bitsOf (fun i => (nth {} i f.ins).valid) (rangeFrom 0 48))

/-! ### Commit -/

/-- Holds of an output that keep its switch open (R355). -/
def outHeld (o : OutChan) (g : Group) : Bool :=
  o.retired || o.hold.isSome || o.coupler.isSome || g.retired || g.rsRetired || g.forced.isSome || g.hold.isSome ||
    g.lockout || g.unver || g.inZero || g.pend.isSome || g.openRetry.isSome || g.coupler.isSome

/-- Command words of 07_field_io.md (R353): on. -/
def cmdOn : Nat := 0xA5
/-- Off. -/
def cmdOff : Nat := 0x5A

/-- Drive of one output at a commit (R353, R355, R366): `en` the latched majority, `word` the committed paired command. -/
def driveOut (env : FEnv) (en : Bool) (word c : Nat) (w : FWork) : FWork :=
  let w := w.modOut c (fun o => { o with hold := endHold env.tick o.hold })
  let good := pairOk word && (pairVal word == cmdOn || pairVal word == cmdOff)
  let w := if good then w else countOut env env.tick c ((w.raise 119).last 9 .output c)
  let o := w.out c
  let g := w.grp (groupOfOut c)
  let on := good && pairVal word == cmdOn
  let drive := en && on && !outHeld o g && env.mode == .run && !w.f.lost
  w.modOut c (fun o =>
    { o with
      command := on, driven := drive, lastChange := if drive = o.driven then o.lastChange else env.tick,
      openLoad := o.openLoad && drive })

/-- Drive of one return switch at a commit (R355). -/
def driveReturn (env : FEnv) (en : Bool) (g : Nat) (w : FWork) : FWork :=
  let w := w.modGrp g (fun x => { x with hold := endHold env.tick x.hold })
  let x := w.grp g
  let held := x.retired || x.rsRetired || x.forced.isSome || x.hold.isSome || x.lockout || x.unver || x.pend.isSome ||
    x.openRetry.isSome || x.coupler.isSome
  w.modGrp g (fun x => { x with command := en, driven := en && !held && env.mode == .run && !w.f.lost })

/-- The field controller's part of an output commit: `maj` the majority of VOTE.ENMAJ, `words` the 24 committed commands. The retry of a
coupler fault of the tick before has passed when this tick has brought no further one. -/
def fieldCommit (env : FEnv) (maj : Nat) (words : List Nat) (w : FWork) : FWork :=
  let w := couplerRetries env env.tick w
  let w := (rangeFrom 0 6).foldl (fun w g => driveReturn env (maj.testBit (24 + g)) g w) w
  (rangeFrom 0 24).foldl (fun w c => driveOut env (maj.testBit c) (nth 0 c words) c w) w

/-- Every switch open (R46, R487). -/
def openAll (tick : Nat) (w : FWork) : FWork := (rangeFrom 0 6).foldl (fun w g => openGroup tick g w) w

/-! ### The Field region reset and the switch test (R376, R378) -/

/-- A region reset completes: what the test does not confirm is cleared; `bad` lists outputs, `badReturns` groups that failed. -/
def regionCleared (f : Fio) : Fio :=
  { f with
    ins := f.ins.map (fun x => { x with retired := false, suspended := none, coupler := none, faults := [] }),
    outs := f.outs.map (fun o =>
      { o with
        retired := false, hold := none, onRetry := none, lightRetry := none, coupler := none, overload := false,
        pulse := false, faults := [] }),
    groups := f.groups.map (fun g =>
      { g with
        hold := none, onRetry := none, forced := none, openRetry := none, lockout := false, retired := false,
        rsRetired := false, coupler := none, pend := none, pendDone := false, faults := [] }) }

/-- The switch test (R376): a switch that fails retires its channel or return switch at once. -/
def switchTest (tick : Nat) (badIns bad badReturns : List Nat) (w : FWork) : FWork :=
  let w := badIns.foldl (fun w i => retireIn tick i w) w
  let w := bad.foldl (fun w c => retireOut tick c w) w
  badReturns.foldl (fun w g => retireReturn tick g w) w

end Sys2Proof.Machine
end

