-- ==== Sys2Proof/Machine/Elements.lean ====
section
/-!
DEFINITION. The element handler of 04_station_element_model.md: detection, timers and commands of every element kind, the
cold-restart records of R226, and the conditions on locks that the route engine shares.
-/
namespace Sys2Proof.Machine

/-- LOCK bit numbers of R179's table. -/
def lockRESTART : Nat := 31
/-- KEY, bit 30. -/
def lockKEY : Nat := 30
/-- APPROACH, bit 29. -/
def lockAPPROACH : Nat := 29
/-- ROUTE, bit 28. -/
def lockROUTE : Nat := 28
/-- OVERLAP, bit 27. -/
def lockOVERLAP : Nat := 27
/-- FLANK, bit 26. -/
def lockFLANK : Nat := 26
/-- BLOCKED, bit 25. -/
def lockBLOCKED : Nat := 25

/-- Whether LOCK bit `i` is set. -/
def Elem.has (e : Elem) (i : Nat) : Bool := e.lock.testBit i

/-- KIND of the record (R178 word 0). -/
def Elem.kind (e : Elem) : Nat := bits 31 24 e.ident

/-- HOLDS of LOCK. -/
def Elem.holds (e : Elem) : Nat := bits 23 16 e.lock

/-- LOCK with HOLDS replaced. -/
def lockWithHolds (lock n : Nat) : Nat := lock - bits 23 16 lock * 2 ^ 16 + (n % 256) * 2 ^ 16

/-- LOCK with LASTROUTE replaced. -/
def lockWithRoute (lock r : Nat) : Nat := lock - bits 13 0 lock + r % 2 ^ 14

/-- The record of a slot; a slot that no entry lists is undefined and holds 0 in every word (R179). -/
def elemOf (v : Vital) (slot : Nat) : Elem := spGet {} slot v.elems

/-- The records with one slot's record replaced. -/
def putElem (slot : Nat) (e : Elem) (v : Vital) : Vital := { v with elems := spSet {} slot e v.elems }

/-- The definition of a slot in a table set; KIND 0 when undefined (R219). -/
def defOf (ts : TableSet) (slot : Nat) : ElemDef := spGet {} slot ts.elems

/-- A blocking lock (R181). -/
def Elem.blocking (e : Elem) : Bool :=
  e.has lockROUTE || e.has lockOVERLAP || e.has lockAPPROACH || e.has lockBLOCKED || e.has lockKEY ||
    (e.has lockRESTART && (e.kind == 1 || e.kind == 4))

/-- The lock bitset of R181, bit e for element e. -/
def lockBitset (v : Vital) : Nat := v.elems.foldl (fun n p => if p.2.blocking then n ||| 2 ^ p.1 else n) 0

/-- DETECT.VALID. -/
def Elem.valid (e : Elem) : Bool := e.detect.testBit 15

/-- DETECT.BITS. -/
def Elem.dbits (e : Elem) : Nat := e.detect % 256

/-- A detection bit as last evaluated. -/
def Elem.dbit (e : Elem) (i : Nat) : Bool := e.detect.testBit i

/-- Whether a track section counts as occupied: every code but CLEAR. -/
def Elem.occupied (e : Elem) : Bool := e.state != 1

/-- Whether the own track section of an element is CLEAR, or it has none (R187, R256). -/
def ownClear (v : Vital) (d : ElemDef) : Bool := !d.flags.testBit 1 || (elemOf v d.ownsec).state == 1

/-- STATE written; STAMP follows a change (R178 word 7). -/
def Elem.goto (e : Elem) (st cyc : Nat) : Elem :=
  if e.state = st then e else { e with state := st, stamp := cyc % 2 ^ 32 }

/-- The element's timer started from 0 (R184). -/
def Elem.start (e : Elem) : Elem := { e with timer := 0, running := true }

/-- The element's timer stopped: TIMER 0 when none runs. -/
def Elem.stop (e : Elem) : Elem := { e with timer := 0, running := false }

/-- What one step of the handler does to one element. -/
structure ElemStep where
  elem : Elem
  fault : Bool := false
  reqs : List LockReq := []

/-- The value of one bound detection bit and whether its source is valid (R183, R668). -/
def bindingBit (img : InputImage) (b : BitBinding) : Bool × Bool :=
  match img.streams.find? (fun s => s.can == b.can && s.num == b.stream) with
  | some s => (s.valid, s.valid && (nth 0 b.offset s.payload).toNat.testBit b.bit)
  | none => (false, false)

/-- Source kind of a detection or output binding (R219). -/
def srcKind (w : Nat) : Nat := bits 15 12 w

/-- Detection of an element from the input image of the cycle: SOURCE, VALID and BITS of DETECT (R183). -/
def detectWord (img : InputImage) (binds : List BitBinding) (d : ElemDef) : Nat :=
  if d.ndet = 0 then (if d.kind = 7 then 2 ^ 15 else 0)
  else
    let k := srcKind d.detsrc
    let base := bits 11 0 d.detsrc
    let one (i : Nat) : Bool × Bool :=
      if k = 1 then (img.valid.testBit (base + i), img.chans.testBit (base + i))
      else match binds[base + i]? with
        | some b => bindingBit img b
        | none => (false, false)
    let rs := (rangeFrom 0 d.ndet).map one
    let valid := rs.all (·.1)
    k * 2 ^ 28 + (if valid then 2 ^ 15 + bitsOf (fun i => (nth (false, false) i rs).2) (rangeFrom 0 d.ndet) else 0)

/-- The position that detection shows, in the codes of command 0x01; 0 when it shows none or both (points of
04_station_element_model.md). -/
def detectedPos (d : ElemDef) (e : Elem) : Nat :=
  let ok (n : Nat) : Bool := n == 1 || n == 2
  if !e.valid then 0
  else if d.variant = 2 then
    (if ok (e.dbits % 4) && ok (e.dbits / 4 % 4) then e.dbits % 16 else 0)
  else if ok (e.dbits % 4) then e.dbits % 4 else 0

/-- State code of a point detected in position `y`: end A of a double-slip decides. -/
def detectedCode (y : Nat) : Nat := if y % 4 = 2 then 2 else 1

/-- State code of a point that moves to position `y`. -/
def movingCode (y : Nat) : Nat := if y % 4 = 2 then 4 else 3

/-- A point stands DETECTED. -/
def Elem.pointDetected (e : Elem) : Bool := e.state == 1 || e.state == 2

/-- A point is MOVING. -/
def Elem.pointMoving (e : Elem) : Bool := e.state == 3 || e.state == 4

/-- Detection step of a point (R186). -/
def pointDetect (d : ElemDef) (e : Elem) (cyc : Nat) : ElemStep :=
  let e := if d.variant = 2 then { e with aux := if e.valid then e.dbits % 16 else 0 } else e
  let pos := detectedPos d e
  if e.pointDetected then
    (if pos = e.command && pos != 0 then { elem := e } else { elem := e.goto 5 cyc, fault := true })
  else if e.pointMoving then
    (if pos = e.command && pos != 0 then { elem := (e.goto (detectedCode pos) cyc).stop } else { elem := e })
  else if e.state = 5 then
    (if pos = e.command && pos != 0 then { elem := e.goto (detectedCode pos) cyc } else { elem := e })
  else { elem := e }

/-- The aspect table of a signal. -/
def aspectTable (ts : TableSet) (d : ElemDef) : List Aspect := nth [] d.p1 ts.aspects

/-- Whether an aspect of a signal is proven: its detection equals the proof pattern (R189's table). -/
def aspectProven (ts : TableSet) (d : ElemDef) (e : Elem) (a : Nat) : Bool :=
  e.valid && (match (aspectTable ts d)[a]? with
    | some asp => asp.proof == e.dbits
    | none => false)

/-- The proven aspect shown in AUX: the commanded one where it is proven, else the lowest. -/
def provenAux (ts : TableSet) (d : ElemDef) (e : Elem) : Nat :=
  if aspectProven ts d e e.command then 16 + e.command
  else match (rangeFrom 0 16).find? (aspectProven ts d e) with
    | some a => 16 + a
    | none => 0

/-- Detection step of a signal (R190). -/
def signalDetect (ts : TableSet) (d : ElemDef) (e : Elem) (cyc : Nat) : ElemStep :=
  let e := { e with aux := provenAux ts d e }
  let stopNow := (e.goto 1 cyc).start
  if e.state = 2 && aspectProven ts d e e.command then { elem := (e.goto 3 cyc).stop }
  else if e.state = 3 && !aspectProven ts d e e.command then
    { elem := { e.goto 5 cyc with command := 0 }, fault := true }
  else if e.state = 4 && aspectProven ts d e 0 then { elem := stopNow }
  else if e.state = 5 && aspectProven ts d e 0 then { elem := stopNow }
  else { elem := e }

/-- The route engine commands aspect `a` to a signal (R190); also the handler's own aspect 0 (R189). -/
def commandAspect (a : Nat) (e : Elem) (cyc : Nat) : Elem :=
  if a = 0 then
    (if e.state = 2 || e.state = 3 then { (e.goto 4 cyc).start with command := 0 } else { e with command := 0 })
  else if e.state = 1 || (e.state = 3 && a != e.command) then { (e.goto 2 cyc).start with command := a }
  else e

/-- A track section is disturbed: axle counters only. -/
def disturbed (d : ElemDef) (e : Elem) : Bool := d.variant == 1 && e.dbit 1

/-- A section is reported clear (R191). -/
def reportedClear (e : Elem) : Bool := e.valid && !e.dbit 0 && !e.dbit 1

/-- Detection step of a track section (R191, R192). -/
def sectionDetect (d : ElemDef) (e : Elem) (cyc : Nat) : ElemStep :=
  if !e.valid || disturbed d e then
    (if e.state = 3 then { elem := e } else { elem := (e.goto 3 cyc).stop, fault := true })
  else if e.state = 1 then
    (if e.dbit 0 then { elem := e.goto 2 cyc } else { elem := e })
  else if e.state = 2 || e.state = 5 then
    (if e.dbit 0 then { elem := if e.running then e.stop else e }
     else if reportedClear e && !e.running then { elem := e.start } else { elem := e })
  else if e.state = 4 && e.dbit 0 then { elem := e.goto 5 cyc }
  else { elem := e }

/-- A level crossing is wanted closed (R194). -/
def wantedClosed (e : Elem) : Bool :=
  e.has lockROUTE || e.has lockOVERLAP || e.has lockAPPROACH || e.has lockRESTART || e.aux.testBit 0

/-- Barriers down and road lights proven. -/
def barriersDown (e : Elem) : Bool := e.dbit 0 && e.dbit 2

/-- COMMAND of a level crossing: barriers up. -/
def cmdUp : Nat := Config.commandCode 4 0

/-- COMMAND of a level crossing: barriers down. -/
def cmdDown : Nat := Config.commandCode 4 1

/-- COMMAND that the state table of a level crossing gives a state. -/
def crossingCommand (st : Nat) : Nat := if st = 3 || st = 4 || st = 6 then cmdDown else cmdUp

/-- A level crossing enters a state, with the barriers that the state commands. -/
def crossingGoto (e : Elem) (st cyc : Nat) : Elem := { e.goto st cyc with command := crossingCommand st }

/-- Detection step of a level crossing (R194). -/
def crossingDetect (e : Elem) (cyc : Nat) : ElemStep :=
  if (e.state = 1 || e.state = 5) && wantedClosed e then { elem := (crossingGoto e 2 cyc).start }
  else if e.state = 3 && barriersDown e then { elem := (crossingGoto e 4 cyc).stop }
  else if e.state = 4 && !barriersDown e then { elem := (crossingGoto e 6 cyc).stop, fault := true }
  else if e.state = 4 && !wantedClosed e then { elem := (crossingGoto e 5 cyc).start }
  else if e.state = 5 && e.dbit 1 then { elem := (crossingGoto e 1 cyc).stop }
  else { elem := e }

/-- COMMAND of a door group: released or closed. -/
def doorCommand (st : Nat) : Nat := Config.commandCode 5 (if st = 2 || st = 3 then 1 else 0)

/-- A door group enters a state. -/
def doorGoto (e : Elem) (st cyc : Nat) : Elem := { e.goto st cyc with command := doorCommand st }

/-- Detection step of a platform door group (R196). -/
def doorDetect (e : Elem) (cyc : Nat) : ElemStep :=
  let proof := e.dbit 0
  if e.state != 6 && e.dbit 2 && proof then { elem := (doorGoto e 6 cyc).stop }
  else if e.state = 2 && !proof then { elem := doorGoto e 3 cyc }
  else if e.state = 4 && proof then { elem := (doorGoto e 1 cyc).stop }
  else if e.state = 1 && !proof then { elem := doorGoto e 5 cyc, fault := true }
  else if e.state = 6 && (!proof || !e.dbit 2) then { elem := doorGoto e 5 cyc, fault := true }
  else { elem := e }

/-- COMMAND of a key lock: release on or off. -/
def keyCommand (st : Nat) : Nat := Config.commandCode 6 (if st = 3 then 1 else 0)

/-- A key lock enters a state. -/
def keyGoto (e : Elem) (st cyc : Nat) : Elem := { e.goto st cyc with command := keyCommand st }

/-- Slots that a key lock controls (R198). -/
def keySlots (ts : TableSet) (d : ElemDef) : List Nat := nth [] d.p1 ts.keySets

/-- KEY asked for, set or cleared, on every controlled element. -/
def keyReqs (ts : TableSet) (d : ElemDef) (set : Bool) : List LockReq :=
  (keySlots ts d).map (fun s => { slot := s, bit := lockKEY, set })

/-- Detection step of a key lock (R198, R199). -/
def keyDetect (ts : TableSet) (d : ElemDef) (v : Vital) (e : Elem) (cyc : Nat) : ElemStep :=
  let slots := keySlots ts d
  if e.state = 2 && slots.all (fun s => (elemOf v s).has lockKEY) then { elem := (keyGoto e 3 cyc).start }
  else if e.state = 3 && !e.dbit 0 then { elem := (keyGoto e 4 cyc).stop }
  else if e.state = 4 && e.dbit 0 &&
      slots.all (fun s => (elemOf v s).kind != 1 || (elemOf v s).pointDetected) then
    { elem := keyGoto e 1 cyc, reqs := keyReqs ts d false }
  else { elem := e }

/-- Values that the vital-task code left in the two outputs of a generic element (R200): slot, STATE, COMMAND. -/
abbrev GenericOut := Nat × Nat × Nat

/-- Detection step of a generic element (R200). -/
def genericDetect (outs : List GenericOut) (slot : Nat) (e : Elem) (cyc : Nat) : ElemStep :=
  match outs.find? (fun o => o.1 == slot) with
  | some (_, st, cmd) => { elem := { e.goto st cyc with command := cmd } }
  | none => { elem := e }

/-- Detection step of one element: DETECT written, then the rows of its kind. -/
def detectElem (ts : TableSet) (img : InputImage) (binds : List BitBinding) (outs : List GenericOut) (cyc : Nat)
    (v : Vital) (slot : Nat) (d : ElemDef) : ElemStep :=
  let e := { elemOf v slot with detect := detectWord img binds d }
  match d.kind with
  | 1 => pointDetect d e cyc
  | 2 => signalDetect ts d e cyc
  | 3 => sectionDetect d e cyc
  | 4 => crossingDetect e cyc
  | 5 => doorDetect e cyc
  | 6 => keyDetect ts d v e cyc
  | 7 => genericDetect outs slot e cyc
  | _ => { elem := elemOf v slot }

/-- The duration of the timer that an element runs in its state: T1, or T2 for the movement limit of a crossing (R184). -/
def timerLimit (d : ElemDef) (e : Elem) : Nat := if d.kind = 4 && (e.state = 3 || e.state = 5) then d.t2 else d.t1

/-- Timer expiry of one element (R185, R94): the rows of its kind whose condition is an expiry. -/
def expireElem (ts : TableSet) (d : ElemDef) (e : Elem) (cyc : Nat) : ElemStep :=
  if !e.running || e.timer < timerLimit d e then { elem := e }
  else match d.kind with
    | 1 => if e.pointMoving then { elem := (e.goto 6 cyc).stop, fault := true } else { elem := e }
    | 2 => if e.state = 2 || e.state = 4 then { elem := { (e.goto 5 cyc).stop with command := 0 }, fault := true }
           else { elem := e }
    | 3 => if (e.state = 2 || e.state = 5) && reportedClear e then { elem := (e.goto 1 cyc).stop } else { elem := e }
    | 4 => if e.state = 2 then { elem := (crossingGoto e 3 cyc).start }
           else if e.state = 3 || e.state = 5 then { elem := (crossingGoto e 6 cyc).stop, fault := true }
           else { elem := e }
    | 5 => if e.state = 4 then { elem := (doorGoto e 5 cyc).stop, fault := true } else { elem := e }
    | 6 => if e.state = 3 then { elem := (keyGoto e 1 cyc).stop, reqs := keyReqs ts d false } else { elem := e }
    | _ => { elem := e }

/-- Elapsed time added to a running timer; the stop dwell of a signal stays at 8,000 ticks (R189). -/
def ageElem (dt : Nat) (e : Elem) : Elem :=
  if !e.running then e
  else if e.kind = 2 && e.state = 1 then { e with timer := satAdd 8000 e.timer dt }
  else { e with timer := add32 e.timer dt }

/-! ### Commands -/

/-- A command code of R201 that makes the element more restrictive. -/
def restrictiveCode (code : Nat) : Bool := code == 0x10 || code == 0x30 || code == 0x41 || code == 0x51

/-- Kind that a command code is valid for; none for block and unblock, which every defined element takes (R201). -/
def commandKind : Nat → Option Nat
  | 0x01 => some 1 | 0x20 => some 3 | 0x30 => some 4 | 0x31 => some 4 | 0x40 => some 5 | 0x41 => some 5
  | 0x50 => some 6 | 0x51 => some 6 | _ => none

/-- A position code of a point as an argument of command 0x01. -/
def posValid (variant pos : Nat) : Bool :=
  if variant = 2 then pos == 5 || pos == 6 || pos == 9 || pos == 10 else pos == 1 || pos == 2

/-- The checks of R201 and R179: code, kind and argument. -/
def commandValid (ts : TableSet) (c : ElemCmd) : Bool :=
  let d := defOf ts c.slot
  if d.kind = 0 then false
  else if c.code = 0x01 then d.kind == 1 && posValid d.variant c.arg
  else if c.code = 0x10 || c.code = 0x11 then c.arg == 0
  else match commandKind c.code with
    | some k => d.kind == k && c.arg == 0
    | none => false

/-- What a command does to its element: the new record and requests where it is accepted, none where it is refused
with 0x0207 (R671). -/
abbrev CmdResult := Option (Elem × List LockReq)

/-- The move transition of R186, which a move command and the setting of a route share (R259). -/
def movePoint (d : ElemDef) (y : Nat) (e : Elem) (cyc : Nat) : Elem :=
  let move := { (e.goto (movingCode y) cyc).start with command := y }
  if e.pointDetected || e.pointMoving then (if e.command = y then e else move)
  else if detectedPos d e = y then { e.goto (detectedCode y) cyc with command := y }
  else move

/-- Move command (R187). -/
def cmdMove (d : ElemDef) (v : Vital) (y : Nat) (e : Elem) (cyc : Nat) : CmdResult :=
  if e.has lockRESTART || e.has lockKEY || e.has lockBLOCKED || e.holds != 0 || !ownClear v d then none
  else some (movePoint d y e cyc, [])

/-- Prove clear (R193). -/
def cmdProveClear (d : ElemDef) (e : Elem) (cyc : Nat) : CmdResult :=
  if e.state = 3 && reportedClear e && !e.has lockROUTE then
    some (if d.flags.testBit 0 then e.goto 4 cyc else e.goto 1 cyc, [])
  else none

/-- Close crossing: the manual close set in every state (R671); FAILED with barriers down and lights proven goes to CLOSED. -/
def cmdCloseCrossing (e : Elem) (cyc : Nat) : CmdResult :=
  let e := { e with aux := setBit 0 true e.aux }
  some (if e.state = 6 && barriersDown e then crossingGoto e 4 cyc else e, [])

/-- Open crossing: the manual close cleared in every state (R671). -/
def cmdOpenCrossing (e : Elem) : CmdResult := some ({ e with aux := setBit 0 false e.aux }, [])

/-- Release doors (R197). -/
def cmdReleaseDoors (d : ElemDef) (v : Vital) (e : Elem) (cyc : Nat) : CmdResult :=
  if e.state = 1 && !e.has lockROUTE && (elemOf v d.ownsec).occupied then some (doorGoto e 2 cyc, []) else none

/-- Close doors: restrictive, accepted without effect where no row applies (R671). -/
def cmdCloseDoors (e : Elem) (cyc : Nat) : CmdResult :=
  if e.state = 2 || e.state = 3 then some ((doorGoto e 4 cyc).start, [])
  else if e.state = 5 && e.dbit 0 then some (doorGoto e 1 cyc, [])
  else some (e, [])

/-- Key release request (R199). -/
def cmdKeyRequest (ts : TableSet) (d : ElemDef) (v : Vital) (e : Elem) (cyc : Nat) : CmdResult :=
  let free (s : Nat) : Bool :=
    let x := elemOf v s
    x.holds == 0 && !x.has lockROUTE && !x.has lockOVERLAP && !x.has lockAPPROACH
  if e.state = 1 && (keySlots ts d).all free then some (keyGoto e 2 cyc, keyReqs ts d true) else none

/-- Key release cancel: restrictive, accepted without effect outside RELEASED (R671). -/
def cmdKeyCancel (ts : TableSet) (d : ElemDef) (e : Elem) (cyc : Nat) : CmdResult :=
  if e.state = 3 then some ((keyGoto e 1 cyc).stop, keyReqs ts d false) else some (e, [])

/-- The command step for one command (R185, R671). -/
def judgeCommand (ts : TableSet) (v : Vital) (c : ElemCmd) (cyc : Nat) : CmdResult :=
  let d := defOf ts c.slot
  let e := elemOf v c.slot
  match c.code with
  | 0x01 => cmdMove d v c.arg e cyc
  | 0x10 => some (e, [{ slot := c.slot, bit := lockBLOCKED, set := true }])
  | 0x11 => some (e, [{ slot := c.slot, bit := lockBLOCKED, set := false }])
  | 0x20 => cmdProveClear d e cyc
  | 0x30 => cmdCloseCrossing e cyc
  | 0x31 => cmdOpenCrossing e
  | 0x40 => cmdReleaseDoors d v e cyc
  | 0x41 => cmdCloseDoors e cyc
  | 0x50 => cmdKeyRequest ts d v e cyc
  | 0x51 => cmdKeyCancel ts d e cyc
  | _ => none

/-- Order of R203 among commands for one element: restrictive first, then telegrams by stream, then the dictionary. -/
def cmdRank (c : ElemCmd) : Nat :=
  (if restrictiveCode c.code then 0 else 2 ^ 20) +
    (match c.source with
      | .telegram _ s _ => s
      | .dictionary => 2 ^ 16)

/-- `a` goes before `b` under R203; equal ranks keep their order of receipt. -/
def cmdBefore (a b : ElemCmd) : Bool := cmdRank a < cmdRank b

/-- The command of a slot that takes effect in a cycle: the first of lowest rank (R203). -/
def chosenCmd (slot : Nat) (cs : List ElemCmd) : Option ElemCmd :=
  (cs.filter (fun c => c.slot == slot)).foldl (fun best c =>
    match best with
    | none => some c
    | some b => if cmdBefore c b then some c else some b) none

/-- Slots that waiting commands name, each once, in order of receipt. -/
def cmdSlots (cs : List ElemCmd) : List Nat := (cs.map (·.slot)).eraseDups

/-- Work of a vital cycle's handler: records, element-fault count, lock requests, discards, dictionary outcome. -/
structure HandlerOut where
  v : Vital
  faults : Nat := 0
  reqs : List LockReq := []
  discards : Nat := 0
  dictOutcome : Option Nat := none

/-- One element's step entered into the handler's work. -/
def HandlerOut.put (o : HandlerOut) (slot : Nat) (r : ElemStep) : HandlerOut :=
  { o with v := putElem slot r.elem o.v, faults := o.faults + boolNat r.fault, reqs := o.reqs ++ r.reqs }

/-- Step "detection of every element", ascending slots (R185). -/
def detectAll (ts : TableSet) (img : InputImage) (binds : List BitBinding) (outs : List GenericOut) (cyc : Nat)
    (o : HandlerOut) : HandlerOut :=
  (ts.elems.filter (fun p => !o.v.handled.contains p.1)).foldl
    (fun o p => o.put p.1 (detectElem ts img binds outs cyc o.v p.1 p.2)) o

/-- Step "timer expiry of every element". -/
def expireAll (ts : TableSet) (cyc : Nat) (o : HandlerOut) : HandlerOut :=
  (ts.elems.filter (fun p => !o.v.handled.contains p.1)).foldl
    (fun o p => o.put p.1 (expireElem ts p.2 (elemOf o.v p.1) cyc)) o

/-- Step "commands" for one slot: the chosen command judged, the others discarded (R203, R205). -/
def commandSlot (ts : TableSet) (cs : List ElemCmd) (cyc : Nat) (o : HandlerOut) (slot : Nat) : HandlerOut :=
  match chosenCmd slot cs with
  | none => o
  | some c =>
    let same := cs.filter (fun x => x.slot == slot)
    let fromDict (x : ElemCmd) : Bool := x.source == .dictionary
    let o := { o with discards := o.discards + (same.length - 1) }
    let r := judgeCommand ts o.v c cyc
    let o := match r with
      | some (e, reqs) => { o with v := putElem slot e o.v, reqs := o.reqs ++ reqs }
      | none => o
    if fromDict c then { o with dictOutcome := some (if r.isSome then 0 else 0x0207) }
    else if same.any fromDict then { o with dictOutcome := some 0x0209 }
    else o

/-- Step "commands". -/
def commandAll (ts : TableSet) (cs : List ElemCmd) (cyc : Nat) (o : HandlerOut) : HandlerOut :=
  (cmdSlots cs).foldl (commandSlot ts cs cyc) o

/-- Points and level crossings of a table set, the elements that carry RESTART (R226, R228). -/
def restartSlots (ts : TableSet) : List Nat :=
  (ts.elems.filter (fun p => p.2.kind == 1 || p.2.kind == 4)).map (·.1)

/-- Step "restart release time" (R185, R228): expiry asks the route engine to clear RESTART. -/
def restartStep (ts : TableSet) (limit : Nat) (o : HandlerOut) : HandlerOut :=
  let v := o.v
  let dueAll := v.restartRun && decide (limit ≤ v.restartTicks)
  let due := (if dueAll then (restartSlots ts).filter (fun s => !v.restartLate.any (fun p => p.1 == s)) else []) ++
    ((v.restartLate.filter (fun p => decide (limit ≤ p.2))).map (·.1))
  { o with
    v := { v with
      restartRun := v.restartRun && !dueAll, restartTicks := if dueAll then 0 else v.restartTicks,
      restartLate := v.restartLate.filter (fun p => decide (p.2 < limit)) },
    reqs := o.reqs ++ due.map (fun s => { slot := s, bit := lockRESTART, set := false }) }

/-- KEY set on the elements of key locks that started KEY_OUT (R227). -/
def keyStartStep (ts : TableSet) (o : HandlerOut) : HandlerOut :=
  { o with
    v := { o.v with keyStart := [] },
    reqs := o.reqs ++ o.v.keyStart.flatMap (fun s => keyReqs ts (defOf ts s) true) }

/-- Running element timers and the restart release time take the ticks since the input tick of the last cycle (R94). -/
def ageElems (dt : Nat) (v : Vital) : Vital :=
  { v with
    elems := v.elems.map (fun p => (p.1, ageElem dt p.2)),
    restartTicks := if v.restartRun then v.restartTicks + dt else v.restartTicks,
    restartLate := v.restartLate.map (fun p => (p.1, p.2 + dt)),
    handled := [] }

/-- The element handler of a vital cycle (R185): restart release time, detection, timer expiry, commands. `limit` is the
restart release time in ticks. -/
def elementHandler (ts : TableSet) (img : InputImage) (binds : List BitBinding) (outs : List GenericOut)
    (cs : List ElemCmd) (limit cyc : Nat) (v : Vital) : HandlerOut :=
  commandAll ts cs cyc (expireAll ts cyc (detectAll ts img binds outs cyc
    (keyStartStep ts (restartStep ts limit { v }))))

/-- Detection and timer expiry of one element whose running timer has expired, ahead of the handler of the cycle; none where
nothing of it expires. -/
def expireAhead (ts : TableSet) (img : InputImage) (binds : List BitBinding) (outs : List GenericOut) (cyc : Nat)
    (v : Vital) (slot : Nat) : Option ElemStep :=
  let d := defOf ts slot
  let r := detectElem ts img binds outs cyc v slot d
  let x := expireElem ts d r.elem cyc
  if v.handled.contains slot || !r.elem.running || x.elem.state = r.elem.state then none
  else some { elem := x.elem, fault := r.fault || x.fault, reqs := r.reqs ++ x.reqs }

/-! ### Cold restart -/

/-- IDENT of a definition (R178 word 0). -/
def identOf (d : ElemDef) : Nat := d.kind * 2 ^ 24 + d.variant * 2 ^ 16 + d.flags % 2 ^ 16

/-- The cold-restart record of a defined slot (R226), from its detection word; words that the table of R226 does not name, AUX
and STAMP among them, hold 0. -/
def coldElem (d : ElemDef) (det : Nat) : Elem :=
  let e : Elem := { ident := identOf d, detect := det }
  match d.kind with
  | 1 =>
    let pos := detectedPos d e
    { e with
      state := if pos = 0 then 5 else detectedCode pos, command := pos, lock := 2 ^ lockRESTART }
  | 2 => { e with state := 1, running := true }
  | 3 => { e with state := 3 }
  | 4 =>
    let st := if barriersDown e then 4 else if e.dbit 0 then 3 else 2
    { e with state := st, command := crossingCommand st, lock := 2 ^ lockRESTART, running := st != 4 }
  | 5 => let st := if e.dbit 0 then 1 else 5; { e with state := st, command := doorCommand st }
  | 6 => let st := if e.dbit 0 then 1 else 4; { e with state := st, command := keyCommand st }
  | 7 => { e with state := d.init }
  | _ => {}

/-- The vital state of a cold restart (R225 to R228). -/
def coldVital (ts : TableSet) (img : InputImage) (binds : List BitBinding) : Vital :=
  let elems := ts.elems.foldl (fun l p => spSet {} p.1 (coldElem p.2 (detectWord img binds p.2)) l) []
  { elems, routes := [], restartRun := true, restartTicks := 0, restartLate := [],
    keyStart := (elems.filter (fun p => p.2.kind == 6 && p.2.state == 4)).map (·.1) }

/-! ### Command outputs -/

/-- Command bits of an element (R219, R668): the drive of a point or crossing, the pattern of an aspect, the release of a
door group or key lock, the COMMAND of a generic element. -/
def commandBits (ts : TableSet) (d : ElemDef) (e : Elem) : Nat :=
  match d.kind with
  | 1 => if e.pointMoving then Config.drivePattern 1 d.variant e.state e.command else 0
  | 2 => (match (aspectTable ts d)[e.command]? with
    | some a => a.command
    | none => 0)
  | 4 => Config.drivePattern 4 d.variant e.state e.command
  | 5 => boolNat (e.state == 2 || e.state == 3)
  | 6 => boolNat (e.state == 3)
  | 7 => e.command
  | _ => 0

/-- Output channel and value of each command bit bound to a local channel (source kind 1). -/
def localOutputs (ts : TableSet) (v : Vital) : List (Nat × Bool) :=
  ts.elems.flatMap (fun p =>
    if srcKind p.2.outsrc = 1 then
      (rangeFrom 0 p.2.nout).map (fun i => (bits 11 0 p.2.outsrc + i, (commandBits ts p.2 (elemOf v p.1)).testBit i))
    else [])

/-- Telegram binding and value of each command bit bound to a transmit field (source kinds 2 and 3). -/
def telegramOutputs (ts : TableSet) (v : Vital) (binds : List BitBinding) : List (BitBinding × Bool) :=
  ts.elems.flatMap (fun p =>
    if srcKind p.2.outsrc = 2 || srcKind p.2.outsrc = 3 then
      (rangeFrom 0 p.2.nout).filterMap (fun i =>
        (binds[bits 11 0 p.2.outsrc + i]?).map (fun b => (b, (commandBits ts p.2 (elemOf v p.1)).testBit i)))
    else [])

end Sys2Proof.Machine
end

