-- ==== Sys2Proof/Machine/Routes.lean ====
section
/-!
DEFINITION. The route engine of 05_route_engine.md: holds, setting, supervision and release of routes, the service of requests,
and run-ahead, as functions of the vital results of a cycle.
-/
namespace Sys2Proof.Machine

/-- Route state codes of R251's table. -/
def rsRELEASED : Nat := 0
/-- SETTING. -/
def rsSETTING : Nat := 1
/-- PROVING. -/
def rsPROVING : Nat := 2
/-- CLEARING. -/
def rsCLEARING : Nat := 3
/-- CLEARED. -/
def rsCLEARED : Nat := 4
/-- REPLACED. -/
def rsREPLACED : Nat := 5
/-- IN_USE. -/
def rsINUSE : Nat := 6
/-- CANCELLING. -/
def rsCANCELLING : Nat := 7
/-- TIME_RELEASE. -/
def rsTIMERELEASE : Nat := 8
/-- OVERLAP_HELD. -/
def rsOVERLAPHELD : Nat := 9

/-- The state record of a route; an unlisted route is RELEASED. -/
def routeOf (v : Vital) (r : Nat) : Route := spGet {} r v.routes

/-- The definition of a route; none when it is not defined. -/
def routeDef (ts : TableSet) (r : Nat) : Option RouteDef := ts.routes.lookup r

/-- The eight words of an element record in order (R178), value halves. -/
def elemWords (e : Elem) : List Nat := [e.ident, e.state, e.lock, e.detect, e.command, e.timer, e.aux, e.stamp]

/-- RSTATE of a route (R217). -/
def rstateWord (r : Route) : Nat := r.code + r.alt * 2 ^ 8 + bitIf 12 r.approach + bitIf 13 r.passed

/-- The four words of a route state record in order (R217), value halves. -/
def routeWords (r : Route) : List Nat := [rstateWord r, r.released, r.timer, r.stamp]

/-- Lane address of word `i` of an element record (04). -/
def elemAddr (slot i : Nat) : Nat := 0x00A00000 + 64 * slot + 8 * i

/-- Lane address of word `i` of a route state record (04). -/
def routeAddr (r i : Nat) : Nat := 0x00980000 + 32 * r + 8 * i

/-- Address and paired word of each word that differs, in word order. -/
def changedWords (addr : Nat → Nat) : Nat → List Nat → List Nat → List (Nat × Nat)
  | i, x :: xs, y :: ys =>
    if x = y then changedWords addr (i + 1) xs ys else (addr i, pairWord y) :: changedWords addr (i + 1) xs ys
  | _, _, _ => []

/-- The work of one pass: the vital results, the writes in the order of R234, and the events raised. -/
structure Pass where
  v : Vital
  writes : List (Nat × Nat) := []
  events : List Nat := []

/-- An element record written by the pass. -/
def Pass.putElem (slot : Nat) (e : Elem) (p : Pass) : Pass :=
  { p with
    v := Machine.putElem slot e p.v,
    writes := p.writes ++ changedWords (elemAddr slot) 0 (elemWords (elemOf p.v slot)) (elemWords e) }

/-- A route state record written by the pass; RSTAMP follows a change of RSTATE (R217). -/
def Pass.putRoute (r : Nat) (x : Route) (cyc : Nat) (p : Pass) : Pass :=
  let old := routeOf p.v r
  let x := if rstateWord x = rstateWord old then x else { x with stamp := cyc % 2 ^ 32 }
  { p with
    v := { p.v with routes := spSet {} r x p.v.routes },
    writes := p.writes ++ changedWords (routeAddr r) 0 (routeWords old) (routeWords x) }

/-- A route state record cleared to value 0 in every word (R269). -/
def Pass.clearRoute (r : Nat) (p : Pass) : Pass :=
  { p with
    v := { p.v with routes := spSet {} r {} p.v.routes },
    writes := p.writes ++ changedWords (routeAddr r) 0 (routeWords (routeOf p.v r)) (routeWords {}) }

/-- An event raised by the pass. -/
def Pass.raise (e : Nat) (p : Pass) : Pass := { p with events := p.events ++ [e] }

/-- A LOCK bit written. -/
def Elem.setLock (i : Nat) (b : Bool) (e : Elem) : Elem := { e with lock := setBit i b e.lock }

/-! ### Step 1: element lock requests -/

/-- Requests in ascending element slot (R233); equal slots keep their order. -/
def insertLockReq (q : LockReq) : List LockReq → List LockReq
  | [] => [q]
  | x :: xs => if q.slot < x.slot then q :: x :: xs else x :: insertLockReq q xs

/-- Step 1 of the pass (R180, R233). -/
def passLocks (qs : List LockReq) (p : Pass) : Pass :=
  (qs.foldl (fun l q => insertLockReq q l) []).foldl (fun p q =>
    if (elemOf p.v q.slot).kind = 0 then p
    else p.putElem q.slot ((elemOf p.v q.slot).setLock q.bit q.set)) p

/-! ### Holds -/

/-- One hold placed by route `r` with its LOCK bit (R258). -/
def addHold (bit r : Nat) (e : Elem) : Elem :=
  { e with lock := lockWithRoute (lockWithHolds (setBit bit true e.lock) (e.holds + 1)) r }

/-- FLANK cleared when no hold but those of ROUTE and OVERLAP is left (R260). -/
def trimFlank (e : Elem) : Elem :=
  if e.holds - boolNat (e.has lockROUTE) - boolNat (e.has lockOVERLAP) = 0 then e.setLock lockFLANK false else e

/-- One hold removed, with its own ROUTE or OVERLAP bit (R260). -/
def dropHold (bit : Nat) (e : Elem) : Elem :=
  let lock := if bit = lockFLANK then e.lock else setBit bit false e.lock
  trimFlank { e with lock := lockWithHolds lock (e.holds - 1) }

/-- A transferred overlap hold: OVERLAP replaced, HOLDS unchanged, LASTROUTE `r` (R262). -/
def takeHold (bit r : Nat) (e : Elem) : Elem :=
  { e with lock := lockWithRoute (setBit bit true (setBit lockOVERLAP false e.lock)) r }

/-- A hold removed from a list of entries, in list order. -/
def dropHolds (bit : Nat) (es : List RouteEntry) (p : Pass) : Pass :=
  es.foldl (fun p x => p.putElem x.slot (dropHold bit (elemOf p.v x.slot))) p

/-- Numbers of the path entries that are track sections, s1 to sm (R207). -/
def pathSections (ts : TableSet) (d : RouteDef) : List Nat :=
  indices (fun x => (defOf ts x.slot).kind == 3) d.path

/-- Slot of path section number `j`, counted from 0. -/
def sectionSlot (ts : TableSet) (d : RouteDef) (j : Nat) : Option Nat :=
  match (pathSections ts d)[j]? with
  | some i => (d.path[i]?).map (·.slot)
  | none => none

/-- Number of the path section with which path entry `i` releases: its own section where that lies in the path, else sm (R211). -/
def releaseSection (ts : TableSet) (d : RouteDef) (i : Nat) : Nat :=
  let secs := pathSections ts d
  let m := secs.length
  let slotAt (j : Nat) : Nat := (nth { slot := 0, pos := 0 } j d.path).slot
  if !d.sectional then m - 1
  else if secs.contains i then (indices (fun j => j == i) secs).headD (m - 1)
  else
    let ed := defOf ts (slotAt i)
    if ed.flags.testBit 1 then (indices (fun j => slotAt j == ed.ownsec) secs).headD (m - 1) else m - 1

/-- Whether path entry `i` is released once `n` path sections are. -/
def pathReleased (ts : TableSet) (d : RouteDef) (n i : Nat) : Bool := decide (releaseSection ts d i < n)

/-- Path entries still held while `n` path sections are released. -/
def heldPath (ts : TableSet) (d : RouteDef) (n : Nat) : List RouteEntry :=
  (rangeFrom 0 d.path.length).filterMap (fun i => if pathReleased ts d n i then none else d.path[i]?)

/-- Flank entries still held while `n` path sections are released (R212); `rest` counts those of GOV 0xFF too. -/
def heldFlank (ts : TableSet) (d : RouteDef) (n : Nat) (rest : Bool) : List RouteEntry :=
  d.flank.filter (fun x => if x.gov = 0xFF then rest else !pathReleased ts d n x.gov)

/-- Entries of the overlap in use; none for alternative 0. -/
def overlapOf (d : RouteDef) (alt : Nat) : List RouteEntry :=
  if alt = 0 then [] else (nth { prio := 0, entries := [] } (alt - 1) d.overlaps).entries

/-- Approach locking of a route written: APPROACH of its entry signal and RSTATE bit 12 (R214). -/
def setApproach (r : Nat) (d : RouteDef) (on : Bool) (cyc : Nat) (p : Pass) : Pass :=
  if (routeOf p.v r).approach = on then p
  else
    (p.putElem d.entry ((elemOf p.v d.entry).setLock lockAPPROACH on)).putRoute r
      { routeOf p.v r with approach := on } cyc

/-- Every hold of a route removed in one commit and its record cleared (R269). -/
def releaseAll (ts : TableSet) (r : Nat) (d : RouteDef) (cyc : Nat) (p : Pass) : Pass :=
  let p := setApproach r d false cyc p
  let x := routeOf p.v r
  let p := dropHolds lockROUTE (heldPath ts d x.secsOut) p
  let p := dropHolds lockOVERLAP (overlapOf d x.alt) p
  let p := dropHolds lockFLANK (heldFlank ts d x.secsOut true) p
  (p.clearRoute r).raise 67

/-! ### Setting -/

/-- A point lies in a position for setting (R188). -/
def liesIn (e : Elem) (pos : Nat) : Bool := e.command == pos && (e.pointDetected || e.pointMoving)

/-- A point is detected in a position for clearing and release (R188). -/
def detectedIn (e : Elem) (pos : Nat) : Bool := e.command == pos && e.pointDetected

/-- A point may be moved while a route is set (R256). -/
def mayMove (v : Vital) (d : ElemDef) (e : Elem) : Bool :=
  e.holds == 0 && !e.has lockRESTART && !e.has lockKEY && !e.has lockBLOCKED && ownClear v d

/-- List check of a path or overlap entry (R256, R182, R179). -/
def checkPath (ts : TableSet) (v : Vital) (x : RouteEntry) : Bool :=
  let d := defOf ts x.slot
  let e := elemOf v x.slot
  d.kind != 0 && e.holds < 255 && (d.kind != 1 || liesIn e x.pos || mayMove v d e)

/-- List check of a flank entry (R256, R182, R179). -/
def checkFlank (ts : TableSet) (v : Vital) (x : RouteEntry) : Bool :=
  let d := defOf ts x.slot
  let e := elemOf v x.slot
  d.kind != 0 && e.holds < 255 &&
    (if d.kind = 1 then
      (if e.blocking then detectedIn e x.pos
       else if e.holds != 0 then e.command == x.pos
       else liesIn e x.pos || mayMove v d e)
     else if d.kind = 2 then e.command == 0 && (!e.blocking || e.state == 1)
     else true)

/-- List check of the entry signal (R256). -/
def checkEntrySignal (v : Vital) (d : RouteDef) : Bool :=
  let e := elemOf v d.entry
  e.state == 1 && !e.has lockBLOCKED && !e.has lockKEY && !e.has lockFLANK && e.holds < 255

/-- Slots of the lock bitset that the conflict bitset of a route meets, ascending (R253). -/
def conflictHits (v : Vital) (d : RouteDef) : List Nat :=
  (v.elems.filter (fun p => p.2.blocking && d.conflict.testBit p.1)).map (·.1)

/-- The route whose overlap in use holds a slot, other than `r`. -/
def overlapHolder (ts : TableSet) (v : Vital) (r slot : Nat) : Option Nat :=
  (v.routes.find? (fun p => p.1 != r && p.2.code != 0 && p.2.alt != 0 &&
    (match routeDef ts p.1 with
      | some d => (overlapOf d p.2.alt).any (fun x => x.slot == slot)
      | none => false))).map (·.1)

/-- An entry list names a slot with a position. -/
def holdsEntry (es : List RouteEntry) (x : RouteEntry) : Bool := es.any (fun y => y.slot == x.slot && y.pos == x.pos)

/-- An entry list names a slot. -/
def namesSlot (es : List RouteEntry) (slot : Nat) : Bool := es.any (fun y => y.slot == slot)

/-- Elements of `p`'s overlap in use that route `r` does not hold in its path with the same position. -/
def overlapBeyondPath (ts : TableSet) (v : Vital) (p : Nat) (d : RouteDef) : List RouteEntry :=
  match routeDef ts p with
  | some dp => (overlapOf dp (routeOf v p).alt).filter (fun x => !holdsEntry d.path x)
  | none => []

/-- Stage 2 of an overlap transfer from `p` (R255, R261), with the alternatives that are not disqualified. -/
def transferPossible (ts : TableSet) (v : Vital) (p : Nat) (d : RouteDef) (alts : List OverlapAlt) : Bool :=
  match routeDef ts p with
  | some dp =>
    dp.exit == d.entry && (routeOf v p).code != 0 &&
      (overlapBeyondPath ts v p d).all (fun x => !namesSlot d.path x.slot && alts.any (fun a => holdsEntry a.entries x))
  | none => false

/-- Outcome of an evaluation of a set request (R252): a conflict, found in the list check or at a slot; or what to set. -/
inductive SetEval where
  | conflict (list : Bool) (slot : Nat)
  | ok (alt : Nat) (transfer : Option Nat)
  deriving DecidableEq, Repr

/-- A hit that carries only OVERLAP of another route whose transfer is possible (R254). -/
def hitTransfer (ts : TableSet) (v : Vital) (r : Nat) (d : RouteDef) (alts : List OverlapAlt) (slot : Nat) : Option Nat :=
  let e := elemOf v slot
  if namesSlot d.path slot && e.has lockOVERLAP && !(e.setLock lockOVERLAP false).blocking then
    match overlapHolder ts v r slot with
    | some p => if transferPossible ts v p d alts then some p else none
    | none => none
  else none

/-- Number, from 1, of the alternative that is chosen: the lowest PRIO, the first among equals (R255). -/
def chooseAlt : Nat → List (Bool × OverlapAlt) → Option (Nat × Nat)
  | _, [] => none
  | i, (ok, a) :: rest =>
    match chooseAlt (i + 1) rest with
    | none => if ok then some (i, a.prio) else none
    | some (j, pr) => if ok && decide (a.prio ≤ pr) then some (i, a.prio) else some (j, pr)

/-- Fresh evaluation of a set request for a route in RELEASED (R252 to R257). -/
def evalSet (ts : TableSet) (v : Vital) (r : Nat) (d : RouteDef) : SetEval :=
  let hits := conflictHits v d
  let scanned := hits.take 64
  let disqualifies (a : OverlapAlt) : Bool := scanned.any (fun h => !namesSlot d.path h && namesSlot a.entries h)
  let live := d.overlaps.filter (fun a => !disqualifies a)
  let solved (h : Nat) : Bool :=
    (hitTransfer ts v r d live h).isSome || (!namesSlot d.path h && d.overlaps.any (fun a => namesSlot a.entries h))
  match scanned.find? (fun h => !solved h) with
  | some h => .conflict false h
  | none =>
    if hits.length > 64 then .conflict false (nth 0 64 hits)
    else if (v.routes.filter (fun p => p.2.code != 0)).length ≥ 2048 then .conflict true 0
    else
      let transfer := (scanned.filterMap (hitTransfer ts v r d live)).head?
      let needs : List RouteEntry := match transfer with
        | some p => overlapBeyondPath ts v p d
        | none => []
      if !(checkEntrySignal v d && d.path.all (checkPath ts v) && d.flank.all (checkFlank ts v)) then .conflict true 0
      else if d.overlaps.isEmpty then .ok 0 transfer
      else
        let alts := d.overlaps.map (fun a =>
          (!disqualifies a && a.entries.all (checkPath ts v) && needs.all (holdsEntry a.entries), a))
        match chooseAlt 1 alts with
        | some (i, _) => .ok i transfer
        | none => .conflict true 0

/-- Slots that an evaluation reads in its hit resolution and list check (R274). -/
def evalReads (ts : TableSet) (v : Vital) (d : RouteDef) : List Nat :=
  let es := d.path ++ d.overlaps.flatMap (·.entries) ++ d.flank
  let own := es.filterMap (fun x =>
    let ed := defOf ts x.slot
    if ed.flags.testBit 1 then some ed.ownsec else none)
  ((conflictHits v d).take 64 ++ d.entry :: (es.map (·.slot) ++ own)).eraseDups

/-- Route records that an evaluation reads: its own and a transfer source (R273). -/
def evalRoutes (r : Nat) (t : Option Nat) : List Nat := r :: t.toList

/-- One entry of a route being set: hold placed or taken over, point moved (R258, R259, R262). -/
def setEntry (ts : TableSet) (r bit cyc : Nat) (taken : List Nat) (p : Pass) (x : RouteEntry) : Pass :=
  let d := defOf ts x.slot
  let e := elemOf p.v x.slot
  let e := if bit != lockFLANK && taken.contains x.slot then takeHold bit r e else addHold bit r e
  p.putElem x.slot (if d.kind = 1 && !liesIn e x.pos then movePoint d x.pos e cyc else e)

/-- A route set (R258, R259, R262), writes in the order of R234. -/
def applySet (ts : TableSet) (r : Nat) (d : RouteDef) (alt : Nat) (transfer : Option Nat) (cyc : Nat) (p : Pass) : Pass :=
  let taken : List Nat := match transfer with
    | some q => (match routeDef ts q with
      | some dq => (overlapOf dq (routeOf p.v q).alt).map (·.slot)
      | none => [])
    | none => []
  let p := d.path.foldl (setEntry ts r lockROUTE cyc taken) p
  let p := (overlapOf d alt).foldl (setEntry ts r lockOVERLAP cyc taken) p
  let p := d.flank.foldl (setEntry ts r lockFLANK cyc taken) p
  let p := match transfer with
    | some q => (p.putRoute q { routeOf p.v q with alt := 0, timer := 0, running := false, tovlArmed := false } cyc).raise 76
    | none => p
  (p.putRoute r { code := rsSETTING, alt, stamp := (routeOf p.v r).stamp } cyc).raise 64

/-! ### Supervision -/

/-- Every path, overlap and flank point is detected in its position (R251, R263). -/
def pointsDetected (ts : TableSet) (v : Vital) (d : RouteDef) (alt : Nat) : Bool :=
  (d.path ++ overlapOf d alt ++ d.flank).all (fun x => (defOf ts x.slot).kind != 1 || detectedIn (elemOf v x.slot) x.pos)

/-- Slot of s1. -/
def firstSection (ts : TableSet) (d : RouteDef) : Option Nat := sectionSlot ts d 0

/-- Slot of the berth section sm. -/
def berthSection (ts : TableSet) (d : RouteDef) : Option Nat := sectionSlot ts d ((pathSections ts d).length - 1)

/-- s1 counts as occupied. -/
def s1Occupied (ts : TableSet) (v : Vital) (d : RouteDef) : Bool :=
  match firstSection ts d with
  | some s => (elemOf v s).occupied
  | none => false

/-- Proving conditions of a route (R263, R264), but for the stop dwell of a call-on route. -/
def provingHolds (ts : TableSet) (v : Vital) (r : Nat) (d : RouteDef) : Bool :=
  let x := routeOf v r
  let sig := elemOf v d.entry
  let loose := d.cls == 2 || d.cls == 3
  let ovl := overlapOf d x.alt
  let kind (y : RouteEntry) : Nat := (defOf ts y.slot).kind
  let st (y : RouteEntry) : Nat := (elemOf v y.slot).state
  !sig.has lockBLOCKED && !sig.has lockKEY && !sig.has lockFLANK &&
  (sig.state == 1 || ((sig.state == 2 || sig.state == 3) && sig.command == d.aspect)) &&
  d.path.all (fun y => kind y != 3 || st y == 1 || (loose && berthSection ts d == some y.slot)) &&
  ovl.all (fun y => kind y != 3 || st y == 1 || loose) &&
  pointsDetected ts v d x.alt &&
  d.flank.all (fun y => kind y != 2 || st y == 1) &&
  (d.path ++ ovl).all (fun y => kind y != 4 || st y == 4) &&
  (d.path ++ d.flank).all (fun y => kind y != 5 || st y == 1 || st y == 6) &&
  (d.path ++ ovl).all (fun y => kind y != 7 || st y == y.pos) &&
  (d.overlaps.isEmpty || x.alt != 0)

/-- The stop dwell that a call-on route waits for (R264, R189). -/
def dwellReached (v : Vital) (d : RouteDef) : Bool :=
  d.cls != 3 || ((elemOf v d.entry).state == 1 && decide (8000 ≤ (elemOf v d.entry).timer))

/-- The entry signal commanded to aspect `a` by the pass (R251, R265). -/
def signalTo (d : RouteDef) (a cyc : Nat) (p : Pass) : Pass :=
  p.putElem d.entry (commandAspect a (elemOf p.v d.entry) cyc)

/-- Approach locking as R214 gives it in the states CLEARING, CLEARED and REPLACED. -/
def approachNow (v : Vital) (r : Nat) (d : RouteDef) : Bool :=
  let x := routeOf v r
  let sig := elemOf v d.entry
  if x.code = rsCLEARING || x.code = rsCLEARED || x.code = rsREPLACED then
    (if d.appMode = 1 then x.approach || ((x.code = rsCLEARING || x.code = rsCLEARED) && sig.state == 3)
     else if d.appMode = 2 then sig.state != 1 && d.approach.any (fun s => (elemOf v s).occupied)
     else false)
  else x.approach

/-- Approach locking brought up to date (R214). -/
def updateApproach (r : Nat) (d : RouteDef) (cyc : Nat) (p : Pass) : Pass :=
  setApproach r d (approachNow p.v r d) cyc p

/-- The train has passed the entry signal: IN_USE with RSTATE bit 13, approach locking ended (R210, R214, R251). -/
def enterInUse (ts : TableSet) (r : Nat) (d : RouteDef) (cyc : Nat) (p : Pass) : Pass :=
  let p := setApproach r d false cyc p
  let x := routeOf p.v r
  let occ := indices (fun i => match d.path[i]? with
    | some y => (elemOf p.v y.slot).occupied
    | none => false) (pathSections ts d)
  p.putRoute r { x with code := rsINUSE, passed := true, timer := 0, running := false, seen := occ } cyc

/-- First track section of the overlap in use counts as occupied. -/
def overlapOccupied (ts : TableSet) (v : Vital) (d : RouteDef) (alt : Nat) : Bool :=
  match (overlapOf d alt).find? (fun y => (defOf ts y.slot).kind == 3) with
  | some y => (elemOf v y.slot).occupied
  | none => false

/-- The overlap of a route released (R213). -/
def releaseOverlap (r : Nat) (d : RouteDef) (cyc : Nat) (p : Pass) : Pass :=
  let p := dropHolds lockOVERLAP (overlapOf d (routeOf p.v r).alt) p
  p.putRoute r { routeOf p.v r with alt := 0, timer := 0, running := false, tovlArmed := false } cyc

/-- TOVL of a route (R213, R268): armed by the first cycle in which sm counts as occupied, stopped while the first overlap
section counts as occupied. -/
def superviseOverlap (ts : TableSet) (r : Nat) (d : RouteDef) (cyc : Nat) (p : Pass) : Pass :=
  let x := routeOf p.v r
  let smOcc := match berthSection ts d with
    | some s => (elemOf p.v s).occupied
    | none => false
  if x.alt = 0 then p
  else if !x.tovlArmed && !smOcc then p
  else if overlapOccupied ts p.v d x.alt then
    p.putRoute r { x with tovlArmed := true, running := false, timer := 0 } cyc
  else if !x.running then p.putRoute r { x with tovlArmed := true, running := true, timer := 0 } cyc
  else if d.tovl ≤ x.timer then releaseOverlap r d cyc p
  else p

/-- The next path section of a route in IN_USE released when R210 allows it, with what releases with it (R211, R212, R268). -/
def releaseNext (ts : TableSet) (r : Nat) (d : RouteDef) (cyc : Nat) (p : Pass) : Pass :=
  let x := routeOf p.v r
  let n := x.secsOut
  match sectionSlot ts d n with
  | none => p
  | some slot =>
    let sig := elemOf p.v d.entry
    if x.passed && x.seen.contains n && (elemOf p.v slot).state == 1 && (n != 0 || sig.state == 1) then
      let before := heldPath ts d n
      let after := heldPath ts d (n + 1)
      let gone := before.filter (fun y => !after.contains y)
      let p := dropHolds lockROUTE gone p
      let fgone := (heldFlank ts d n false).filter (fun y => !(heldFlank ts d (n + 1) false).contains y)
      let p := dropHolds lockFLANK fgone p
      p.putRoute r { x with secsOut := n + 1, released := d.path.length - after.length } cyc
    else p

/-- Sections seen occupied since the signal was passed (R210). -/
def noteSeen (ts : TableSet) (r : Nat) (d : RouteDef) (p : Pass) : Pass :=
  let x := routeOf p.v r
  let occ := indices (fun i => match d.path[i]? with
    | some y => (elemOf p.v y.slot).occupied
    | none => false) (pathSections ts d)
  { p with v := { p.v with routes := spSet {} r { x with seen := (x.seen ++ occ).eraseDups } p.v.routes } }

/-- Release rules of a route in IN_USE or OVERLAP_HELD (R210 to R216, R268). -/
def superviseRelease (ts : TableSet) (r : Nat) (d : RouteDef) (cyc : Nat) (p : Pass) : Pass :=
  let p := superviseOverlap ts r d cyc (releaseNext ts r d cyc (noteSeen ts r d p))
  let x := routeOf p.v r
  if (heldPath ts d x.secsOut).isEmpty && (heldFlank ts d x.secsOut false).isEmpty then
    (if x.alt = 0 then releaseAll ts r d cyc p
     else if x.code = rsINUSE then p.putRoute r { x with code := rsOVERLAPHELD } cyc
     else p)
  else p

/-- One route advanced by at most one row of R251 (R250). `limit` is the setting supervision time in ticks. -/
def superviseRoute (ts : TableSet) (limit cyc : Nat) (p : Pass) (r : Nat) : Pass :=
  match routeDef ts r with
  | none => p
  | some d =>
    let x := routeOf p.v r
    if x.code = rsSETTING || x.code = rsPROVING then
      let late := limit < x.setTicks && !x.setRaised
      let p := if late then
          { (p.raise 72) with v := { p.v with routes := spSet {} r { x with setRaised := true } p.v.routes } }
        else p
      let x := routeOf p.v r
      if x.code = rsSETTING then
        (if pointsDetected ts p.v d x.alt then p.putRoute r { x with code := rsPROVING } cyc else p)
      else if provingHolds ts p.v r d && dwellReached p.v d then
        (signalTo d d.aspect cyc p).putRoute r { x with code := rsCLEARING, setTicks := 0 } cyc
      else p
    else if x.code = rsCLEARING || x.code = rsCLEARED then
      let p := updateApproach r d cyc p
      if s1Occupied ts p.v d then superviseOverlap ts r d cyc (enterInUse ts r d cyc (signalTo d 0 cyc p))
      else if !provingHolds ts p.v r d then
        ((signalTo d 0 cyc p).putRoute r { routeOf p.v r with code := rsREPLACED } cyc).raise 66
      else if x.code = rsCLEARING && (elemOf p.v d.entry).state == 3 then
        (p.putRoute r { routeOf p.v r with code := rsCLEARED } cyc).raise 65
      else p
    else if x.code = rsREPLACED then
      let p := updateApproach r d cyc p
      if s1Occupied ts p.v d then superviseOverlap ts r d cyc ((enterInUse ts r d cyc p).raise 78) else p
    else if x.code = rsINUSE || x.code = rsOVERLAPHELD then superviseRelease ts r d cyc p
    else if x.code = rsCANCELLING then
      (if (elemOf p.v d.entry).state == 1 then releaseAll ts r d cyc p else p)
    else if x.code = rsTIMERELEASE then
      (if s1Occupied ts p.v d then superviseOverlap ts r d cyc (enterInUse ts r d cyc p)
       else if !x.running then
        (if (elemOf p.v d.entry).state == 1 then (p.putRoute r { x with running := true, timer := 0 } cyc).raise 69 else p)
       else if d.trel ≤ x.timer then releaseAll ts r d cyc p
       else p)
    else p

/-- Step 4 of the pass: every route not in RELEASED, ascending (R233). -/
def passSupervise (ts : TableSet) (limit cyc : Nat) (p : Pass) : Pass :=
  ((p.v.routes.filter (fun x => x.2.code != 0)).map (·.1)).foldl (superviseRoute ts limit cyc) p

/-- Route timers take `dt` ticks. -/
def ageRoute (dt : Nat) (x : Route) : Route :=
  { x with
    timer := if x.running then add32 x.timer dt else x.timer,
    setTicks := if x.code = rsSETTING || x.code = rsPROVING then x.setTicks + dt else x.setTicks }

/-- The timers of every element and route take the ticks since the input tick of the last cycle. -/
def ageVital (dt : Nat) (v : Vital) : Vital :=
  let v := ageElems dt v
  { v with routes := v.routes.map (fun p => (p.1, ageRoute dt p.2)) }

/-! ### Requests -/

/-- Source order of R241: telegram fields by stream and field, then the dictionary. -/
def sourceRank : ReqSource → Nat
  | .telegram _ s f => s * 2 ^ 16 + f
  | .dictionary => 2 ^ 40

/-- Age key order of R241. -/
def reqBefore (a b : RouteReq) : Bool :=
  if a.eligible != b.eligible then a.eligible < b.eligible
  else if a.fresh != b.fresh then b.fresh
  else if a.latch != b.latch then a.latch < b.latch
  else sourceRank a.source < sourceRank b.source

/-- A request entered into a queue in queue order. -/
def insertReq (q : RouteReq) : List RouteReq → List RouteReq
  | [] => [q]
  | x :: xs => if reqBefore q x then q :: x :: xs else x :: insertReq q xs

/-- "Latched before" of R246. -/
def latchedBefore (a b : RouteReq) : Bool :=
  if a.latch != b.latch then a.latch < b.latch else sourceRank a.source < sourceRank b.source

/-- The work of the request steps of a pass. -/
structure Service where
  pass : Pass
  cancelQ : List RouteReq
  setQ : List RouteReq
  done : List (RouteReq × Nat) := []
  servedSets : List RouteReq := []
  total : Nat := 0
  spec : Nat := 0
  specBad : Nat := 0
  maxWait : Nat := 0
  lastHit : Option (Bool × Nat × Nat) := none
  full : Bool := false

/-- Every queued set request of a route withdrawn with outcome 0x0214 (R246). -/
def withdrawSets (r : Nat) (s : Service) : Service :=
  { s with
    setQ := s.setQ.filter (fun q => q.route != r),
    done := s.done ++ (s.setQ.filter (fun q => q.route == r)).map (fun q => (q, 0x0214)) }

/-- An emergency cancel or a release decided (R246, R251, R215). -/
def serveCancel (ts : TableSet) (cyc : Nat) (emergency : Bool) (s : Service) (q : RouteReq) : Service :=
  let out (st : Nat) (s : Service) : Service := { s with done := s.done ++ [(q, st)], total := s.total + 1 }
  match routeDef ts q.route with
  | none => out 0x0211 s
  | some d =>
    let p := updateApproach q.route d cyc s.pass
    let x := routeOf p.v q.route
    if x.code = rsRELEASED then
      (if s.setQ.any (fun y => y.route == q.route) then out 0 (withdrawSets q.route s) else out 0x0211 s)
    else if x.code ≤ rsREPLACED then
      let goto (c : Nat) : Pass :=
        (signalTo d 0 cyc p).putRoute q.route ({ routeOf p.v q.route with code := c, timer := 0, running := false }) cyc
      (if !(x.approach && decide (rsCLEARING ≤ x.code)) then out 0 { s with pass := goto rsCANCELLING }
       else if emergency then out 0 { s with pass := (goto rsTIMERELEASE).raise 68 }
       else out 0x0215 { s with pass := p })
    else out 0x0216 s

/-- Steps 2 and 3 of the pass: eligible entries of one class of the cancellation queue, in queue order. -/
def passCancels (ts : TableSet) (cyc : Nat) (emergency : Bool) (s : Service) : Service :=
  let kind := if emergency then 3 else 2
  let due := s.cancelQ.filter (fun q => q.kind == kind && decide (q.eligible ≤ cyc))
  let s := { s with cancelQ := s.cancelQ.filter (fun q => !(q.kind == kind && decide (q.eligible ≤ cyc))) }
  due.foldl (serveCancel ts cyc emergency) s

/-! ### Run-ahead premises -/

/-- h(e) of R274. -/
def premiseBit (e : Nat) : Nat := ((e % 1024) ^^^ (16 * (e / 1024))) % 1024

/-- A vector with bit h(e) set for every slot listed. -/
def premiseVector (slots : List Nat) : Nat := slots.foldl (fun n e => n ||| 2 ^ premiseBit e) 0

/-- The words whose difference marks a slot as changed (R275). -/
def premiseWords (e : Elem) : List Nat := [e.ident, e.state, e.lock, e.detect, e.command, e.aux]

/-- The changed vector (R275). -/
def changedVector (v proj : Vital) : Nat :=
  premiseVector (((v.elems ++ proj.elems).map (·.1)).filter (fun s =>
    premiseWords (elemOf v s) != premiseWords (elemOf proj s)))

/-- The lock delta (R275). -/
def lockDelta (v proj : Vital) : Nat := lockBitset v ^^^ lockBitset proj

/-- The delta block mask (R275). -/
def deltaMask (delta : Nat) : Nat := bitsOf (fun b => decide ((delta >>> (512 * b)) % 2 ^ 512 ≠ 0)) (rangeFrom 0 128)

/-- The premises of a shadow result hold (R276). -/
def premisesHold (v proj : Vital) (d : RouteDef) (sh : Shadow) : Bool :=
  premiseVector sh.slots &&& changedVector v proj == 0 &&
  d.conflict &&& lockDelta v proj == 0 &&
  sh.routes.all (fun r => routeWords (routeOf v r) == routeWords (routeOf proj r))

/-- A served set request put back with a new age key (R243). -/
def putBack (q : RouteReq) (cyc : Nat) (s : Service) : Service :=
  { s with setQ := insertReq { q with eligible := cyc + 1, fresh := false } s.setQ }

/-- What a set request in RELEASED does once evaluated: set, or put back (R246, R243). -/
def finishSet (ts : TableSet) (cyc : Nat) (q : RouteReq) (d : RouteDef) (ev : SetEval) (s : Service) : Service :=
  match ev with
  | .ok alt transfer =>
    { s with pass := applySet ts q.route d alt transfer cyc s.pass, done := s.done ++ [(q, 0)] }
  | .conflict lst slot =>
    let s := putBack q cyc { s with lastHit := some (lst, q.route, slot) }
    if lst && (s.pass.v.routes.filter (fun p => p.2.code != 0)).length ≥ 2048 then { s with full := true } else s

/-- A set request served in step 5 (R246, R252, R276, R277). -/
def serveSet (ts : TableSet) (cyc : Nat) (shadow : List Shadow) (proj : Vital) (s : Service) (q : RouteReq) : Service :=
  let s := { s with total := s.total + 1, maxWait := max s.maxWait (min 8 (cyc - q.eligible)) }
  let post (st : Nat) (s : Service) : Service := { s with done := s.done ++ [(q, st)] }
  let note (s : Service) : Service := { s with servedSets := s.servedSets ++ [q] }
  match routeDef ts q.route with
  | none => post 0x0111 s
  | some d =>
    let x := routeOf s.pass.v q.route
    if x.code = rsRELEASED then
      (if (s.setQ ++ s.servedSets).any (fun y => y.route == q.route && latchedBefore y q) then note (post 0x0210 s)
       else
        match shadow.find? (fun sh => sh.req == q) with
        | some sh =>
          if premisesHold s.pass.v proj d sh then
            note (finishSet ts cyc q d (if sh.set then .ok sh.alt sh.transfer else evalSet ts s.pass.v q.route d)
              { s with spec := s.spec + 1 })
          else
            note (finishSet ts cyc q d (evalSet ts s.pass.v q.route d)
              { s with specBad := s.specBad + 1, pass := s.pass.raise 74 })
        | none => note (finishSet ts cyc q d (evalSet ts s.pass.v q.route d) s))
    else if x.code = rsREPLACED then
      note (post 0 { s with
        pass := s.pass.putRoute q.route ({ x with code := rsPROVING, setTicks := 0, setRaised := false }) cyc })
    else note (post 0x0210 s)

/-- Set requests whose lifetime has passed are removed at the start of step 5 (R245). -/
def expireSets (tick life : Nat) (s : Service) : Service :=
  let old := s.setQ.filter (fun q => decide (q.latch + life ≤ tick))
  { s with
    setQ := s.setQ.filter (fun q => !decide (q.latch + life ≤ tick)),
    done := s.done ++ old.map (fun q => (q, 0x0213)),
    pass := old.foldl (fun p _ => p.raise 70) s.pass }

/-- Step 5 of the pass (R233, R242, R245). -/
def passSets (ts : TableSet) (cyc tick life : Nat) (shadow : List Shadow) (proj : Vital) (s : Service) : Service :=
  let s := expireSets tick life s
  let due := (s.setQ.filter (fun q => decide (q.eligible ≤ cyc))).take (1024 - s.total)
  let s := due.foldl (fun s q => serveSet ts cyc shadow proj { s with setQ := s.setQ.filter (fun y => y != q) } q) s
  if s.full then { s with pass := s.pass.raise 80 } else s

/-- One pass of the route engine (R233). -/
def routePass (ts : TableSet) (limit life cyc tick : Nat) (reqs : List LockReq) (i : Ite) (v : Vital) : Service :=
  let p := passLocks reqs (Pass.mk v [] [])
  let s : Service := { pass := p, cancelQ := i.cancelQ, setQ := i.setQ }
  let s := passCancels ts cyc false (passCancels ts cyc true s)
  let s := { s with pass := passSupervise ts limit cyc s.pass }
  passSets ts cyc tick life i.shadow i.projection s

/-! ### Run-ahead -/

/-- One set request evaluated ahead against the projection (R270 to R273). -/
def aheadOne (ts : TableSet) (cyc : Nat) (i : Ite) (q : RouteReq) : Ite :=
  match routeDef ts q.route with
  | none => i
  | some d =>
    if i.shadow.length ≥ 1024 || i.shadow.any (fun sh => sh.req == q) then i
    else if (routeOf i.projection q.route).code != 0 then i
    else
      let ev := evalSet ts i.projection q.route d
      let slots := evalReads ts i.projection d
      match ev with
      | .ok alt t =>
        { i with
          shadow := i.shadow ++ [{ req := q, set := true, alt, transfer := t, slots, routes := evalRoutes q.route t }],
          projection := (applySet ts q.route d alt t (cyc + 1) (Pass.mk i.projection [] [])).v }
      | .conflict _ _ =>
        { i with shadow := i.shadow ++ [{ req := q, set := false, alt := 0, transfer := none, slots, routes := [q.route] }] }

/-- Run-ahead over the set requests eligible in the next cycle, in queue order (R271). -/
def aheadAll (ts : TableSet) (cyc : Nat) (i : Ite) : Ite :=
  (i.setQ.filter (fun q => decide (q.eligible ≤ cyc + 1))).foldl (aheadOne ts cyc) i

end Sys2Proof.Machine
end

