-- ==== Sys2Proof/Machine/Pair.lean ====
section
/-!
DEFINITION. Records of the pair link, the Shale store, the synchronised standby and the output comparison of
10_active_standby_pair.md, over the pair state alone.
-/
namespace Sys2Proof.Machine

/-! ### Records (R494 to R496) -/

/-- A paired word on the wire, eight bytes big-endian (R10). -/
def wirePair (v : Nat) : List Byte := toBE 8 (pairWord v)

/-- Paired words read from bytes; none when one of them is broken. -/
def readPairs (n o : Nat) (bs : List Byte) : Option (List Nat) :=
  let ws := (rangeFrom 0 n).map (fun i => beAt (o + 8 * i) 8 bs)
  if ws.all pairOk then some (ws.map pairVal) else none

/-- The CRC-64 of a record (R494): the parameters of R132. -/
def recordCrc (bs : List Byte) : Nat := crc64 bs

/-- A record as bytes. -/
def writeRecord (r : PairRec) : List Byte :=
  let head := [r.kind + 2 ^ 8, r.payload.length, r.cycle % 2 ^ 32, r.cycle / 2 ^ 32 % 2 ^ 32, r.tick % 2 ^ 32, r.tick / 2 ^ 32 % 2 ^ 32,
    r.full % 2 ^ 32, r.index % 2 ^ 32]
  let body := (head.map wirePair).flatten ++ r.payload
  body ++ toBE 8 (recordCrc body)

/-- Length that a record's payload must have by its type and INDEX (R495); none for FULL_DATA, which names none. -/
def recordLength (kind index : Nat) : Option Nat :=
  match kind with
  | 1 => some 128
  | 2 => some 128
  | 3 => none
  | 4 => some 8
  | 5 => some (72 * (index % 2 ^ 16))
  | 6 => some (16 * index)
  | 7 => some 16
  | 8 => some 16
  | _ => none

/-- Whether the paired words that a payload names hold (R495, R496). -/
def payloadPairs (kind index : Nat) (p : List Byte) : Bool :=
  match kind with
  | 1 => (readPairs 16 0 p).isSome
  | 2 => (readPairs 16 0 p).isSome
  | 5 => (rangeFrom 0 (index % 2 ^ 16)).all (fun i => pairOk (beAt (72 * i) 8 p))
  | 7 => (readPairs 2 0 p).isSome
  | 8 => (readPairs 2 0 p).isSome
  | _ => true

/-- A received record checked (R496): none when it is to be discarded. -/
def readRecord (bs : List Byte) : Option PairRec :=
  if bs.length < 72 then none
  else
    let n := bs.length - 8
    match readPairs 8 0 bs with
    | none => none
    | some h =>
      let w (i : Nat) : Nat := nth 0 i h
      let kind := bits 7 0 (w 0)
      let payload := slice 64 (n - 64) bs
      let lengthOk := w 1 == payload.length && w 1 % 8 == 0 &&
        (match recordLength kind (w 7) with
          | some k => k == w 1
          | none => kind == 3 && w 1 % 64 == 0 && decide (64 ≤ w 1) && decide (w 1 ≤ 65536))
      if recordCrc (bs.take n) ≠ beAt n 8 bs ∨ bits 15 8 (w 0) ≠ 1 ∨ bits 31 16 (w 0) ≠ 0 ∨ kind = 0 ∨ 8 < kind ∨ !lengthOk ∨
          !payloadPairs kind (w 7) payload then none
      else some { kind := kind, cycle := w 2 + w 3 * 2 ^ 32, tick := w 4 + w 5 * 2 ^ 32, full := w 6, index := w 7, payload := payload }

/-- A stamp of the partner as an own tick count (R493). -/
def ownTick (rx : PairRx) (tick : Nat) : Nat := ((tick : Int) + rx.delta).toNat

/-! ### The Shale store (R500, R501) -/

/-- Entries of a DELTA payload: line number and line. -/
def deltaEntries (n : Nat) (p : List Byte) : List (Nat × List Byte) :=
  (rangeFrom 0 n).map (fun i => (pairVal (beAt (72 * i) 8 p), slice (72 * i + 8) 64 p))

/-- Lines put over lines; a line of zeros is not listed. -/
def putLines (new old : List (Nat × List Byte)) : List (Nat × List Byte) :=
  new.foldl (fun l p => spSet (zeros 64) p.1 p.2 l) old

/-- FULL_BEGIN: a new full image opens; the older complete one stays (R501). -/
def fullBegin (r : PairRec) (stamp : Nat) (s : Shale) : Shale :=
  { s with incoming := some { cycle := r.cycle, stamp := stamp, ident := (readPairs 16 0 r.payload).getD [] } }

/-- FULL_DATA: lines from a first number on. -/
def fullData (r : PairRec) (s : Shale) : Shale := match s.incoming with
  | some i =>
    if i.cycle % 2 ^ 32 = r.full ∧ r.index = i.count then
      let ls := chunks 64 r.payload
      let numbered := (rangeFrom r.index ls.length).zip ls
      { s with incoming := some { i with count := i.count + ls.length, lines := putLines numbered i.lines } }
    else s
  | none => s

/-- The CRC-64 over every line of an image in order (R495 type 4). -/
def imageCrc (count : Nat) (lines : List (Nat × List Byte)) : Nat :=
  crcFinal .crc64 ((rangeFrom 0 count).foldl (fun reg i => (spGet (zeros 64) i lines).foldl (crcFeed .crc64) reg) (crcInit .crc64))

/-- FULL_END: with the line count and CRC-64 right the image is complete and the older one is freed (R501). -/
def fullEnd (r : PairRec) (s : Shale) : Shale := match s.incoming with
  | some i =>
    if i.cycle % 2 ^ 32 = r.full ∧ r.index = i.count ∧ beNat r.payload = imageCrc i.count i.lines then
      { s with full := some i, incoming := none, deltas := s.deltas.filter (fun d => decide (i.cycle < d.cycle)), broken := false }
    else { s with incoming := none }
  | none => s

/-- Whether a delta of this cycle follows on without a gap (R116, R501): on the newest delta, or on the full image that is being received. -/
def deltaFollows (s : Shale) (cycle : Nat) : Bool := s.incoming.any (fun i => decide (cycle = i.cycle + 1)) || match s.deltas.getLast? with
  | some d => decide (cycle = d.cycle + 1)
  | none => match s.full with
    | some f => decide (cycle = f.cycle + 1)
    | none => true

/-- A part of a DELTA (R495 type 5, R501). True in the second place when the chain breaks here. -/
def deltaPart (r : PairRec) (stamp : Nat) (s : Shale) : Shale × Bool :=
  let number := bits 30 16 r.index
  let last := r.index.testBit 31
  let ls := deltaEntries (r.index % 2 ^ 16) r.payload
  let start : Bool := number == 0
  let ok : Bool := if start then true else match s.part with
    | some d => decide (d.cycle = r.cycle) && decide (number = s.nextPart)
    | none => false
  if !ok then ({ s with part := none, nextPart := 0, broken := true }, !s.broken)
  else
    let d : ShaleDelta := match start, s.part with
      | false, some d => { d with lines := putLines ls d.lines }
      | _, _ => { cycle := r.cycle, stamp := stamp, lines := putLines ls [] }
    if last then
      let s := { s with part := none, nextPart := 0 }
      if deltaFollows s r.cycle then ({ s with deltas := s.deltas ++ [d] }, false)
      else ({ s with broken := true }, !s.broken)
    else ({ s with part := some d, nextPart := number + 1 }, false)

/-- Entries of a SESSIONS payload (R495 type 6). -/
def readSessions (n : Nat) (p : List Byte) : List SessionRec :=
  (rangeFrom 0 n).map (fun i =>
    { stream := beAt (16 * i) 2 p, net := beAt (16 * i + 2) 1 p, session := beAt (16 * i + 4) 2 p, base := beAt (16 * i + 8) 8 p })

/-- A SESSIONS payload. -/
def writeSessions (l : List SessionRec) : List Byte :=
  (l.map (fun r => toBE 2 r.stream ++ toBE 1 r.net ++ toBE 1 0 ++ toBE 2 r.session ++ toBE 2 0 ++ toBE 8 r.base)).flatten

/-- Sessions kept by stream and network, newest first. -/
def putSessions (new old : List SessionRec) : List SessionRec :=
  new ++ old.filter (fun r => !new.any (fun x => x.stream == r.stream && x.net == r.net))

/-- The lines of a snapshot (R116): the full image and the deltas that follow on. -/
def snapshotLines (f : ShaleImage) : List ShaleDelta → List (Nat × List Byte)
  | ds => ds.foldl (fun l d => putLines d.lines l) f.lines

/-- Deltas that follow the full image without a gap. -/
def chainFrom (cycle : Nat) : List ShaleDelta → List ShaleDelta
  | [] => []
  | d :: ds => if d.cycle = cycle + 1 then d :: chainFrom d.cycle ds else []

/-- The newest complete full image with its chain. -/
def snapshotOf (s : Shale) : Option (ShaleImage × List ShaleDelta) :=
  s.full.map (fun f => (f, chainFrom f.cycle (s.deltas.filter (fun d => decide (f.cycle < d.cycle)))))

/-- Cycle and stamp of a snapshot's last record. -/
def snapshotEnd (p : ShaleImage × List ShaleDelta) : Nat × Nat := match p.2.getLast? with
  | some d => (d.cycle, d.stamp)
  | none => (p.1.cycle, p.1.stamp)

/-! ### Synchronised standby (R502) -/

/-- What the module at hand shows for R502. -/
structure SyncEnv where
  standby : Bool
  member : Bool
  position : Nat
  ident : List Nat
  greens : Nat
  holderCycle : Nat

/-- Words 1 to 12 of an identity block, in two groups: images, and k, H and mask. -/
def identWords (from_ n : Nat) (ws : List Nat) : List Nat := (ws.drop from_).take n

/-- First unmet condition of R502 as seen by the standby; 0 when synchronised. Conditions go in the order of the code table. -/
def syncCause (env : SyncEnv) (p : Pair) : Nat :=
  if !p.linkUp then 0x0230
  else if p.incompatible then 0x0231
  else match p.partner with
    | none => 0x0230
    | some w =>
      if identWords 1 10 w ≠ identWords 1 10 env.ident then 0x0702
      else if identWords 11 2 w ≠ identWords 11 2 env.ident then 0x0232
      else match snapshotOf p.shale with
        | none => 0x0233
        | some s =>
          if p.shale.broken ∨ (snapshotEnd s).1 + 2 < env.holderCycle + 1 then 0x0234
          else if env.greens < 2 then 0x0235
          else if !env.standby ∨ !env.member ∨ env.position = 0 then 0x0236
          else 0

/-! ### The Flint line -/

/-- Position as the pair interface reads it (R479). -/
def Pair.position (p : Pair) : Nat := if p.closed then p.cablePos else 0

/-! ### Output comparison (R504, R505) -/

/-- First and last holder tick, in own ticks, that overlap the judged span of a sample taken in tick `t` (R504). -/
def cmpSpan (offset : Int) (t settle : Nat) : Nat × Nat :=
  let o := offset % 250000
  let o := if o ≥ 125000 then o - 250000 else o
  let lo : Int := ((t : Int) - settle - 1) * 250000 + 16000 - o
  let hi : Int := ((t : Int) + 1) * 250000 + 16000 - o
  ((lo / 250000).toNat, (hi / 250000).toNat)

/-- The driven state of a channel over a span of holder ticks, when every record has arrived, they agree and show no pulse. -/
def holderState (outs : List HolderOut) (lo hi c : Nat) : Option Bool :=
  let rs := (rangeFrom lo (hi + 1 - lo)).map (fun t => outs.find? (fun o => o.tick == t))
  if rs.any (fun r => r.isNone) then none
  else
    let os := rs.filterMap id
    if os.any (fun o => o.pulse.testBit c || o.quiet) then none
    else if os.all (fun o => o.driven.testBit c) then some true
    else if os.all (fun o => !o.driven.testBit c) then some false
    else none

/-- One sample judged: channels judged, and channels that mismatch. -/
def judgeSample (mask : Nat) (settle : Nat → Nat) (offset : Int) (outs : List HolderOut) (s : Nat × Nat) : List Nat × List Nat :=
  let judged := (rangeFrom 0 24).filterMap (fun c =>
    if !mask.testBit c then none
    else
      let (lo, hi) := cmpSpan offset s.1 (settle c)
      (holderState outs lo hi c).map (fun b => (c, b != s.2.testBit c)))
  (judged.map (·.1), (judged.filter (·.2)).map (·.1))

/-- The run of mismatch ticks after a judged sample (R505), with the events raised; the third in a row pulls. -/
def afterSample (judged bad : List Nat) (p : Pair) : Pair × List Nat :=
  if judged.isEmpty then (p, [])
  else if bad.isEmpty then ({ p with run := 0 }, [])
  else
    let p := { p with run := p.run + 1, mismatches := add32 p.mismatches 1, cmpValid := true, cmpChan := bad.getLast?.getD 0 }
    let ev := if p.run = 1 then [224] else []
    if 3 ≤ p.run ∧ !p.pulling then ({ p with run := 3, pulling := true, pulls := add32 p.pulls 1 }, ev ++ [225]) else ({ p with run := min p.run 3 }, ev)

/-- A sample is judged once a record that ends its span has arrived, and after three ticks at the latest (R504). -/
def sampleDue (offset : Int) (outs : List HolderOut) (now : Nat) (s : Nat × Nat) : Bool :=
  decide (s.1 + 3 ≤ now) || outs.any (fun o => decide ((cmpSpan offset s.1 0).2 ≤ o.tick))

/-- Samples whose time has come, judged oldest first. -/
def judgeDue (mask : Nat) (settle : Nat → Nat) (p : Pair) : List (Nat × Nat) → Pair × List Nat
  | [] => (p, [])
  | s :: rest =>
    let (judged, bad) := judgeSample mask settle p.offset p.outputs s
    let (p, ev) := afterSample judged bad p
    let (p, ev') := judgeDue mask settle p rest
    (p, ev ++ ev')

/-- The comparison at an input latch (R504, R505): `active` when its conditions hold, `rbk` the readback samples of the 24 outputs. -/
def outputComparison (active : Bool) (mask : Nat) (settle : Nat → Nat) (tick rbk : Nat) (p : Pair) : Pair × List Nat :=
  if !active then ({ p with samples := [], run := 0 }, [])
  else
    let all := p.samples ++ [(tick, rbk)]
    let due := sampleDue p.offset p.outputs tick
    let (p, ev) := judgeDue mask settle p (all.filter due)
    ({ p with samples := all.filter (fun s => !due s) }, ev)

/-- An OUTPUT record kept for the comparison. -/
def keepOutput (tick w0 w1 : Nat) (p : Pair) : Pair :=
  { p with outputs := lastN 64 (p.outputs ++ [{ tick := tick, driven := bits 23 0 w0, pulse := bits 23 0 w1, quiet := w0.testBit 30 || w0.testBit 31 }]) }

/-! ### Lines of the state set -/

/-- An element record read back from its line (R117): none when a pair is broken. -/
def readElem (line : List Byte) : Option Elem :=
  let ws := (rangeFrom 0 8).map (fun i => leAt (8 * i) 8 line)
  if ws.all pairOk then
    let v (i : Nat) : Nat := pairVal (nth 0 i ws)
    some { ident := v 0, state := v 1, lock := v 2, detect := v 3, command := v 4, timer := v 5, aux := v 6, stamp := v 7, running := decide (0 < v 5) }
  else none

/-- A route state record read back from its bytes. -/
def readRoute (b : List Byte) : Option Route :=
  let ws := (rangeFrom 0 4).map (fun i => leAt (8 * i) 8 b)
  if ws.all pairOk then
    let v (i : Nat) : Nat := pairVal (nth 0 i ws)
    some
      { code := bits 7 0 (v 0), alt := bits 11 8 (v 0), approach := (v 0).testBit 12, passed := (v 0).testBit 13, released := v 1,
        timer := v 2, running := decide (0 < v 2), stamp := v 3 }
  else none

end Sys2Proof.Machine
end

