-- ==== Sys2Proof/Machine/DataPower.lean ====
section
/-!
DEFINITION. Data types of 14_power_hotplug_electrical.md: domains, supplies, temperature, the station time-reference input, hot plug.
-/
namespace Sys2Proof.Machine

/-- The station time-reference input (R655, R656): consecutive good edges, whether the last edge has been named, telegrams missing or
failed in a row, the last SECONDS, and the TAI time of the last valid edge. -/
structure Station where
  valid : Bool := false
  run : Nat := 0
  edgeOk : Bool := false
  named : Bool := true
  missing : Nat := 0
  edgeTick : Nat := 0
  anyEdge : Bool := false
  seconds : Option Nat := none
  tai : Nat := 0
  utcOff : Nat := 0
  deriving DecidableEq, Repr

/-- Power, temperature and hot plug. `domains` has bit i for power good of the domain of event 4 + i, `lost` for a domain that has lost
power good or missed its time and is off. -/
structure Pwr where
  aon : Bool := true
  domains : Nat := 0
  lost : Nat := 0
  mv : Nat := 0
  low : Bool := false
  high : Bool := false
  temp : Int := 0
  tempMax : Option Int := none
  over70 : Bool := false
  limit : Bool := false
  ejectOpen : Bool := false
  present : Bool := false
  inputSwitch : Bool := false
  precharge : Bool := false
  hours : Nat := 0
  powerUps : Nat := 0
  failing : Bool := false
  station : Station := {}
  deriving DecidableEq, Repr

end Sys2Proof.Machine
end

