-- ==== Sys2Proof/Machine/State.lean ====
section
/-!
DEFINITION. The state of the module, plain data: every register, buffer, queue, counter, mode and pin that spec/ gives it, the queue of
commands that wait, and three fields of the model's own (`freeCtr`, `emitted`, `dead`).
-/
namespace Sys2Proof.Machine

/-- What leaves the module in one step, in order. -/
inductive Output where
  | efavo (t : EfTx)
  | can (t : CanTx)
  | pair (bytes : List Byte)
  | dict (r : DictReply)
  | icmp (port : Nat) (bs : List Byte)
  | arp (port ip : Nat)
  deriving DecidableEq, Repr

/-- Output commands and transmit payloads: masks of the channels that each task commands on, the committed output image as 24 paired
words (R29), and the payloads of transmit streams (0 Efavo, 1 CAN; stream; payload). A vital part is working until its commit. -/
structure Outs where
  fast : Nat := 0
  vital : Nat := 0
  vitalW : Nat := 0
  words : List Nat := List.replicate 24 (pairWord 0x5A)
  pay : List (Nat × Nat × List Byte) := []
  payW : List (Nat × Nat × List Byte) := []
  generic : List (Nat × Nat × Nat) := []
  genericW : List (Nat × Nat × Nat) := []
  demands : List (Nat × Bool) := []
  demandsW : List (Nat × Bool) := []
  deriving DecidableEq, Repr

/-- What VOTE shows of one lane. -/
structure LaneView where
  colour : Colour := .green
  gateOpen : Bool := false
  gateFault : Bool := false
  fast : Nat := 0
  vital : Nat := 0
  lines : Nat := 0
  deriving DecidableEq, Repr

/-- Cumulative transient fault counters of 0x9010 (R59), but for those of I/O channels, which `Fio` holds. -/
structure Totals where
  lanes : Nat := 0
  efavo : Nat := 0
  can : Nat := 0
  deriving DecidableEq, Repr

/-- The rest of what dictionary entries read, as it stood at the input latch (R521). -/
structure Latched where
  sys : Sys := {}
  frame : Frame := {}
  params : List (Nat × Val) := []
  lanes : Tri Lane := Tri.all3 {}
  ite : Ite := {}
  dict : Dict := {}
  lops : LongOps := {}
  upd : Upd := {}
  totals : Totals := {}
  deriving DecidableEq, Repr

/-- The module-wide blocks as they stood at the input latch of the tick (R43), with what their registers take from elsewhere, and what else
entries read, none before the first latch since a restart. -/
structure Frozen where
  voter : Voter := {}
  lanes : Tri LaneView := Tri.all3 {}
  cycle : Nat := 0
  mode : Mode := .boot
  tick : Nat := 0
  fio : Fio := {}
  efl : Efl := {}
  guardOn : Bool := false
  can : Can := {}
  pair : Pair := {}
  pairRole : Nat := 0
  pairCause : Nat := 0
  pairSync : Bool := false
  pwr : Pwr := {}
  remove : Bool := false
  ref : TimeRef := .own
  holdover : Bool := false
  evt : Evt := {}
  fw : Firewall := {}
  rest : Option Latched := none
  deriving DecidableEq, Repr

/-- The state. `vit` and `sfu` are committed, `vitW` and `sfuW` those of the open cycle and of the tick in work. -/
structure State where
  pending : List Instr := []
  freeCtr : Nat := 0
  emitted : List Output := []
  dead : Bool := false
  ident : Ident := {}
  sys : Sys := {}
  frame : Frame := {}
  evt : Evt := {}
  fw : Firewall := {}
  params : List (Nat × Val) := []
  lanes : Tri Lane := Tri.all3 {}
  voter : Voter := {}
  ite : Ite := {}
  vit : Vital := {}
  vitW : Vital := {}
  sfu : Sfu := {}
  sfuW : Sfu := {}
  img : InputImage := {}
  vin : InputImage := {}
  outs : Outs := {}
  fio : Fio := {}
  efl : Efl := {}
  can : Can := {}
  pair : Pair := {}
  dict : Dict := {}
  lops : LongOps := {}
  upd : Upd := {}
  pwr : Pwr := {}
  totals : Totals := {}
  frozen : Frozen := {}
  deriving DecidableEq, Repr

/-- Faults that end a run. The model raises none: where the spec describes a failure of the module, the failure is a next state. Safe. -/
inductive Fault where
  | none
  deriving DecidableEq, Repr

/-- Refusals. `notModelled`: an arm of `exec` without a meaning raises it. Safe. -/
inductive Refusal where
  | notModelled (mnemonic : String)
  deriving DecidableEq, Repr

/-- The module right after PD-AON power good, in BOOT (01_module_architecture.md, transition 1): every block at the reset values of
its register maps, every dictionary entry at its default. Values that spec/ does not give are those of notes/assumptions/1.md. -/
def State.reset : State := {}

end Sys2Proof.Machine
end

