-- ==== Sys2Proof/Machine/Params.lean ====
section
/-!
DEFINITION. The parameters of the object dictionary: every writable entry that keeps its value (R523), with type, range, default and
the mode in which it is writable, as the dictionary tables of the chapters list them.
-/
namespace Sys2Proof.Machine

/-- A range as a dictionary table states it: from and to with both ends (R8), such a span or one value that means none, the bits that may
be set, or values listed one by one. -/
inductive ParRange where
  | span (lo hi : Nat)
  | spanOr (lo hi other : Nat)
  | bits (n : Nat)
  | set (vals : List Nat)
  deriving DecidableEq, Repr

/-- Whether a value lies in a range. -/
def ParRange.has (v : Nat) : ParRange → Bool
  | .span lo hi => decide (lo ≤ v) && decide (v ≤ hi)
  | .spanOr lo hi other => (decide (lo ≤ v) && decide (v ≤ hi)) || v == other
  | .bits n => decide (v < 2 ^ n)
  | .set vals => vals.contains v

/-- Status of a value that a range does not have (R549, R123): a value that is not listed, a BOOL among them, or a reserved bit gives 0x0101,
a value outside a span 0x0102. -/
def ParRange.refusal : ParRange → Nat
  | .span _ _ | .spanOr _ _ _ => 0x0102
  | .bits _ | .set _ => 0x0101

/-- A parameter entry; `config` when it is writable in CONFIGURE only. -/
structure ParDef where
  typ : DType
  range : ParRange
  dflt : Nat
  config : Bool := true
  deriving DecidableEq, Repr

/-- Short form of a parameter in a span of values. -/
def parSpan (typ : DType) (lo hi dflt : Nat) : Option ParDef := some { typ, range := .span lo hi, dflt }

/-- Short form of a BOOL parameter. -/
def parBool (dflt : Nat) : Option ParDef := some { typ := .bool, range := .set [0, 1], dflt }

/-- Short form of a parameter with listed values. -/
def parSet (typ : DType) (vals : List Nat) (dflt : Nat) : Option ParDef := some { typ, range := .set vals, dflt }

/-- Parameters of 0x1000 to 0x5FFF. -/
def parLow (index sub : Nat) : Option ParDef :=
  match index, sub with
  | 0x1200, 2 => parSpan .u16 10 3600 600
  | 0x1220, 1 => some { typ := .u8, range := .bits 5, dflt := 0x13 }
  | 0x1220, 2 => some { typ := .u8, range := .bits 5, dflt := 0x1F }
  | 0x1300, 1 => parSpan .u32 0 0xFFFFFFFF 0xC0A80A02
  | 0x1300, 2 => parSpan .u32 0 0xFFFFFFFF 0xFFFFFF00
  | 0x1300, 3 => parSpan .u32 0 0xFFFFFFFF 0xC0A80B02
  | 0x1300, 4 => parSpan .u32 0 0xFFFFFFFF 0xFFFFFF00
  | 0x1300, 5 => parSpan .u16 1024 65535 4710
  | 0x2000, 3 => some { typ := .u8, range := .set [3, 5], dflt := 5, config := false }
  | 0x2010, 1 => some { typ := .bool, range := .set [0, 1], dflt := 1, config := false }
  | 0x2031, 1 => parSpan .u8 0 8 2
  | 0x2031, 2 => parSpan .u16 0 100 10
  | 0x2040, 1 => some { typ := .u32, range := .span 1 86400, dflt := 600, config := false }
  | 0x2050, 1 => parSpan .u8 0 2 1
  | 0x2060, 1 => parSpan .u8 1 2 1
  | 0x2060, 2 => parSpan .u32 100 60000 2000
  | 0x2072, 1 => parBool 1
  | 0x3010, 1 => parSpan .u8 2 8 3
  | 0x3010, 2 => parSpan .u32 100 100000 1000
  | 0x3030, 1 => parSpan .u8 1 24 24
  | 0x4010, 1 => parSpan .u32 0 3600 180
  | 0x4021, 1 => parSet .u8 [1, 2] 1
  | 0x4130, 1 => parSpan .u16 1 600 30
  | 0x4130, 2 => parBool 1
  | 0x4130, 3 => parSpan .u16 1 600 20
  | 0x5001, 2 => parBool 0
  | 0x5010, 1 => parSet .u8 [1, 2] 1
  | _, _ => none

/-- Parameters of the field and Efavo entries. -/
def parMid (index sub : Nat) : Option ParDef :=
  if index = 0x6010 then
    (match sub with
      | 1 => parSpan .u8 2 16 3 | 2 => parSpan .u16 1 3600 60 | 3 => parSpan .u8 0 120 80 | _ => none)
  else if 0x6030 ≤ index ∧ index < 0x6036 ∧ sub = 1 then some { typ := .u8, range := .spanOr 0 47 0xFF, dflt := 0xFF }
  else if 0x6100 ≤ index ∧ index < 0x6118 then
    (match sub with | 1 => parBool 0 | 2 => parSpan .u8 1 40 1 | _ => none)
  else if 0x6200 ≤ index ∧ index < 0x6230 then
    (match sub with
      | 1 => parSet .u8 [1, 3] 1 | 2 => parBool 0 | 3 => some { typ := .u8, range := .spanOr 0 7 0xFF, dflt := 0xFF } | _ => none)
  else if index = 0x7001 then
    (if sub = 1 then parSpan .u16 0 0xFFFF 0x8000 else if 3 ≤ sub ∧ sub ≤ 10 then parSpan .u16 0 0xFFFE 0 else none)
  else if index = 0x7003 ∧ sub = 1 then parSet .u8 [1, 2] 1
  else if index = 0x7010 then (match sub with | 1 => parSpan .u8 2 255 16 | 2 => parSpan .u16 1 600 10 | _ => none)
  else if 0x7020 ≤ index ∧ index < 0x7024 ∧ sub = 5 then parSet .u8 [1, 2] 1
  else none

/-- Parameters of the CAN, pair and update entries. The values of bit timings, rules and objects are checked by R442, R446 and R450. -/
def parHigh (index sub : Nat) : Option ParDef :=
  if index = 0x7810 then (match sub with | 1 => parSpan .u8 2 255 16 | 2 => parSpan .u16 1 600 10 | _ => none)
  else if 0x7820 ≤ index ∧ index < 0x7824 then
    (match sub with
      | 2 => parSpan .u32 0 0xFFFFFFFF 0x1E7C3C20 | 3 => parSpan .u32 0 0xFFFFFFFF 0x37182400 | _ => none)
  else if 0x7830 ≤ index ∧ index < 0x7834 then
    (match sub with
      | 1 => parSet .u8 [0, 1, 2] 1 | 2 => parSpan .u8 0 7 7 | 3 => parSpan .u16 0 0x7F8 0x10 | 4 => parSpan .u16 4 4000 40
      | _ => none)
  else if 0x7900 ≤ index ∧ index < 0x7C00 then
    (match sub with
      | 1 => parSet .u8 [0, 1, 2, 3] 0 | 2 => parSpan .u8 0 255 0 | 3 => parSet .u8 [0, 1] 0 | 4 => parSpan .u8 0 255 0
      | 5 => parSpan .u32 0 0xFFFFFFFF 0 | 6 => parSpan .u32 0 0xFFFFFFFF 0 | _ => none)
  else if 0x7C00 ≤ index ∧ index < 0x8000 then
    (match sub with
      | 1 => parSet .u8 [0, 1, 2] 0 | 2 => parSpan .u32 0 0xFFFFFFFF 0 | 3 => parSpan .u8 0 255 0 | 4 => parSpan .u8 0 64 0
      | 5 => parSpan .u16 0 0xFFFF 0xFFFF | _ => none)
  else if index = 0x8010 ∧ sub = 1 then parBool 1
  else if index = 0x8011 ∧ sub = 1 then parSpan .u8 0 100 60
  else if index = 0x8012 ∧ sub = 1 then some { typ := .u32, range := .bits 24, dflt := 0xFFFFFF }
  else if 0x8050 ≤ index ∧ index < 0x8090 ∧ sub = 1 then parSpan .u32 0 0xFFFFFFFF 0xFFFFFFFF
  else if index = 0xA030 ∧ sub = 1 then some { typ := .u8, range := .set [1, 2], dflt := 1, config := false }
  else if index = 0xA051 then
    (match sub with
      | 1 => some { typ := .u8, range := .set [1, 2], dflt := 2, config := false }
      | 2 => some { typ := .u8, range := .set [0, 1, 2], dflt := 0, config := false }
      | 3 => some { typ := .u8, range := .set [0, 1, 2], dflt := 0, config := false }
      | _ => none)
  else none

/-- The parameter entry at an index and subindex. -/
def parDef (index sub : Nat) : Option ParDef :=
  if index < 0x6000 then parLow index sub else if index < 0x7800 then parMid index sub else parHigh index sub

/-- Key of an entry in `State.params`. -/
def parKey (index sub : Nat) : Nat := index * 256 + sub

/-- The mark of an entry that stands at its default. -/
def parUnset : Val := .bytes []

/-- Value of a parameter: the one written, or its default (R523). -/
def parValue (ps : List (Nat × Val)) (index sub : Nat) : Nat :=
  match spGet parUnset (parKey index sub) ps with
  | .num n => n
  | .bytes _ => match parDef index sub with
    | some d => d.dflt
    | none => 0

/-- A parameter written; a value equal to the default leaves no entry. -/
def parPut (ps : List (Nat × Val)) (index sub v : Nat) : List (Nat × Val) :=
  let dflt : Nat := match parDef index sub with
    | some d => d.dflt
    | none => 0
  spSet parUnset (parKey index sub) (if v = dflt then parUnset else .num v) ps

/-- Offsets, in `n` indexes from `base`, of entries that stand away from their defaults. -/
def parConfigured (ps : List (Nat × Val)) (base n : Nat) : List Nat :=
  (((ps.map (fun p => p.1 / 256)).filter (fun i => decide (base ≤ i) && decide (i < base + n))).map (fun i => i - base)).eraseDups

/-- A parameter of the module. -/
def State.par (s : State) (index sub : Nat) : Nat := parValue s.params index sub

end Sys2Proof.Machine
end

