-- ==== Sys2Proof/Machine/Ops.lean ====
section
/-!
DEFINITION. Operations over the whole state that the commands share: how a command acts, events, free values, what each block is
given and how its work is put back, SAFE triggers, the release of the Flint line, and the entry to a mode.
-/
namespace Sys2Proof.Machine

/-- How every command acts: what it does is a function of the state; a dead module (R25) does nothing. What the last step sent
is forgotten. -/
def act (f : State → State) (s : State) : Host.Outcome State Fault Refusal :=
  .next (if s.dead then s else f { s with emitted := [] })

/-- A command that does something only where its trigger stands. -/
def only (c : State → Bool) (f : State → State) (s : State) : State := if c s then f s else s

/-- Something leaves the module. -/
def emit (o : Output) (s : State) : State := { s with emitted := s.emitted ++ [o] }

/-- A free value of `w` bits. -/
def fresh (w : Nat) (s : State) : Nat × State := (Config.freeValue w s.freeCtr % 2 ^ w, { s with freeCtr := s.freeCtr + 1 })

/-- `n` bytes that the spec leaves open: a nonce, a salt (R538, R544). -/
def freshBytes (n : Nat) (s : State) : List Byte × State :=
  let (v, s) := fresh (8 * n) s
  (toBE n v, s)

/-- The enable lines of a lane behind its gate (R146): a closed gate presents every line as off. -/
def Lane.presented (l : Lane) : Nat := if l.gateOpen then l.lines else 0

/-- The tick count. -/
def State.tick (s : State) : Nat := s.frame.tick

/-! ### Events (R66 to R69, R547, R548) -/

/-- An occurrence in the event block: sticky flag, counter, newest tick, and the pending bitmap of R111. -/
def evtOccur (n tick : Nat) (e : Evt) : Evt :=
  let b := BitVec.ofNat 256 (2 ^ n)
  { e with
    flags := e.flags ||| b,
    counts := spMod 0 n (fun c => satAdd 0xFFFF c 1) e.counts,
    lastTick := spSet 0 n tick e.lastTick,
    thisTick := e.thisTick ||| b,
    working := e.working ||| b }

/-- Whether an event is unmasked: its bit of EVT.MASKn is 0. -/
def Evt.unmasked (e : Evt) (n : Nat) : Bool := !e.masks.getLsbD n

/-- A notification enters a session's queue: the waiting one of its event is brought up to date, a full queue of 64 loses its oldest
(R547, R548). True when one was lost. -/
def noteSession (n count tick : Nat) (x : Session) : Session × Bool :=
  if x.queue.any (fun q => q.event == n) then
    ({ x with queue := x.queue.map (fun q => if q.event == n then { q with count := count, tick := tick } else q) }, false)
  else if x.queue.length < 64 then ({ x with queue := x.queue ++ [{ event := n, count := count, tick := tick }] }, false)
  else ({ x with queue := x.queue.drop 1 ++ [{ event := n, count := count, tick := tick }] }, true)

/-- Sessions after an occurrence, and whether event 245 is due: once for an overflowing session in each second. -/
def noteSessions (n count tick : Nat) : List Session → List Session × Bool
  | [] => ([], false)
  | x :: xs =>
    let (ys, d) := noteSessions n count tick xs
    if x.phase == .opened && x.bitmap.getLsbD n then
      let (y, lost) := noteSession n count tick x
      let due := lost && (match x.lastOverflow with
        | some t => decide (t + 4000 ≤ tick)
        | none => true)
      ((if due then { y with lastOverflow := some tick } else y) :: ys, due || d)
    else (x :: ys, d)

/-- One occurrence of event `n` recorded and queued for the sessions that want it. -/
def raiseOne (n : Nat) (s : State) : State × Bool :=
  let evt := evtOccur n s.tick s.evt
  let notes := if evt.unmasked n then noteSessions n (spGet 0 n evt.counts) s.tick s.dict.sessions else (s.dict.sessions, false)
  ({ s with evt := evt, dict := { s.dict with sessions := notes.1 } }, notes.2)

/-- An occurrence of event `n`. -/
def raise (n : Nat) (s : State) : State :=
  let p := raiseOne n s
  if p.2 then (raiseOne 245 p.1).1 else p.1

/-- Occurrences in order. -/
def raiseAll (ns : List Nat) (s : State) : State := ns.foldl (fun s n => raise n s) s

/-! ### What the blocks are given, and their work put back -/

/-- For the field controller. -/
def State.fenv (s : State) : FEnv := { tick := s.tick, mode := s.sys.mode, par := s.par }

/-- For the Efavo link. -/
def State.eenv (s : State) : EfEnv := { tick := s.tick, mode := s.sys.mode, par := s.par, uid := s.ident.uniqueId }

/-- For the CAN controllers. -/
def State.cenv (s : State) : CEnv :=
  { tick := s.tick, mode := s.sys.mode, par := s.par, configured := parConfigured s.params,
    cont := match s.pair.contUntil with
      | some t => decide (s.tick < t)
      | none => false }

/-- For the safety function unit: the field record of the tick is the copy that stands in its image (R305, R346). -/
def State.senv (s : State) : SfEnv :=
  { tick := s.tick, img := s.img, inSvc := s.fio.record.inSvc, outOk := s.fio.record.outOk, demands := s.outs.demands,
    recordAll := s.par 0x5001 2 == 1 }

/-- Number of Green lanes: the voting capacity (R24). -/
def State.capacity (s : State) : Nat := s.lanes.count (fun l => l.colour == .green)

/-- A pair member (R475). -/
def State.member (s : State) : Bool := s.par 0x8010 1 == 1

/-- Comms region lost (R25). -/
def State.commsLost (s : State) : Bool :=
  (s.efl.ports.all (fun p => p.retired) && s.can.ctls.all (fun c => c.state == .retired)) ||
    s.pwr.lost.testBit 4

/-- The holder sees a synchronised standby (R502, R512). -/
def State.partnerReady (s : State) : Bool := s.pair.linkUp && s.pair.partnerMode == 4 && s.pair.partnerSync

/-- A hand-over is taken up, as mode request 4 is (R25, R512, R659). -/
def takeHandOver (s : State) : State := { s with pair := { s.pair with handOver := true } }

/-- After work on the Comms region: its loss in RUN hands over when 0x2010:01 is 1 and the partner is synchronised (R25). -/
def afterComms (before : Bool) (s : State) : State :=
  if !before && s.commsLost && s.sys.mode == .run && s.par 0x2010 1 == 1 && s.partnerReady then takeHandOver s else s

/-- Work of the field controller. -/
def doField (f : FEnv → FWork → FWork) (s : State) : State :=
  let w := f s.fenv { f := s.fio }
  raiseAll w.ev { s with fio := w.f }

/-- The reference that R71 gives: link time while locked as a follower, a valid station input, the own oscillator. -/
def State.refNow (s : State) : TimeRef :=
  let efavo := s.efl.lock == .locked && !s.efl.master
  let station := s.pwr.station.valid
  if s.frame.refOrder = 0 then .own
  else if s.frame.refOrder = 1 then (if efavo then .efavo else if station then .station else .own)
  else if station then .station
  else if efavo then .efavo
  else .own

/-- The reference in use follows R71; every reference lost is holdover with event 23 (R74), one in use again is event 24. -/
def trackRef (s : State) : State :=
  let new := s.refNow
  let old := s.frame.ref
  if new = old then s
  else
    let s := { s with frame := { s.frame with ref := new, holdover := new == .own && s.frame.refOrder != 0 } }
    if new = .own then (if s.frame.refOrder = 0 then s else raise 23 s)
    else if old = .own then raise 24 s
    else s

/-- Work of the Efavo link. -/
def doEfl (f : EfEnv → EWork → EWork) (s : State) : State :=
  let lost := s.commsLost
  let w := f s.eenv { e := s.efl }
  let s := { s with efl := w.e, totals := { s.totals with efavo := add32 s.totals.efavo w.counted } }
  trackRef (afterComms lost (raiseAll w.ev (w.tx.foldl (fun s t => emit (.efavo t) s) s)))

/-- Work of the CAN controllers. -/
def doCan (f : CEnv → CWork → CWork) (s : State) : State :=
  let lost := s.commsLost
  let w := f s.cenv { c := s.can }
  let s := { s with can := w.c, totals := { s.totals with can := add32 s.totals.can w.counted } }
  afterComms lost (raiseAll w.ev (w.tx.foldl (fun s t => emit (.can t) s) s))

/-- Work of the pair interface that raises events. -/
def doPair (f : Pair → Pair × List Nat) (s : State) : State :=
  let (p, ev) := f s.pair
  raiseAll ev { s with pair := p }

/-! ### SAFE triggers (R49, R50, R53, R92) -/

/-- A SAFE trigger, with the number of the event that causes it. It is taken at the next output commit in RUN and at the next tick in
CONFIGURE and STANDBY; the first of several is the cause. -/
def safeTrigger (cause : Nat) (s : State) : State :=
  match s.sys.mode with
  | .run | .configure | .standby =>
    if s.sys.safePend.isSome then s else { s with sys := { s.sys with safePend := some cause } }
  | .boot | .recovery | .safe => s

/-! ### Long operations -/

/-- A running or suspended long operation ended with a state and a result (R60). -/
def LongOp.finish (st : LopState) (result : Nat) (o : LongOp) : LongOp := { o with state := st, result := result }

/-- Running or Suspended. -/
def LongOp.live (o : LongOp) : Bool := o.state == .running || o.state == .suspended

/-- Table load and checkpoint transfer cancelled by the entry to SAFE (R64). -/
def safeLongOps (l : LongOps) : LongOps :=
  let stop (o : LongOp) : LongOp := if o.live then o.finish .cancelled 0x0203 else o
  { l with tableLoad := stop l.tableLoad, checkpoint := stop l.checkpoint }

/-- The pair block is lost or its link is down (R25, R493, R503): no partner is known; event 218, and a checkpoint transfer fails. -/
def pairBlockLost (s : State) : State :=
  let up := s.pair.linkUp
  let s := { s with
    pair := { s.pair with linkUp := false, partner := none, partnerMode := 0, partnerSync := false, incompatible := false, samples := [] },
    lops := if s.lops.checkpoint.live then { s.lops with checkpoint := s.lops.checkpoint.finish .failed 0x0230 } else s.lops }
  if up then raise 218 s else s

/-! ### Run-ahead and on-line change -/

/-- The shadow bank emptied, with event 73 (R279). -/
def cancelSpeculation (s : State) : State :=
  raise 73 { s with ite := { s.ite with shadow := [], raDone := true, specCan := satAdd 0xFFFFFFFF s.ite.specCan 1 } }

/-- An on-line change in Preparing, Ready or Waiting. -/
def ChangeState.pending : ChangeState → Bool
  | .preparing | .ready | .waiting => true
  | .none | .applied | .cancelled | .refused => false

/-- A change in states 1 to 3 cancelled with a result (R617, R620); loading that ran stops at the next tick (R633). -/
def cancelChange (result : Nat) (s : State) : State :=
  if s.upd.change.state.pending then
    { s with upd := { s.upd with change :=
      { s.upd.change with state := .cancelled, result := result, cand := none, logged := false, due := false,
                          stopping := s.upd.change.state == .preparing } } }
  else s

/-! ### The Flint line (R487 to R491) -/

/-- Every switch opened by the field controller. -/
def openSwitches (s : State) : State :=
  let s := doField (fun env w => openAll env.tick w) s
  { s with fio := { s.fio with blank := true, blankUntil := if s.sys.mode == .run then s.fio.blankUntil else 0 },
           pair := { s.pair with outputHold := none } }

/-- The hold code stops (R477): the line is released, with event 222. -/
def stopHold (s : State) : State :=
  if s.pair.hold then raise 222 { s with pair := { s.pair with hold := false, handOver := false } } else s

/-- A release with output hold and telegram continuation (R487 to R490). An alone module does neither, a member at position 0 makes
no output hold. -/
def releaseHeld (s : State) : State :=
  if !s.pair.hold then openSwitches s
  else
    let h := s.par 0x8011 1 * 4
    let p0 := s.pair.position == 0
    let s := stopHold s
    if !s.member then openSwitches s
    else
      let s := { s with pair := { s.pair with contUntil := some (s.tick + 2 * s.frame.k) } }
      if p0 || h == 0 then openSwitches s
      else
        { s with
          pair := { s.pair with outputHold := some (s.tick + h) },
          fio := { s.fio with blank := true, blankUntil := s.tick + h + 1 } }

/-- A release with outputs off at once and telegrams stopped (R487). -/
def releaseOff (s : State) : State :=
  let s := openSwitches (stopHold s)
  { s with pair := { s.pair with contUntil := none } }

/-! ### Mode entry -/

/-- Every gate closed (R149, R151). -/
def closeGates (s : State) : State :=
  { s with lanes := s.lanes.mapWith (fun _ l => { l with gateOpen := false, gateNext := false }) }

/-- A re-admission in progress ends; its lane stays Amber (R158). -/
def endReadmission (s : State) : State :=
  { s with voter := { s.voter with radmLane := none, radmStep := .none, rcopy := 0, trialBad := false } }

/-- What leaving RUN ends: requests and queues of the route engine (R235), waiting element commands, the overrun, the open cycle,
and application DMA channels (R579). -/
def leaveRun (s : State) : State :=
  let ite := s.ite
  let stop (id : LaneId) (l : Lane) : Lane :=
    (stopAppChannels { id, lane := l, fw := s.fw, run := false, tick := s.tick, free := s.freeCtr, rd := fun _ => 0 }).lane
  { s with
    ite := { ite with cancelQ := [], setQ := [], cmds := [], lockReqs := [], dictBusy := false, cmdBusy := false, shadow := [] },
    frame := { s.frame with overrun := 0, cycleOpen := false, vitalDue := false, passDue := false },
    vitW := s.vit, sfuW := s.sfu,
    lanes := s.lanes.mapWith stop }

/-- Cancelled transmit requests are taken as pending frames where the command gives no stage. -/
abbrev CanStages := List (Nat × Nat × CanStage)

/-- Entry to a mode: event 29, speculation cancelled (R279), a change in states 1 to 3 cancelled (R620), re-admission ended (R158), and
the CAN controllers of R443. -/
def enterMode (stages : CanStages) (m : Mode) (s : State) : State :=
  let old := s.sys.mode
  let s := if old == .run && m != .run then leaveRun s else s
  let s := { s with sys := { s.sys with mode := m } }
  let s := endReadmission (cancelChange 0x0203 (cancelSpeculation s))
  let s := raise 29 s
  doCan (fun env w => (rangeFrom 0 4).foldl (fun w n => canMode env stages old n w) w) s

/-- Entry to SAFE with its cause (R49, R50, R64): event 30. How the outputs and the line go is the release that the caller makes. -/
def enterSafe (stages : CanStages) (cause : Nat) (s : State) : State :=
  let s := enterMode stages .safe s
  raise 30
    { s with
      sys := { s.sys with safeCause := cause, safePend := none, toConfigure := false, toStandby := false },
      lops := safeLongOps s.lops,
      pair := { s.pair with starting := false, handOver := false, claiming := false, listening := none } }

/-- The causes of SAFE that release the line with an output hold and telegram continuation (R487): voting capacity below two (60),
no majority (43, 44), 2oo2 disagreement (45), and the overrun limits (47). -/
def heldCause (cause : Nat) : Bool := cause == 60 || cause == 43 || cause == 44 || cause == 45 || cause == 47

/-- Entry to SAFE with the release of R487. -/
def goSafe (stages : CanStages) (cause : Nat) (s : State) : State :=
  let wasRun := s.sys.mode == .run
  let s := enterSafe stages cause s
  let s := closeGates s
  if wasRun && heldCause cause then releaseHeld s else releaseOff s

end Sys2Proof.Machine
end

