-- ==== Sys2Proof/Machine/Memory.lean ====
section
/-!
DEFINITION. Lane memory as a lane's masters see it (01, 02, 04, 06), the state set of R152 in its lines, and a snapshot read back
from received lines (R117, R510).
-/
namespace Sys2Proof.Machine

/-- Start of the areas of 04_station_element_model.md. -/
def lockArea : Nat := 0x0097C000
/-- Route state records. -/
def routeArea : Nat := 0x00980000
/-- Element records. -/
def elemArea : Nat := 0x00A00000
/-- The runtime state reserve of R175, which the model places at the start of the runtime range of R100. -/
def reserveArea : Nat := 0x00E00000
/-- The context block (R113). -/
def contextArea : Nat := 0x00FFF000

/-- State block address of each instance: ADDR of the KIND 4 symbol that it names (R294). -/
def blockAddrs (insts : List (Nat × SfInst)) (syms : List Symbol) : List (Nat × Nat) :=
  insts.filterMap (fun p => (syms.find? (fun y => y.kind == 4 && y.id == p.2.symId)).map (fun y => (p.1, y.addr)))

/-- Symbols of the application in force. -/
def State.symbols (s : State) : List Symbol := match s.upd.app with
  | some a => a.symbols
  | none => []

/-- Addresses of the state blocks in force. -/
def State.blocks (s : State) : List (Nat × Nat) := blockAddrs s.sfu.insts s.symbols

/-- Byte `i` of a paired word as memory holds it (R9). -/
def pairByte (v i : Nat) : Byte := BitVec.ofNat 8 (pairWord v / 2 ^ (8 * i))

/-- Byte `o` of a sequence of paired words. -/
def wordsByte (ws : List Nat) (o : Nat) : Byte := pairByte (nth 0 (o / 8) ws) (o % 8)

/-- Value half of word `j` of the lock bitset (R181). -/
def lockWord (v : Vital) (j : Nat) : Nat := (lockBitset v >>> (32 * j)) % 2 ^ 32

/-- Value halves of the context block's paired words (02). -/
def contextWords (c : Context) : List Nat :=
  [c.tick % 2 ^ 32, c.tick / 2 ^ 32, c.cycle % 2 ^ 32, c.cycle / 2 ^ 32, c.flags, c.mode]

/-- The byte of the state set, or of plain lane memory, at an address of a snapshot. -/
def snapByte (blocks : List (Nat × Nat)) (o : OwnSnap) (a : Nat) : Byte :=
  if lockArea ≤ a ∧ a < routeArea then pairByte (lockWord o.vital ((a - lockArea) / 8)) (a % 8)
  else if routeArea ≤ a ∧ a < elemArea then wordsByte (routeWords (routeOf o.vital ((a - routeArea) / 32))) (a % 32)
  else if elemArea ≤ a ∧ a < reserveArea then wordsByte (elemWords (elemOf o.vital ((a - elemArea) / 64))) (a % 64)
  else if reserveArea ≤ a ∧ a < reserveArea + 192 then
    BitVec.ofNat 8 (nth 0 ((a - reserveArea) / 8) o.words / 2 ^ (8 * (a % 8)))
  else if reserveArea + 192 ≤ a ∧ a < reserveArea + 262144 then pairByte (Config.reserveWord o.cycle (a / 8) % 2 ^ 32) (a % 8)
  else match blocks.find? (fun b => decide (b.2 ≤ a) && decide (a < b.2 + 64)) with
    | some b => wordsByte (sfWords (sfOf o.sfu b.1)) (a - b.2)
    | none => spGet 0 a o.mem

/-- The committed state as a snapshot shows it. -/
def State.snap (s : State) (ident : List Nat) (sessions : List SessionRec) : OwnSnap :=
  let green : Option LaneId := laneIds.find? (fun l => (s.lanes.get l).colour == .green)
  let mem : List (Nat × BitVec 8) := match green with
    | some l => (s.lanes.get l).mem
    | none => []
  { cycle := s.frame.cycle, stamp := s.tick, ident, vital := s.vit, sfu := s.sfu, words := s.outs.words, mem, sessions }

/-- A byte of the memory of one lane (R41): the areas that the model keeps as records, the context block, and plain memory, in which a
byte that nothing has written reads 0. -/
def laneByte (s : State) (l : LaneId) (a : Nat) : Byte :=
  if contextArea ≤ a ∧ a < contextArea + 0x1000 then
    let o := a - contextArea
    if o < 0x30 then wordsByte (contextWords s.frame.ctx) o
    else if o < 0x50 then BitVec.ofNat 8 (s.evt.frozen.toNat / 2 ^ (8 * (o - 0x30)))
    else 0
  else
    snapByte s.blocks
      { cycle := s.frame.cycle, stamp := s.tick, ident := [], vital := s.vit, sfu := s.sfu, words := s.outs.words,
        mem := (s.lanes.get l).mem, sessions := [] } a

/-! ### Lines of the state set (R152, R175, R495) -/

/-- Sections of an image that belong to the state set: loaded and PAIRED. -/
def pairedSections (a : App) : List Section := a.sections.filter (fun x => x.paired && decide (1 ≤ x.typ) && decide (x.typ ≤ 5))

/-- First line and number of lines of each region of the state set, in ascending lane address. -/
def stateRegions (app : Option App) : List (Nat × Nat) :=
  let secs : List (Nat × Nat) := match app with
    | some a => (pairedSections a).map (fun x => (x.load / 64, (x.length + 63) / 64))
    | none => []
  let fixed := [(lockArea / 64, 256), (routeArea / 64, 8192), (elemArea / 64, 65536), (reserveArea / 64, 4096)]
  let insert (r : Nat × Nat) (l : List (Nat × Nat)) : List (Nat × Nat) := l.takeWhile (fun x => x.1 < r.1) ++ r :: l.dropWhile (fun x => x.1 < r.1)
  secs.foldr insert fixed

/-- State set size in lines (VOTE.STSIZE). -/
def stateLines (app : Option App) : Nat := (stateRegions app).foldl (fun n r => n + r.2) 0

/-- Lane address of line number `n`. -/
def lineAddr : List (Nat × Nat) → Nat → Nat
  | [], _ => 0
  | (b, c) :: rest, n => if n < c then (b + n) * 64 else lineAddr rest (n - c)

/-- Line number of a lane address that lies in the state set. -/
def addrLine : List (Nat × Nat) → Nat → Option Nat
  | [], _ => none
  | (b, c) :: rest, a => if b ≤ a / 64 ∧ a / 64 < b + c then some (a / 64 - b) else (addrLine rest a).map (· + c)

/-- The 64 bytes of line `n` of a snapshot. -/
def snapLine (regions blocks : List (Nat × Nat)) (o : OwnSnap) (n : Nat) : List Byte :=
  let a := lineAddr regions n
  (rangeFrom a 64).map (snapByte blocks o)

/-- Addresses of the lines in which two snapshots differ, the reserve beyond the output image left out. -/
def changedAddrs (blocks : List (Nat × Nat)) (x y : OwnSnap) : List Nat :=
  let elems := (((x.vital.elems ++ y.vital.elems).map (·.1)).filter (fun e => elemWords (elemOf x.vital e) != elemWords (elemOf y.vital e))).map
    (fun e => elemArea + 64 * e)
  let routes := (((x.vital.routes ++ y.vital.routes).map (·.1)).filter (fun r =>
    routeWords (routeOf x.vital r) != routeWords (routeOf y.vital r))).map (fun r => routeArea + 32 * r)
  let delta := lockBitset x.vital ^^^ lockBitset y.vital
  let locks := ((rangeFrom 0 256).filter (fun j => (delta >>> (256 * j)) % 2 ^ 256 ≠ 0)).map (fun j => lockArea + 64 * j)
  let outs := ((rangeFrom 0 24).filter (fun i => nth 0 i x.words != nth 0 i y.words)).map (fun i => reserveArea + 8 * i)
  let sf := (blocks.filter (fun b => sfWords (sfOf x.sfu b.1) != sfWords (sfOf y.sfu b.1))).map (·.2)
  let mem := ((x.mem ++ y.mem).map (·.1)).filter (fun a => spGet 0 a x.mem != spGet 0 a y.mem)
  locks ++ routes ++ elems ++ outs ++ sf ++ mem

/-- Line numbers that a commit from `x` to `y` changed. -/
def changedLines (regions blocks : List (Nat × Nat)) (x y : OwnSnap) : List Nat :=
  ((changedAddrs blocks x y).filterMap (addrLine regions)).eraseDups

/-! ### A snapshot read back from received lines -/

/-- A state block from its eight words (R294); marks that no word holds take their start values. -/
def readBlock (ws : List Nat) : SfState :=
  let v (i : Nat) : Nat := pairVal (nth 0 i ws)
  let f (i : Nat) : Filter := { st := (v 1).testBit i, run := 0, fresh := false }
  { state := bits 7 0 (v 0), fault := bits 15 8 (v 0), permit := (v 0).testBit 16, req := (v 0).testBit 17, muted := (v 0).testBit 18,
    d := { run := (v 0).testBit 19, t := v 2 }, p := { run := (v 0).testBit 20, t := v 3 }, f1 := { run := (v 0).testBit 21, t := v 4 },
    f2 := { run := (v 0).testBit 22, t := v 5 }, stamp := v 6, stampFull := v 6, aux := v 7,
    c1 := f 0, c2 := f 1, c3 := f 2, c4 := f 3, b1 := f 4, b2 := f 5, svc := bits 11 6 (v 1) }

/-- Every paired word of a list of bytes holds. -/
def pairsHold (bs : List Byte) : Bool := (chunks 8 bs).all (fun w => pairOk (leNat w))

/-- The lines of the snapshot that a store of received records holds, with its last cycle, stamp and identity. -/
structure LineSnap where
  cycle : Nat
  stamp : Nat
  ident : List Nat
  lines : List (Nat × List Byte)

/-- The snapshot of R116 in the store. -/
def lineSnap (s : Shale) : Option LineSnap := match snapshotOf s with
  | some p => some { cycle := (snapshotEnd p).1, stamp := (snapshotEnd p).2, ident := p.1.ident, lines := snapshotLines p.1 p.2 }
  | none => none

/-- The bytes of a line as received, by its number. -/
def LineSnap.line (x : LineSnap) (n : Nat) : List Byte := spGet (zeros 64) n x.lines

/-- A received snapshot as state, for the set in force; none when a pair is broken (R117). -/
def readSnap (app : Option App) (ts : TableSet) (sfu : Sfu) (syms : List Symbol) (sessions : List SessionRec) (x : LineSnap) :
    Option OwnSnap :=
  let regions := stateRegions app
  let at_ (a : Nat) : List Byte := match addrLine regions a with
    | some n => x.line n
    | none => []
  let elems := ts.elems.filterMap (fun p => (readElem (at_ (elemArea + 64 * p.1))).map (fun e => (p.1, e)))
  let routes := ts.routes.filterMap (fun p =>
    (readRoute (slice (32 * (p.1 % 2)) 32 (at_ (routeArea + 32 * p.1)))).map (fun r => (p.1, r)))
  let secs : List Section := match app with
    | some a => pairedSections a
    | none => []
  let byte (a : Nat) : Byte := nth 0 (a % 64) (at_ a)
  let mem := secs.flatMap (fun c => (rangeFrom c.load c.length).map (fun a => (a, byte a)))
  let blocks := blockAddrs sfu.insts syms
  let states := blocks.map (fun b => (b.1, readBlock ((rangeFrom 0 8).map (fun i => leNat ((rangeFrom (b.2 + 8 * i) 8).map byte)))))
  let words := (rangeFrom 0 24).map (fun i => leNat (slice (8 * (i % 8)) 8 (at_ (reserveArea + 8 * i))))
  if elems.length < ts.elems.length ∨ routes.length < ts.routes.length ∨ !pairsHold (mem.map (·.2)) ∨ !words.all pairOk then none
  else
    some
      { cycle := x.cycle, stamp := x.stamp, ident := x.ident,
        vital :=
          { elems, routes := routes.filter (fun r => decide (r.2 ≠ {})),
            restartRun := elems.any (fun e => e.2.lock.testBit lockRESTART), restartTicks := Config.reserveWord x.cycle 0 % 2 ^ 32 },
        sfu := { sfu with states }, words, mem := mem.foldl (fun l p => spSet 0 p.1 p.2 l) [], sessions }

end Sys2Proof.Machine
end

