-- ==== Sys2Proof/Machine/Lanes.lean ====
section
/-!
DEFINITION. Lanes and Garnet (03_triple_lane_voting.md): lane faults and lane states, signatures, the compares, re-admission, the
comparator self-test, lane power-down and region reset; the pair identity of the module (10).
-/
namespace Sys2Proof.Machine

/-! ### Identity -/

/-- Low and high word of a 64-bit value. -/
def words64 (v : Nat) : List Nat := [v % 2 ^ 32, v / 2 ^ 32 % 2 ^ 32]

/-- The active table set; empty where the set holds none. -/
def State.tables (s : State) : TableSet :=
  ((if s.ite.activeBank = 0 then s.ite.bank0 else s.ite.bank1).getD {})

/-- Value halves of the identity block's sixteen words (R495). -/
def State.identBlock (s : State) : List Nat :=
  let app : App := s.upd.app.getD {}
  let ts := s.tables
  let keys := (if s.ident.development then 2 else 1) + s.pair.position * 256
  let sched : Nat := match s.efl.sched with
    | some t => t.version
    | none => 0
  [keys, app.version] ++ words64 app.crc ++ [ts.version] ++ words64 ts.crc ++ [s.sfu.version] ++ words64 s.sfu.crc ++
    [sched, s.frame.k + s.par 0x8011 1 * 2 ^ 16, s.par 0x8012 1] ++ words64 (s.ident.uniqueId % 2 ^ 48) ++ [0]

/-- What the judgement of R502 needs. -/
def State.syncEnv (s : State) : SyncEnv :=
  { standby := s.sys.mode == .standby, member := s.member, position := s.pair.position, ident := s.identBlock,
    greens := s.capacity, holderCycle := s.pair.holderCycle }

/-- The cause in 0x8000:04 (R502): the standby judges by itself; a module that holds the line sees what its partner reports. -/
def State.pairCause (s : State) : Nat :=
  if s.sys.mode == .run then
    (if !s.pair.linkUp then 0x0230
     else if s.pair.incompatible then 0x0231
     else match s.pair.partner with
       | none => 0x0230
       | some w =>
         if identWords 1 10 w ≠ identWords 1 10 s.identBlock then 0x0702
         else if identWords 11 2 w ≠ identWords 11 2 s.identBlock then 0x0232
         else if s.pair.partnerMode ≠ 4 then 0x0236
         else if s.pair.partnerSync then 0
         else if s.pair.partnerDelta = 0 then 0x0233 else 0x0234)
  else syncCause s.syncEnv s.pair

/-! ### Lane faults (R56, R57, R129, R130) -/

/-- One lane changed. -/
def modLane (l : LaneId) (f : Lane → Lane) (s : State) : State := { s with lanes := s.lanes.mod l f }

/-- One lane. -/
def State.lane (s : State) (l : LaneId) : Lane := s.lanes.get l

/-- The window of lane faults in ticks (R667). -/
def State.laneSpan (s : State) : Nat := s.par 0x3010 2 * s.frame.k

/-- A counted occurrence in a lane's window: the newest N stamps, and whether it is the N-th within W (R56, R667). -/
def countOccurrence (n span tick : Nat) (l : List Nat) : List Nat × Bool :=
  let l := lastN n (l ++ [tick])
  (l, n ≤ l.length && decide (tick - l.headD tick < span))

/-- A counted fault of a lane, detected now (R20, R57): its state changes at phase 3 (R129). An Amber lane goes Slate (R55). In BOOT
it fails the start test (R129); in SAFE and RECOVERY lane states are not judged. -/
def laneFault (l : LaneId) (s : State) : State :=
  match s.sys.mode with
  | .boot => modLane l (fun x => { x with bootFail := true }) s
  | .recovery | .safe => s
  | .configure | .standby | .run =>
    let x := s.lane l
    match x.colour with
    | .slate => s
    | .amber => modLane l (fun x => { x with pend := some .slate }) s
    | .green =>
      let (faults, perm) := countOccurrence (s.par 0x3010 1) s.laneSpan s.tick x.faults
      let s := { s with totals := { s.totals with lanes := add32 s.totals.lanes 1 } }
      modLane l (fun x => { x with faults := faults, pend := if perm || x.pend == some .slate then some .slate else some .counted }) s

/-- A permanent loss of a lane that is not counted: a frozen master, a failed domain, a power-down (R129). -/
def laneLost (l : LaneId) (s : State) : State :=
  match s.sys.mode with
  | .boot => modLane l (fun x => { x with bootFail := true }) s
  | .recovery | .safe => s
  | .configure | .standby | .run => modLane l (fun x => if x.colour == .slate then x else { x with pend := some .slate }) s

/-- DMA channels and check units of a lane halted (R155). -/
def haltLane (l : LaneId) (s : State) : State :=
  let halt (x : Lane) : Lane :=
    (stopAllChannels { id := l, lane := x, fw := s.fw, run := false, tick := s.tick, free := s.freeCtr, rd := fun _ => 0 }).lane
  modLane l halt s

/-- A lane leaves Green or Amber (R129, R130): its gate closes, its events, 2oo2 (R131), and SAFE below two Green lanes (R24). -/
def laneDown (l : LaneId) (slate : Bool) (s : State) : State :=
  let old := (s.lane l).colour
  let s := modLane l (fun x => { x with pend := none }) s
  if old == .slate then s
  else
    let s := modLane l (fun x => { x with colour := if slate then .slate else .amber, gateOpen := false, gateNext := false }) s
    let s := if old == .amber && !slate then s else raise ((if slate then 35 else 32) + l.num) s
    let s := if slate then haltLane l s else s
    let s := if s.voter.radmLane == some l then endReadmission s else s
    if old == .amber then s
    else
      let s := cancelChange 0x0203 s
      if s.capacity = 2 then
        let s := raise 59 { s with voter := { s.voter with dual := true } }
        if slate || s.sys.mode == .boot then s
        else { s with voter := { s.voter with radmLane := some l, radmStep := .none, amberCycle := s.frame.cycle, rcopy := 0, trialBad := false } }
      else safeTrigger 60 (raise 60 { s with voter := { s.voter with dual := false } })

/-- Pending changes of lane states taken at phase 3 (R129), but in SAFE, where no lane state changes (R145). -/
def takeLanes (s : State) : State :=
  if s.sys.mode == .safe then s
  else
    laneIds.foldl (fun s l => match (s.lane l).pend with
      | none => s
      | some .counted => laneDown l false s
      | some .slate => laneDown l true s) s

/-- An Amber lane turns Green (R155 step 6): its gate opens in the next tick (R149). -/
def laneGreen (l : LaneId) (s : State) : State :=
  let s := modLane l (fun x => { x with colour := .green, gateNext := true, pend := none }) s
  let s := endReadmission (raise (38 + l.num) s)
  if s.capacity = 3 then { s with voter := { s.voter with dual := false } } else s

/-! ### Signatures (R132 to R139) -/

/-- A record of R133, most significant byte first. -/
def sigRecord (tag addr data : Nat) : List Byte := toBE 1 tag ++ zeros 2 ++ toBE 5 addr ++ toBE 8 data

/-- A record fed into a CRC register of R132. -/
def sigFeed (reg tag addr data : Nat) : Nat := (sigRecord tag addr data).foldl (crcFeed .crc64) reg

/-- A record fed into an accumulator. -/
def Acc.feed (tag addr data : Nat) (a : Acc) : Acc := { crc := sigFeed a.crc tag addr data, count := a.count + 1 }

/-- Writes fed into an accumulator in their order. -/
def Acc.feedAll (tag : Nat) (ws : List (Nat × Nat)) (a : Acc) : Acc := ws.foldl (fun a w => a.feed tag w.1 w.2) a

/-- A window register closed over its three records (R138, R139). -/
def closeWindow (tag number : Nat) (x y : Acc) : Nat :=
  let r := sigFeed (crcInit .crc64) tag 0 number
  let r := sigFeed r (tag + 1) (x.count % 2 ^ 40) x.crc
  sigFeed r (tag + 2) (y.count % 2 ^ 40) y.crc

/-- Accumulator O of a lane (R134, R135): channels, groups, transmit fields in ascending address, the enable vector. -/
def outputAcc (words rets : List Nat) (fields : List (Nat × Nat)) (vector : Nat) : Acc :=
  let a := ((rangeFrom 0 24).map (fun c => (c, nth 0 c words))).foldl (fun (a : Acc) w => a.feed 0x30 w.1 w.2) ({} : Acc)
  let a := ((rangeFrom 0 6).map (fun g => (g, nth 0 g rets))).foldl (fun (a : Acc) w => a.feed 0x31 w.1 w.2) a
  (a.feedAll 0x32 fields).feed 0x33 0 vector

/-! ### The compares (R140 to R145) -/

/-- Outcome of a compare: RESULT code of VOTE.RESULT, lanes that differ or are absent, and the majority signature. -/
structure Compare where
  code : Nat
  bad : List LaneId := []
  sig : Option Nat := none

/-- Lanes of the list whose signature is not `v`. -/
def notEqual (sigs : List (LaneId × Option Nat)) (v : Nat) : List LaneId :=
  (sigs.filter (fun p => p.2 != some v)).map (·.1)

/-- The compare of the Green lanes' signatures (R141, R142); code 0 with fewer than two lanes. -/
def compareSigs (sigs : List (LaneId × Option Nat)) : Compare :=
  let all := sigs.map (·.1)
  let majority : Option Nat := (sigs.filterMap (·.2)).find? (fun v => (notEqual sigs v).length + 2 ≤ sigs.length)
  match majority, sigs.length with
  | some v, 3 => let bad := notEqual sigs v; { code := if bad.isEmpty then 1 else 2, bad, sig := some v }
  | some v, 2 => { code := 3, sig := some v }
  | none, 3 => { code := 4, bad := all }
  | none, 2 => { code := 5, bad := all }
  | _, _ => { code := 0 }

/-- Bits of lanes C, B, A as VOTE.RESULT shows them. -/
def laneBits (ls : List LaneId) : Nat := bitsOf (fun i => ls.any (fun l => l.num == i)) [0, 1, 2]

/-- Disagreement counters of R145. -/
def countDisagreements (ls : List LaneId) (s : State) : State :=
  ls.foldl (fun s l => modLane l (fun x => { x with disagreements := add32 x.disagreements 1 }) s) s

/-- Lanes that take part in a compare: the Green ones. -/
def State.greens (s : State) : List LaneId := laneIds.filter (fun l => (s.lane l).colour == .green)

/-- Reactions to a compare: counters, events, the minority lane's fault, SAFE without a majority (R141, R142). A lane whose fault of the
tick is already counted (R79) is not counted again. `one`, `none3`: events of a minority and of no majority. -/
def afterCompare (one none3 : Nat) (c : Compare) (s : State) : State :=
  let s := countDisagreements c.bad s
  match c.code with
  | 2 =>
    let s := cancelSpeculation (raise one s)
    c.bad.foldl (fun s l => if (s.lane l).pend.isSome then s else laneFault l s) s
  | 4 => safeTrigger none3 (cancelSpeculation (raise none3 s))
  | 5 => if s.sys.mode == .safe then s else safeTrigger 45 (cancelSpeculation (raise 45 s))
  | _ => s

/-- An Amber lane in its trial, or in the matching ticks of R162, compared with the majority (R155 step 5, R158). -/
def compareTrial (l : LaneId) (got : Option Nat) (c : Compare) (s : State) : State :=
  match c.sig with
  | none => s
  | some v =>
    if got = some v then s
    else countDisagreements [l] (laneFault l { s with voter := { s.voter with trialBad := true } })

/-! ### Self-test (R167 to R172) -/

/-- Number of injections. -/
def injections : Nat := 441

/-- A self-test starts (R169, R172). -/
def startSelfTest (s : State) : State :=
  { s with voter := { s.voter with stRunning := true, stFail := false, stDone := 0, stStart := s.tick } }

/-- A self-test completes without a miss (event 55). -/
def selfTestPassed (s : State) : State :=
  raise 55
    { s with voter :=
      { s.voter with stRunning := false, stResult := 0, stLastStart := s.voter.stStart, stCompleted := add32 s.voter.stCompleted 1 } }

/-- An injection is missed (R170): a loss of the Vote region. -/
def selfTestMissed (index : Nat) (s : State) : State :=
  let v := s.voter
  raise 56
    { s with voter :=
      { v with
        stRunning := false, stFail := true, lost := true, stResult := 1 + index,
        stMissValid := true, stMissIndex := if v.stMissValid then v.stMissIndex else index } }

/-- Whether the self-test period has elapsed since the start of the last completed self-test (R169). -/
def State.selfTestDue (s : State) : Bool :=
  !s.voter.stRunning && !s.voter.lost && decide (s.voter.stLastStart + s.par 0x3030 1 * 14400000 ≤ s.tick)

/-! ### Lane start, region reset and re-admission -/

/-- A lane as BOOT or a region reset leaves it: memory loaded, engines idle. -/
def freshLane (mem : List (Nat × BitVec 8)) (x : Lane) : Lane :=
  { ({} : Lane) with
    colour := x.colour, powered := x.powered, faults := x.faults, disagreements := x.disagreements, corrected := x.corrected, mem := mem,
    dma := x.dma.map resetChannel,
    chk := x.chk.map (fun u => { ({} : ChkUnit) with checks := u.checks, mismatches := u.mismatches }) }

/-- Memory of a lane with an image's sections at their load addresses; WORK sections are zero (R99). -/
def loadSections (secs : List Section) (mem : List (Nat × BitVec 8)) : List (Nat × BitVec 8) :=
  secs.foldl (fun m c =>
    if c.typ < 1 ∨ 5 < c.typ then m
    else (rangeFrom 0 c.length).foldl (fun m i => spSet 0 (c.load + i) (nth 0 i c.content) m) m) mem

/-- Memory of a lane right after its load (R161, R610). -/
def State.loadedMem (s : State) : List (Nat × BitVec 8) := match s.upd.app with
  | some a => loadSections a.sections []
  | none => []

end Sys2Proof.Machine
end

