-- ==== Sys2Proof/Machine/Registers.lean ====
section
/-!
DEFINITION. The register maps of the blocks (01, 03, 05, 07, 08, 09, 10, 12, 14): what a read gives. A lane reads a module-wide block
as it stood at the input latch of the tick (R43), and its own ITE, DMA and CHK as they stand.
-/
namespace Sys2Proof.Machine

/-- The signature that a lane shows; 0 when absent. -/
def shownSig (o : Option Nat) : Nat := o.getD 0

/-- Pair role of 0x8000:01. -/
def State.pairRole (s : State) : Nat :=
  if !s.member then 0 else if s.pair.hold then 1 else if s.sys.mode == .standby then 2 else 3

/-- A synchronised standby is present, or this module is one (0x8000:02). -/
def State.pairSync (s : State) : Bool := s.pairCause == 0

/-- The remove indicator (R660). A parameter or key write is one step, so none is in progress between steps. -/
def State.removeLit (s : State) : Bool :=
  !s.pair.hold && s.lops.download.state != .running && !s.upd.change.state.pending

/-- The module-wide blocks as they stand. -/
def State.blocksNow (s : State) : Frozen :=
  let view (l : Lane) : LaneView :=
    { colour := l.colour, gateOpen := l.gateOpen, gateFault := l.gateFault, fast := shownSig l.shownFast, vital := shownSig l.shownVital,
      lines := l.lines }
  { voter := s.voter, lanes := s.lanes.mapWith (fun _ l => view l), cycle := s.frame.cycle, mode := s.sys.mode, tick := s.tick,
    fio := s.fio, efl := s.efl, guardOn := slotTraffic s.eenv s.efl, can := s.can, pair := s.pair, pairRole := s.pairRole,
    pairCause := s.pairCause, pairSync := s.pairSync, pwr := s.pwr, remove := s.removeLit, ref := s.frame.ref, holdover := s.frame.holdover, evt := s.evt, fw := s.fw,
    rest := some (Latched.mk s.sys s.frame s.params s.lanes s.ite s.dict s.lops s.upd s.totals) }

/-- Half `h` (0 low, 1 high) of a 64-bit value. -/
def half (h v : Nat) : Nat := if h = 0 then v % 2 ^ 32 else v / 2 ^ 32 % 2 ^ 32

/-- The lanes as numbers of the three. -/
def triList {α : Type} (t : Tri α) : List α := [t.a, t.b, t.c]

/-- Lane state bits and capacity (VOTE.LSTATE). -/
def lstateWord (f : Frozen) : Nat :=
  f.lanes.a.colour.code + 4 * f.lanes.b.colour.code + 16 * f.lanes.c.colour.code + 64 * f.lanes.count (fun l => l.colour == .green) +
    bitIf 8 f.voter.dual + bitIf 9 (f.voter.radmStep == .trial)

/-- STEP of VOTE.RADM. -/
def RadmStep.code : RadmStep → Nat
  | .none => 0 | .quarantine => 1 | .copy => 3 | .waitJoin => 4 | .trial => 5 | .startTest => 0 | .matching => 0

/-- VOTE.RADM. -/
def radmWord (f : Frozen) : Nat := match f.voter.radmLane with
  | none => 0
  | some l => l.num + 1 + 4 * f.voter.radmStep.code + 256 * min 3 (f.cycle - f.voter.amberCycle)

/-- VOTE registers. -/
def voteReg (f : Frozen) (o : Nat) : Nat :=
  let v := f.voter
  let ls := triList f.lanes
  if o = 0x00 then 0x00010100
  else if o = 0x04 then v.win
  else if o = 0x08 then lstateWord f
  else if o = 0x0C then v.fres + 16 * v.vres + 256 * v.fdis + 2048 * v.vdis
  else if o = 0x10 then
    bitsOf (fun i => (nth {} i ls).gateOpen) [0, 1, 2] + 16 * bitsOf (fun i => (nth {} i ls).gateFault) [0, 1, 2]
  else if 0x20 ≤ o ∧ o < 0x38 then
    let x := nth {} ((o - 0x20) / 8) ls
    half ((o - 0x20) / 4 % 2) (if v.win = 0 then x.fast else x.vital)
  else if o = 0x38 ∨ o = 0x3C then half ((o - 0x38) / 4) (if v.win = 0 then v.fastWindow else v.vitalWindow)
  else if o = 0x40 then radmWord f
  else if o = 0x44 then v.rcopy
  else if o = 0x48 then v.stsize
  else if o = 0x50 then v.stDone + bitIf 30 v.stFail + bitIf 31 v.stRunning
  else if o = 0x54 then (if v.stMissValid then v.stMissIndex + 2 ^ 31 else 0)
  else if o = 0x60 ∨ o = 0x64 ∨ o = 0x68 then (nth {} ((o - 0x60) / 4) ls).lines
  else if o = 0x6C then v.enMaj
  else 0

/-- Routes not in RELEASED. -/
def activeRoutes (v : Vital) : Nat := (v.routes.filter (fun r => r.2.code != rsRELEASED)).length

/-- ITE registers of a lane; the route engines run alike (R278). A command is a whole step, so no pass is in progress between steps. -/
def iteReg (i : Ite) (v : Vital) (o : Nat) : Nat :=
  if o = 0x00 then 0x00020100
  else if o = 0x04 then boolNat i.raen
  else if o = 0x08 then i.shadow.length
  else if o = 0x0C then i.setQ.length + 2 ^ 16 * i.cancelQ.length
  else if o = 0x10 then i.served + 2 ^ 16 * i.servedSpec
  else if o = 0x14 then activeRoutes v
  else if o = 0x18 then i.passClk
  else if o = 0x1C then i.maxClk
  else if o = 0x20 then i.specOk
  else if o = 0x24 then i.specBad
  else if o = 0x28 then i.specCan
  else if o = 0x2C then i.maxWait
  else if o = 0x30 then
    (match i.lastHit with
      | some (list, route, slot) => slot + 2 ^ 16 * route + bitIf 30 list + 2 ^ 31
      | none => 0)
  else if 0x100 ≤ o ∧ o < 0x180 then (i.chgv >>> (8 * (o - 0x100))) % 2 ^ 32
  else if 0x180 ≤ o ∧ o < 0x190 then (i.ldelta >>> (8 * (o - 0x180))) % 2 ^ 32
  else 0

/-- Bits `i` of a list of channels that satisfy `p`. -/
def maskOf {α : Type} (p : α → Bool) (l : List α) : Nat := (indices p l).foldl (fun n i => n + 2 ^ i) 0

/-- State of a group (FIO.GSTATg). -/
def gstatWord (f : Fio) (g : Nat) : Nat :=
  let x := nth {} g f.groups
  let count (n : Nat) : Nat := n
  let nrin := ((insOf g).filter (fun i => (nth {} i f.ins).retired)).length
  let nrout := ((outsOf g).filter (fun c => (nth {} c f.outs).retired)).length
  4 * x.sup + bitIf 4 x.jam + bitIf 5 x.inZero + bitIf 6 x.unver + bitIf 7 x.pend.isSome + bitIf 8 x.hold.isSome +
    bitIf 9 x.forced.isSome + bitIf 10 x.lockout + bitIf 11 x.retired + 2 ^ 12 * count nrin + 2 ^ 16 * nrout

/-- Class code of FIO.LASTF. -/
def FieldClass.code : FieldClass → Nat
  | .input => 0 | .output => 1 | .group => 2

/-- FIO registers. -/
def fioReg (f : Frozen) (o : Nat) : Nat :=
  let x := f.fio
  let data := maskOf (fun c => c.data) x.ins
  let valid := maskOf (fun c => c.valid) x.ins
  let retired := maskOf (fun c => c.retired) x.ins
  if o = 0x00 then 0x00030100
  else if o = 0x04 then
    bitIf 0 (f.mode == .run) + bitIf 1 (x.blank && decide (f.tick < x.blankUntil)) + bitIf 2 (x.reset == .running)
  else if o = 0x08 ∨ o = 0x0C then half ((o - 0x08) / 4) data
  else if o = 0x10 ∨ o = 0x14 then half ((o - 0x10) / 4) valid
  else if o = 0x18 then maskOf (fun c => c.rbk) x.outs
  else if o = 0x1C then maskOf (fun c => c.driven) x.outs + 2 ^ 24 * maskOf (fun g => g.driven) x.groups
  else if o = 0x20 ∨ o = 0x24 then half ((o - 0x20) / 4) retired
  else if o = 0x28 then maskOf (fun c => c.retired) x.outs + 2 ^ 24 * maskOf (fun g => g.rsRetired) x.groups
  else if o = 0x2C then maskOf (fun c => c.hold.isSome) x.outs
  else if 0x30 ≤ o ∧ o < 0x48 ∧ o % 4 = 0 then gstatWord x ((o - 0x30) / 4)
  else if 0x50 ≤ o ∧ o < 0x5C ∧ o % 4 = 0 then (nth {} ((o - 0x50) / 4) x.supplies).mv
  else if o = 0x60 then
    (match x.lastFault with
      | some (kind, cls, ch) => ch + 64 * cls.code + 2 ^ 16 * kind + 2 ^ 31
      | none => 0)
  else if o = 0x64 then x.pcnt
  else if 0x100 ≤ o ∧ o < 0x160 ∧ o % 4 = 0 then
    let c := nth {} ((o - 0x100) / 4) x.outs
    c.current % 2 ^ 16 + bitIf 16 c.openLoad + bitIf 17 c.overload
  else 0

/-- Nodes of the segment. -/
def Efl.nodes (e : Efl) : Nat := match e.topo with
  | some t => t.nodes.length
  | none => 0

/-- EFL registers. -/
def eflReg (f : Frozen) (o : Nat) : Nat :=
  let e := f.efl
  if o = 0x00 then 0x00040100
  else if o = 0x04 then
    2 ^ 16 * maskOf (fun p => p.up) e.ports + 2 ^ 20 * maskOf (fun p => p.retired) e.ports + bitIf 24 (lineLost e 0) + bitIf 25 (lineLost e 1) +
      bitIf 26 e.overload + bitIf 27 e.schedMismatch + 2 ^ 28 * e.lock.code + bitIf 30 e.master + bitIf 31 e.inaug
  else if o = 0x08 then 2 ^ 16 * e.address + 2 ^ 8 * e.position + e.nodes
  else if o = 0x0C then e.topoCounter
  else if o = 0x10 then e.mode + 16 * e.swState.code + 256 * e.swTarget
  else if o = 0x18 ∨ o = 0x1C then half ((o - 0x18) / 4) e.latchCycle
  else if o = 0x20 ∨ o = 0x24 then half ((o - 0x20) / 4) e.latchTick
  else if o = 0x28 then ofInt 32 e.offset
  else if o = 0x2C then min (2 ^ 31 - 1) e.dropped + bitIf 31 e.overload
  else if 0x40 ≤ o ∧ o < 0x50 then
    let p := nth {} ((o - 0x40) / 4) e.ports
    bitIf 31 p.up + bitIf 30 p.retired + bitIf 29 (f.guardOn && portLive p) + bitIf 28 p.phyMaster + 2 ^ 8 * p.bufRetired
  else if 0x50 ≤ o ∧ o < 0x60 then (nth {} ((o - 0x50) / 4) e.ports).delay
  else if 0x60 ≤ o ∧ o < 0x70 then
    let p := nth {} ((o - 0x60) / 4) e.ports
    min 0xFFFF p.crcErrors + 2 ^ 16 * min 0xFFFF p.slotErrors
  else 0

/-- Retired objects of a controller. -/
def retiredObjs (x : CanCtl) : Nat := (x.objs.filter (fun p => p.2.retired)).length

/-- CANn registers. -/
def canReg (f : Frozen) (n o : Nat) : Nat :=
  let x := nth {} n f.can.ctls
  if o = 0x00 then 0x00050100
  else if o = 0x04 then
    256 * retiredObjs x + bitIf 22 x.masterIdx.isSome + 2 ^ 23 * x.masterIdx.getD 0 + bitIf 26 x.master + bitIf 27 (x.synced || x.master) +
      2 ^ 28 * x.state.code + bitIf 31 (x.state == .retired)
  else if o = 0x08 then x.tec + 2 ^ 16 * min 127 x.rcv + bitIf 23 (decide (128 ≤ x.rcv))
  else if o = 0x0C then
    (match x.lastErr with
      | some (code, dph) => bitIf 15 dph + 2 ^ 16 * code + 2 ^ 31
      | none => 0)
  else if o = 0x10 ∨ o = 0x14 then half ((o - 0x10) / 4) (if x.keeps then x.latchTick else 0)
  else if o = 0x18 then ofInt 32 x.offset
  else 0

/-- Cycle of the newest complete full image, and of the newest delta in the snapshot. -/
def Pair.fullCycle (p : Pair) : Nat := match p.shale.full with
  | some f => f.cycle
  | none => match p.shale.own with
    | some o => o.cycle
    | none => 0

/-- The newest delta in the snapshot. -/
def Pair.deltaCycle (p : Pair) : Nat := match snapshotOf p.shale with
  | some x => if x.2.isEmpty then 0 else (snapshotEnd x).1
  | none => match p.shale.own with
    | some o => o.cycle
    | none => 0

/-- PAIR registers. -/
def pairReg (f : Frozen) (o : Nat) : Nat :=
  let p := f.pair
  if o = 0x00 then 0x00080100
  else if o = 0x04 then
    f.pairCause + bitIf 21 p.incompatible + bitIf 22 (match p.contUntil with | some t => decide (f.tick < t) | none => false) +
      bitIf 23 p.gateFrom.isSome + bitIf 24 p.outputHold.isSome + bitIf 25 p.closed + bitIf 26 f.pairSync + bitIf 27 p.linkUp +
      2 ^ 28 * p.position + 2 ^ 30 * f.pairRole
  else if o = 0x08 then
    bitIf 0 p.h1 + bitIf 1 p.h2 + bitIf 2 p.holdRail + bitIf 3 p.pullRail + bitIf 4 p.pullIn + bitIf 5 p.pulling + bitIf 6 p.hold +
      bitIf 7 p.partnerHeld
  else if o = 0x0C then p.fullCycle % 2 ^ 32
  else if o = 0x10 then p.deltaCycle % 2 ^ 32
  else if o = 0x14 then p.cmpChan + bitIf 15 p.cmpValid + 2 ^ 24 * min 3 p.run
  else if o = 0x18 then 4096 - p.shale.pagesRetired + 2 ^ 16 * min 4095 p.shale.pagesRetired
  else if o = 0x1C then ofInt 32 p.offset
  else 0

/-- SUP registers. -/
def supReg (f : Frozen) (o : Nat) : Nat :=
  let p := f.pwr
  if o = 0x00 then 0x00090100
  else if o = 0x04 then p.domains + bitIf 11 p.aon
  else if o = 0x08 then p.mv % 2 ^ 18 + bitIf 30 p.high + bitIf 31 p.low
  else if o = 0x0C then ofInt 16 p.temp + bitIf 30 p.limit + bitIf 31 p.over70
  else if o = 0x10 then f.ref.code + bitIf 2 p.station.valid + bitIf 3 f.holdover
  else if o = 0x14 then bitIf 0 p.ejectOpen + bitIf 1 p.present + bitIf 2 f.remove
  else 0

/-- The lowest unmasked event with its flag set (EVT.PEND). -/
def pendingEvent (e : Evt) : Option Nat := (rangeFrom 0 256).find? (fun n => e.flags.getLsbD n && e.unmasked n)

/-- EVT registers. -/
def evtReg (f : Frozen) (o : Nat) : Nat :=
  let e := f.evt
  if o < 0x20 ∧ o % 4 = 0 then (e.flags.toNat >>> (8 * o)) % 2 ^ 32
  else if 0x40 ≤ o ∧ o < 0x60 ∧ o % 4 = 0 then (e.masks.toNat >>> (8 * (o - 0x40))) % 2 ^ 32
  else if o = 0x80 then
    (match pendingEvent e with
      | some n => 256 + n
      | none => 0)
  else if 0x100 ≤ o ∧ o < 0x500 ∧ o % 4 = 0 then spGet 0 ((o - 0x100) / 4) e.counts
  else 0

/-- The two words of window `w` of a set (FWL.WBASE, FWL.WSIZE). -/
def windowWord (ws : List Window) (w size : Nat) : Nat := match ws[w]? with
  | none => 0
  | some x =>
    if size = 1 then x.pages % 2 ^ 28
    else x.base % 2 ^ 28 + bitIf 28 x.r + bitIf 29 x.w + bitIf 30 x.x + bitIf 31 x.p

/-- Bits of frozen masters in one word. -/
def frozenWord (fw : Firewall) (n : Nat) : Nat := bitsOf (fun i => fw.frozen.contains (32 * n + i)) (rangeFrom 0 32)

/-- FWL registers. -/
def fwlReg (f : Frozen) (o : Nat) : Nat :=
  let w := f.fw
  if o = 0 then boolNat w.lock
  else if o = 0x04 ∨ o = 0x08 ∨ o = 0x0C then frozenWord w (o / 4 - 1)
  else if o = 0x10 then (if w.vValid then 2 ^ 31 + 2 ^ 16 * w.vMaster + 256 * w.vCause else 0)
  else if o = 0x18 ∨ o = 0x1C then half ((o - 0x18) / 4) w.vAddr
  else if 0x100 ≤ o ∧ o < 0x100 + 0x80 * 68 ∧ o % 4 = 0 then
    windowWord (spGet [] ((o - 0x100) / 0x80) w.app) ((o - 0x100) % 0x80 / 8) (o / 4 % 2)
  else if 0x3000 ≤ o ∧ o < 0x3300 ∧ o % 4 = 0 then
    windowWord (spGet [] ((o - 0x3000) / 0x80) w.runtime) ((o - 0x3000) % 0x80 / 8) (o / 4 % 2)
  else 0

/-- A last refused write as DMA.WST shows it. -/
def wstWord (w : WriteFault) : Nat := match w with
  | some (o, st) => 2 ^ 31 + 2 ^ 16 * o + st
  | none => 0

/-- DMA registers in the page of channel `c`. -/
def dmaReg (l : Lane) (c o : Nat) : Nat :=
  let x := nth {} c l.dma
  if o = 0x000 then 256 * x.retry
  else if o = 0x004 then x.hopLim
  else if o = 0x008 ∨ o = 0x00C then half ((o - 0x008) / 4) x.chDesc
  else if o = 0x010 then x.code + 2 ^ 16 * x.retries + 2 ^ 30 * x.state.code
  else if o = 0x014 then x.hops
  else if o = 0x018 ∨ o = 0x01C then half ((o - 0x018) / 4) x.cur
  else if o = 0x020 then x.bytes
  else if o = 0x024 then wstWord x.wst
  else if c = 0 ∧ (o = 0x800 ∨ o = 0x804) then half ((o - 0x800) / 4) l.ring.base
  else if c = 0 ∧ o = 0x808 then l.ring.size
  else if c = 0 ∧ o = 0x80C then l.ring.head
  else if c = 0 ∧ o = 0x810 then l.ring.tail
  else if o = 0xF00 then 0x00060100
  else 0

/-- CHK registers in the page of unit `u`. -/
def chkReg (l : Lane) (u o : Nat) : Nat :=
  let x := nth {} u l.chk
  if o = 0x000 then x.poly + 16 * x.dir + 32 * x.order + 256 * x.src + 1024 * x.net + 2 ^ 16 * x.stream
  else if o = 0x004 then
    boolNat x.valid + 2 * boolNat x.bad + 2 ^ 24 * x.chan.getD 0 + bitIf 31 (x.chan.isSome || x.src == 1 || x.src == 2)
  else if o = 0x008 ∨ o = 0x00C then half ((o - 0x008) / 4) x.value
  else if o = 0x010 then x.mismatches
  else if o = 0x014 then wstWord x.wst
  else if o = 0xF00 then 0x00070100
  else 0

/-- The 32-bit register at an address below the block slots' end (R41), as a lane reads it. Offsets without a register read 0 (R12). -/
def laneRegister (s : State) (l : LaneId) (a : Nat) : Nat :=
  let o := a % 0x10000
  let f := s.frozen
  let x := s.lane l
  match (a - 0xF0000000) / 0x10000 with
  | 0 => voteReg f o
  | 1 => iteReg s.ite s.vit o
  | 2 => fioReg f o
  | 3 => eflReg f o
  | 4 => canReg f 0 o
  | 5 => canReg f 1 o
  | 6 => canReg f 2 o
  | 7 => canReg f 3 o
  | 8 => dmaReg x (o / 0x1000) (o % 0x1000)
  | 9 => if o < 0x8000 then chkReg x (o / 0x1000) (o % 0x1000) else 0
  | 10 => pairReg f o
  | 11 => supReg f o
  | 12 => evtReg f o
  | 13 => fwlReg f o
  | _ => 0

/-- A byte that a master of a lane reads at an address of the lane address map (R41). -/
def readByte (s : State) (l : LaneId) (a : Nat) : Byte :=
  if 0xF0000000 ≤ a ∧ a < 0xF00E0000 then BitVec.ofNat 8 (laneRegister s l (a / 4 * 4) / 2 ^ (8 * (a % 4)))
  else laneByte s l a

/-- Access types of R11 that a write meets: none is an offset without a register (R12). -/
inductive RegAccess where
  | rw | w1c | ro | none
  deriving DecidableEq, Repr

/-- Access type of a register of a module-wide block. -/
def wideAccess (a : Nat) : RegAccess :=
  let o := a % 0x10000
  let ro (b : Bool) : RegAccess := if b then .ro else .none
  match (a - 0xF0000000) / 0x10000 with
  | 0 => if o = 4 then .rw else ro (decide (o ≤ 0x10) || (decide (0x20 ≤ o) && decide (o ≤ 0x48)) || [0x50, 0x54, 0x60, 0x64, 0x68, 0x6C].contains o)
  | 2 => ro (decide (o < 0x48) || [0x50, 0x54, 0x58, 0x60, 0x64].contains o || (decide (0x100 ≤ o) && decide (o < 0x160)))
  | 3 => ro ((decide (o < 0x30) && o != 0x14) || (decide (0x40 ≤ o) && decide (o < 0x70)))
  | 4 | 5 | 6 | 7 => ro (decide (o < 0x1C))
  | 10 => ro (decide (o < 0x20))
  | 11 => ro (decide (o < 0x18))
  | 12 =>
    if o < 0x20 then .w1c else if 0x40 ≤ o ∧ o < 0x60 then .rw else ro (o == 0x80 || (decide (0x100 ≤ o) && decide (o < 0x500)))
  | 13 =>
    ro (decide (o < 0x14) || o == 0x18 || o == 0x1C || (decide (0x100 ≤ o) && decide (o < 0x2300)) || (decide (0x3000 ≤ o) && decide (o < 0x3300)))
  | _ => .none

end Sys2Proof.Machine
end

