-- ==== Sys2Proof/Machine/Dict.lean ====
section
/-!
DEFINITION. The dictionary server (11_object_dictionary.md) below its entries: frames, sessions, the order of refusals, the change log, and
how a host write is judged, logged, carried out and answered.
-/
namespace Sys2Proof.Machine

/-! ### Frames (R525 to R530) -/

/-- Body limit of a carrier (R525). -/
def bodyLimit : Carrier → Nat
  | .can => 256
  | .eth0 | .eth1 | .efavo | .console => 1024

/-- Bytes of a frame up to the end of its body. -/
def frameHead (version op session seq status len : Nat) (body : List Byte) : List Byte :=
  toBE 2 0xD1C7 ++ toBE 1 version ++ toBE 1 op ++ toBE 4 session ++ toBE 4 seq ++ toBE 2 status ++ toBE 2 len ++ body

/-- Bytes of a received frame that its CRC covers. -/
def DictFrame.covered (f : DictFrame) : List Byte := frameHead f.version f.op f.session f.seq f.status f.len f.body ++ f.tag

/-- MAGIC, VERSION, LEN and CRC of R530. -/
def DictFrame.sound (f : DictFrame) : Bool :=
  f.magic == 0xD1C7 && f.version == 1 && f.len == f.body.length && decide (f.len ≤ bodyLimit f.carrier) && f.tag.length == 16 &&
    f.crc == crc32c f.covered

/-- A reply as bytes, with its CRC. -/
def DictReply.toBytes (r : DictReply) : List Byte :=
  let bs := frameHead 1 r.op r.session r.seq r.status r.body.length r.body ++ r.tag
  bs ++ toBE 4 (crc32c bs)

/-- A protocol frame cut into CAN segments (R527). -/
def canSegments (bs : List Byte) : List (List Byte) :=
  let parts := chunks 63 bs
  let n := parts.length
  ((rangeFrom 0 n).zip parts).map (fun p =>
    let head := bitIf 7 (p.1 == 0) + bitIf 6 (p.1 + 1 == n) + p.1 % 64
    toBE 1 head ++ p.2 ++ zeros (63 - p.2.length))

/-- A reply handed to its carrier: at Efavo into the egress queue, on CAN into the segments of its controller (R525). -/
def sendReply (r : DictReply) (s : State) : State :=
  let s := emit (.dict r) s
  match r.carrier with
  | .efavo => doEfl (fun env w => egressPut env.tick { prio := 0, source := w.e.address, data := r.toBytes, dst := r.peer } w) s
  | .can =>
    doCan (fun env w => pumpDict env r.peer (w.modCtl r.peer (fun x => { x with dictQ := x.dictQ ++ canSegments r.toBytes }))) s
  | .eth0 | .eth1 | .console => s

/-- The server runs (R25, R39): PD-MNT has power and its master is not frozen. A recovery ROM serves Ethernet and console only (R546). -/
def State.serverUp (s : State) (c : Carrier) : Bool :=
  !s.dict.retired && !s.pwr.lost.testBit 5 && (s.sys.mode != .recovery || c == .eth0 || c == .eth1 || c == .console)

/-! ### Sessions (R532, R533, R537) -/

/-- Slot of a session by its ID. -/
def findSlot (id : Nat) (d : Dict) : Option Nat :=
  (indices (fun (x : Session) => x.phase != .free && x.id == id) d.sessions).head?

/-- A session changed. -/
def modSession (k : Nat) (f : Session → Session) (s : State) : State :=
  { s with dict := { s.dict with sessions := modNth k f s.dict.sessions } }

/-- The session of a slot. -/
def State.session (s : State) (k : Nat) : Session := nth {} k s.dict.sessions

/-- The authentication tag of a frame sent in a session (R538); zero bytes outside open sessions of level 1 and 2. -/
def tagFor (o : Option Session) (head : List Byte) : List Byte := match o with
  | some x => if x.phase == .opened && decide (1 ≤ x.level) then (hmac256 x.key head).take 16 else zeros 16
  | none => zeros 16

/-- The session that a request names. -/
def State.sessionOf (s : State) (id : Nat) : Option Session := (findSlot id s.dict).map s.session

/-- A reply to a request. -/
def replyTo (r : Req) (op session status : Nat) (body : List Byte) (s : State) : DictReply :=
  let head := frameHead 1 (op + 0x80) session r.seq status body.length body
  { carrier := r.carrier, peer := r.peer, op := op + 0x80, session := session, seq := r.seq, status := status, body := body,
    tag := tagFor (s.sessionOf session) head }

/-- A reply that neither counts as accepted nor is stored (R530, R532, R533). -/
def refuseFrame (r : Req) (op status : Nat) (s : State) : State := sendReply (replyTo r op r.session status [] s) s

/-- A request answered: its SEQ becomes the last accepted one, and the response is stored (R532). -/
def answer (r : Req) (op status : Nat) (body : List Byte) (s : State) : State :=
  let rep := replyTo r op r.session status body s
  let s := match findSlot r.session s.dict with
    | some k => modSession k (fun x => { x with lastSeq := r.seq, stored := some rep, busy := false, lastUsed := s.tick }) s
    | none => s
  sendReply rep s

/-- What R532 and R533 make of a request's SEQ. -/
inductive Admit where
  | go
  | drop
  | again (r : DictReply)
  | refuse (status : Nat)
  deriving DecidableEq, Repr

/-- R532 and R533. -/
def allowOp (r : Req) (s : State) : Admit :=
  if r.session = 0 then .go
  else match s.sessionOf r.session with
    | none => .go
    | some x =>
      let next (n : Nat) : Nat := add32 x.lastSeq n
      if r.seq = x.lastSeq then (match x.stored with
        | some rep => .again rep
        | none => .drop)
      else if x.busy then (if r.seq = next 1 then .drop else if r.seq = next 2 then .refuse 0x0501 else .refuse 0x0113)
      else if r.seq = next 1 then .go
      else .refuse 0x0113

/-- A request carried on when its SEQ permits. -/
def ifAllowed (op : Nat) (r : Req) (k : State → State) (s : State) : State := match allowOp r s with
  | .go => k s
  | .drop => s
  | .again rep => sendReply rep s
  | .refuse st => refuseFrame r op st s

/-- A received frame with the checks of R530; a frame of another operation than the row's is not one. -/
def received (op : Nat) (f : DictFrame) (k : Req → State → State) (s : State) : State :=
  if !s.serverUp f.carrier then s
  else if !f.sound then { s with dict := { s.dict with discarded := add32 s.dict.discarded 1 } }
  else if f.op ≠ op then s
  else
    let r : Req := { carrier := f.carrier, session := f.session, seq := f.seq, peer := f.peer }
    let head := frameHead f.version f.op f.session f.seq f.status f.len f.body
    let known := f.session == 0 || (findSlot f.session s.dict).isSome
    if known && f.tag != tagFor (s.sessionOf f.session) head then refuseFrame r op 0x030A s
    else ifAllowed op r (k r) s

/-! ### Order of refusals (R16, R665) -/

/-- Access rights (R519). -/
inductive Right where
  | ro | rw | rwM | rwE | woM | woE
  deriving DecidableEq, Repr

/-- The level that a write needs. -/
def Right.level : Right → Nat
  | .ro => 0 | .rw => 0 | .rwM => 1 | .rwE => 2 | .woM => 1 | .woE => 2

/-- Readable. -/
def Right.readable : Right → Bool
  | .woM | .woE => false
  | .ro | .rw | .rwM | .rwE => true

/-- The status of the lowest family, the first listed within it (R16); 0 when none applies. -/
def firstStatus (l : List Nat) : Nat :=
  let l := l.filter (fun c => c != 0)
  l.foldl (fun b c => if b = 0 ∨ c / 256 < b / 256 then c else b) 0

/-- A status under a condition. -/
def bad (c : Bool) (status : Nat) : Nat := if c then status else 0

/-- Password of a level set. -/
def passwordSet (level : Nat) (d : Dict) : Bool :=
  if level = 2 then d.engineer.isSome else if level = 1 then d.maintainer.isSome else true

/-- The 0x03xx checks of a write, in the order of R665. `console`: only over the service console; `openFirst`: R545. -/
def writeAccess (r : Req) (right : Right) (console openFirst : Bool) (s : State) : List Nat :=
  if r.session = 0 then [0x0301]
  else match s.sessionOf r.session with
    | none => [0x0304]
    | some x =>
      if x.phase != .opened then [0x0304]
      else
        [bad (right == .ro) 0x0307, bad (console && r.carrier != .console) 0x0309,
         bad (!openFirst && !passwordSet right.level s.dict) 0x0306, bad (!openFirst && decide (x.level < right.level)) 0x0302]

/-- Entries that a mode serves (01_module_architecture.md, "Modes"; 13 R634). -/
def served (m : Mode) (index sub : Nat) : Bool := match m with
  | .boot => index == 0x1000 || index == 0x1010
  | .recovery =>
    index == 0x1000 || (index == 0x2000 && (sub == 1 || sub == 4)) || (decide (0xA020 ≤ index) && decide (index ≤ 0xA022)) ||
      (decide (0xA100 ≤ index) && decide (index ≤ 0xA103))
  | .configure | .standby | .run | .safe => true

/-! ### Change log (R337, R338, R550 to R553) -/

/-- Bytes 0x00 to 0x37 of an entry in export form. -/
def logBody (e : LogEntry) : List Byte :=
  toBE 4 e.seqNo ++ toBE 1 e.kind ++ toBE 1 e.slot ++ toBE 1 e.level ++ toBE 1 e.carrier ++ toBE 8 e.tick ++ toBE 2 e.index ++ toBE 1 e.sub ++
    zeros 5 ++ toBE 16 e.old ++ toBE 16 e.new

/-- The 64 bytes of an entry. -/
def logBytes (e : LogEntry) : List Byte := logBody e ++ toBE 4 e.check ++ zeros 4

/-- CHECK of an entry after its predecessor's (R552). -/
def logCheck (before : Nat) (e : LogEntry) : Nat := crc32c (logBody e ++ toBE 4 before)

/-- An entry appended to the log, which holds 4,096; events 240 and 241 as it fills up. -/
def writeLog (e : LogEntry) (s : State) : State :=
  let d := s.dict
  let e := { e with seqNo := d.logNext, tick := s.tick }
  let e := { e with check := logCheck d.logCheck e }
  let since := satAdd 4096 d.sinceExport 1
  let before := if d.log.length < 4096 then d.logCheckBefore else (d.log.head?.map (·.check)).getD d.logCheckBefore
  let s := { s with dict :=
    { d with log := lastN 4096 (d.log ++ [e]), logNext := add32 d.logNext 1, logCheck := e.check, logCheckBefore := before, sinceExport := since } }
  if since = d.sinceExport then s
  else if since = 3072 then raise 240 s
  else if since = 4096 then raise 241 s
  else s

/-- An entry that the module makes by itself (R553). -/
def ownLog (kind index old new : Nat) (s : State) : State :=
  writeLog { seqNo := 0, kind, slot := 0xFF, level := 0, carrier := 0xFF, tick := 0, index, sub := 0, old, new, check := 0 } s

/-- An entry for a host request. -/
def hostLog (r : Req) (kind index sub old new : Nat) (s : State) : State :=
  let slot := (findSlot r.session s.dict).getD 0xFF
  let level := match s.sessionOf r.session with
    | some x => x.level
    | none => 0
  writeLog { seqNo := 0, kind, slot, level, carrier := r.carrier.num, tick := 0, index, sub, old, new, check := 0 } s

/-- Version and CRC-64 as OLD and NEW of KIND 2 hold them (R551). -/
def logImage (version crc : Nat) : Nat := version % 2 ^ 32 * 2 ^ 96 + crc % 2 ^ 64

/-- A force as OLD and NEW hold it; an output force gives its channel in place of a stable ID. -/
def Force.log : Force → Nat
  | .symbol id value => id % 2 ^ 32 * 2 ^ 96 + value % 2 ^ 64
  | .output c => c * 2 ^ 96

/-- A force that the module drops (R120, R632): a change-log entry of KIND 7 and event 253. -/
def dropForce (f : Force) (s : State) : State := raise 253 (ownLog 7 0 f.log 0 s)

/-! ### A host write -/

/-- What a write of an entry comes to: its right, its own checks in the order of its chapter, its change-log entry with any further ones,
and its effect.
`refused` is what a refusal itself leaves behind (an event; never a change of the target, R14). -/
structure Job where
  right : Right
  bad : List Nat := []
  console : Bool := false
  openFirst : Bool := false
  log : Option (Nat × Nat × Nat) := none
  more : List (Nat × Nat × Nat) := []
  refused : Nat → State → State := fun _ s => s
  eff : State → State

/-- Status of a write (R14, R16). -/
def jobStatus (r : Req) (index sub : Nat) (j : Job) (s : State) : Nat :=
  let own := j.bad ++ [bad (!served s.sys.mode index sub) 0x0201]
  let full := j.log.isSome && decide (4096 < s.dict.sinceExport + 1 + j.more.length)
  let dead := j.log.isSome && s.pwr.failing
  firstStatus (own ++ writeAccess r j.right j.console j.openFirst s ++ [bad full 0x0403, bad dead 0x0404])

/-- What a refused write leaves behind. -/
def jobRefused (j : Job) (st : Nat) (s : State) : State :=
  let s := j.refused st s
  if st = 0x0404 then raise 242 s else s

/-- A write carried out: its change-log entries, event 238 where it needs level 2 (R553), and its effect. -/
def jobDone (r : Req) (index sub : Nat) (j : Job) (s : State) : State :=
  let s := match j.log with
    | some l => (l :: j.more).foldl (fun s e => hostLog r e.1 index sub e.2.1 e.2.2 s) s
    | none => s
  let s := if j.right.level = 2 then raise 238 s else s
  j.eff s

/-- Status of a write, and the state after it (R14, R16, R553). -/
def runJob (r : Req) (index sub : Nat) (j : Job) (s : State) : Nat × State :=
  let st := jobStatus r index sub j s
  if st ≠ 0 then (st, jobRefused j st s) else (0, jobDone r index sub j s)

/-- A write of an entry with a row of its own: judged, carried out and answered. -/
def hostWrite (r : Req) (index sub : Nat) (j : State → Job) (s : State) : State :=
  if !s.serverUp r.carrier then s
  else ifAllowed 2 r (fun s =>
    let (st, s) := runJob r index sub (j s) s
    answer r 2 st [] s) s

/-- The mode in which RW-E entries are writable (R58, R123 and their like). -/
def configureOnly (s : State) : Nat := bad (s.sys.mode != .configure) 0x0201

/-- A last written value kept for an entry that reads it back and is no parameter. -/
def keepValue (index sub v : Nat) (s : State) : State := { s with params := spSet parUnset (parKey index sub) (.num v) s.params }

end Sys2Proof.Machine
end

