-- ==== Sys2Proof/Machine/Images.lean ====
section
/-!
DEFINITION. Image bodies: the directory (R98) and the four integrator classes with their checks: application (R97 to R104), table set
(R206 to R222), safety configuration (R297 to R301), schedule table (R399, R400).
-/
namespace Sys2Proof.Machine

/-! ### The directory (R98) -/

/-- A directory entry. -/
structure DirEntry where
  typ : Nat
  flags : Nat
  load : Nat
  length : Nat
  crc : Nat
  content : List Byte
  deriving DecidableEq, Repr

/-- Entry `i` of a body; offsets count from the start of the image, whose body starts at 0x100. -/
def dirEntry (body : List Byte) (i : Nat) : DirEntry :=
  let b := slice (16 + 32 * i) 32 body
  let len := leAt 16 4 b
  let typ := leAt 0 2 b
  { typ, flags := leAt 2 2 b, load := leAt 8 8 b % 2 ^ 40, length := len, crc := leAt 20 4 b,
    content := if typ = 5 then [] else slice (leAt 4 4 b - 0x100) len body }

/-- The directory; 0x0603 where it is broken. -/
def readDir (body : List Byte) : Except Nat (List DirEntry) :=
  let n := leAt 0 2 body
  let entries := slice 16 (32 * n) body
  if n < 1 ∨ 64 < n ∨ entries.length < 32 * n then .error 0x0603
  else if crc32c entries ≠ leAt 4 4 body then .error 0x0603
  else .ok ((rangeFrom 0 n).map (dirEntry body))

/-- The content of a section is whole and carries its CRC. -/
def DirEntry.sound (e : DirEntry) : Bool := e.typ == 5 || (e.content.length == e.length && crc32c e.content == e.crc)

/-- Sections of a type. -/
def ofType (t : Nat) (es : List DirEntry) : List DirEntry := es.filter (fun e => e.typ == t)

/-- Content of the first section of a type. -/
def contentOf (t : Nat) (es : List DirEntry) : List Byte := match es.find? (fun e => e.typ == t) with
  | some e => e.content
  | none => []

/-- Exactly one section of each type. -/
def eachOnce (ts : List Nat) (es : List DirEntry) : Bool := ts.all (fun t => (ofType t es).length == 1)

/-- A check passed, or its status. -/
def need (c : Bool) (status : Nat) : Except Nat Unit := if c then .ok () else .error status

/-! ### Application image (R99 to R104) -/

/-- Section types marked "Once" (R99). -/
def onceTypes : List Nat := [1, 2, 4, 6, 7, 8, 9, 10, 11]

/-- A loaded section of the kind of R99. -/
def DirEntry.loaded (e : DirEntry) : Bool := decide (1 ≤ e.typ ∧ e.typ ≤ 5)

/-- PAIRED is set. -/
def DirEntry.paired (e : DirEntry) : Bool := e.flags.testBit 1

/-- A symbol (R104). -/
def readSymbol (b : List Byte) : Symbol :=
  { id := leAt 0 4 b, kind := leAt 4 1 b, typ := leAt 5 1 b, flags := leAt 6 2 b, addr := leAt 8 4 b, size := leAt 12 4 b }

/-- IDs strictly rising. -/
def rising : List Nat → Bool
  | x :: y :: rest => decide (x < y) && rising (y :: rest)
  | _ => true

/-- Two address ranges overlap. -/
def overlap (a n b m : Nat) : Bool := decide (0 < n ∧ 0 < m ∧ a < b + m ∧ b < a + n)

/-- No two ranges of the list overlap. -/
def disjoint : List (Nat × Nat) → Bool
  | [] => true
  | r :: rest => !rest.any (fun x => overlap r.1 r.2 x.1 x.2) && disjoint rest

/-- Every page of a range lies in a window. -/
def insideWindows (ws : List Window) (a n : Nat) : Bool :=
  n == 0 || (rangeFrom (a / 4096) ((a + n + 4095) / 4096 - a / 4096)).all (fun p => ws.any (fun w => decide (w.base ≤ p ∧ p < w.base + w.pages)))

/-- All windows of a FIREWALL section. -/
def FireSet.all (f : FireSet) : List Window := f.vital ++ f.fast ++ f.dma.flatMap (·.2)

/-- The state set of an image with its table set, in bytes (R153). -/
def stateSetBytes (es : List DirEntry) : Nat :=
  (es.filter (fun e => e.loaded && e.paired)).foldl (fun n e => n + (e.length + 63) / 64 * 64) (64 * 78080)

/-- Symbols of a SYMBOLS section sorted, inside RETAIN, and no safety-function state forceable (R104, R296). -/
def symbolsOk (es : List DirEntry) (ys : List Symbol) : Bool :=
  let inside (y : Symbol) : Bool := (ofType 4 es).any (fun r => decide (r.load ≤ y.addr ∧ y.addr + y.size ≤ r.load + r.length))
  rising (ys.map (·.id)) && ys.all (fun y => inside y && !(y.kind == 4 && y.flags.testBit 1))

/-- Sections whose layout 02 does not give, as a configuration reads their bytes; a section without content names nothing (DESIGN CHOICE,
notes/assumptions/6.md). -/
def readTableRef (bs : List Byte) : TableRef := if bs.isEmpty then {} else Config.tableRef bs
def readFirewall (bs : List Byte) : FireSet := if bs.isEmpty then {} else Config.firewall bs
def readIomap (bs : List Byte) : Iomap := if bs.isEmpty then {} else Config.iomap bs

/-- An application image in its fields. -/
def readApp (version crc : Nat) (es : List DirEntry) : App :=
  let t := contentOf 9 es
  { version, crc, k := leAt 0 2 t, fastNs := leAt 2 4 t, vitalNs := leAt 6 4 t,
    sections := (es.filter (·.loaded)).map (fun e => { typ := e.typ, paired := e.paired, load := e.load, length := e.length, content := e.content }),
    symbols := (chunks 16 (contentOf 6 es)).map readSymbol,
    evtInit := BitVec.ofNat 256 (leNat (contentOf 11 es)),
    ref := readTableRef (contentOf 10 es), fire := readFirewall (contentOf 7 es), iomap := readIomap (contentOf 8 es) }

/-- An output channel or transmit field in use names the fast or the vital task. -/
def Owner.ok (o : Owner) : Bool := !o.inUse || o.owner == 1 || o.owner == 2

/-- A CAN stream entry in its ranges (R465, R466). -/
def canStreamOk (d : CanStream) : Bool :=
  decide (d.stream < 1024 ∧ d.ctrl < 4) && (d.cls == 1 || d.cls == 2) &&
    (if d.transmit then decide (1 ≤ d.period ∧ d.period ≤ 4000) else decide (2 ≤ d.timeout ∧ d.timeout ≤ 40000)) &&
    (if d.cls = 1 then [0, 8, 16, 32, 48].contains d.plen else canLengthOk true d.plen && d.connkey == 0)

/-- The checks of R103 up to the ownership of IOMAP, in the order of the table, with R42 before them and R466 after. -/
def checkApp (version crc : Nat) (body : List Byte) : Except Nat App := do
  let es ← readDir body
  need (es.all (·.sound)) 0x0603
  need (es.all (fun e => !e.paired || e.typ == 5 || (chunks 8 e.content).all (fun w => pairOk (leNat w)))) 0x0601
  let known (t : Nat) : Bool := decide (1 ≤ t ∧ t ≤ 11)
  let a := readApp version crc es
  need (eachOnce onceTypes es && es.all (fun e => known e.typ || !e.flags.testBit 0) && (ofType 4 es).all (·.paired) && symbolsOk es a.symbols) 0x0724
  need (a.fire.all.all windowOk) 0x0711
  let secs := es.filter (·.loaded)
  let spans := secs.map (fun e => (e.load, e.length))
  need (disjoint spans && spans.all (fun r => !overlap r.1 r.2 0xE00000 0x200000 && insideWindows a.fire.all r.1 r.2) &&
    a.fire.dma.all (fun d => d.2.all (fun w => !(w.w && w.p))) && decide (stateSetBytes es ≤ 12 * 2 ^ 20)) 0x0723
  need (decide (a.fastNs ≤ 130000)) 0x0721
  need (decide (4 ≤ a.k ∧ a.k ≤ 400 ∧ a.vitalNs * 100 ≤ 80 * ((a.k - 1) * 250000 + 130000))) 0x0722
  need (a.iomap.outs.all (·.ok) && a.iomap.fields.all (fun f => f.own.ok)) 0x0725
  need (a.iomap.can.all canStreamOk) 0x0761
  need (decide ((a.iomap.can.filter (fun d => !d.transmit)).length ≤ 128 ∧ (a.iomap.can.filter (fun d => d.transmit)).length ≤ 64)) 0x0405
  pure a

/-! ### Table set (R206 to R221) -/

/-- An element definition (R219). -/
def readElemDef (b : List Byte) : ElemDef :=
  { kind := leAt 0 1 b, variant := leAt 1 1 b, ownsec := leAt 2 2 b, detsrc := leAt 4 2 b, outsrc := leAt 6 2 b, ndet := leAt 8 2 b,
    nout := leAt 10 2 b, t1 := leAt 12 4 b, t2 := leAt 16 4 b, p1 := leAt 20 2 b, flags := leAt 22 2 b, init := leAt 24 4 b }

/-- Variants of a kind. -/
def variants (kind : Nat) : Nat := nth 0 kind [0, 3, 3, 2, 2, 1, 1, 1]

/-- Range of timer T1 of a kind in ticks (R184); none where the kind has no bound one. -/
def t1Range (kind : Nat) : Option (Nat × Nat) := nth none kind
  [none, some (4000, 240000), some (400, 20000), some (0, 40000), some (12000, 240000), some (8000, 240000), some (40000, 2400000), none]

/-- A definition with its fields in their ranges; `kindAt` answers the kind of a slot (R221). -/
def elemDefOk (kindAt : Nat → Nat) (tables keys : Nat) (d : ElemDef) : Bool :=
  decide (1 ≤ d.kind ∧ d.kind ≤ 7) && decide (1 ≤ d.variant ∧ d.variant ≤ variants d.kind) &&
    (if d.flags.testBit 1 then kindAt d.ownsec == 3 else d.ownsec == 0) &&
    (d.kind != 5 || d.flags.testBit 1) &&
    (match t1Range d.kind with
      | some r => decide (r.1 ≤ d.t1 ∧ d.t1 ≤ r.2)
      | none => true) &&
    (d.kind != 4 || decide (12000 ≤ d.t2 ∧ d.t2 ≤ 240000)) &&
    decide (d.ndet ≤ 8) && decide (d.nout ≤ 16) &&
    (if d.kind = 2 then decide (d.p1 < tables) else if d.kind = 6 then decide (d.p1 < keys) else d.p1 == 0)

/-- Path-form entries (R206). -/
def readEntries (bs : List Byte) : List RouteEntry :=
  (chunks 4 bs).map (fun b => { slot := leAt 0 2 b, pos := leAt 2 1 b, gov := leAt 3 1 b })

/-- Overlap alternatives from their bytes, with what follows them. -/
def readAlts : Nat → List Byte → List OverlapAlt × List Byte
  | 0, bs => ([], bs)
  | n + 1, bs =>
    let c := leAt 0 1 bs
    let a : OverlapAlt := { prio := leAt 1 1 bs, entries := readEntries (slice 4 (4 * c) bs) }
    let (rest, tail) := readAlts n (bs.drop (4 + 4 * c))
    (a :: rest, tail)

/-- A route definition from its bytes (R206) and its conflict bitset. -/
def readRouteDef (conflict : Nat) (raw : List Byte) : RouteDef :=
  let np := leAt 8 2 raw
  let nf := leAt 10 2 raw
  let (alts, tail) := readAlts (leAt 12 1 raw) (raw.drop (32 + 4 * np + 4 * nf))
  { cls := leAt 2 1 raw, sectional := (leAt 3 1 raw).testBit 0, entry := leAt 4 2 raw, exit := leAt 6 2 raw,
    path := readEntries (slice 32 (4 * np) raw), flank := readEntries (slice (32 + 4 * np) (4 * nf) raw), overlaps := alts,
    approach := (chunks 2 (slice 0 (2 * leAt 14 1 raw) tail)).map (fun b => leNat b),
    appMode := leAt 13 1 raw, aspect := leAt 15 1 raw, trel := leAt 16 4 raw, tovl := leAt 20 4 raw, conflict, raw }

/-- POS of an entry is valid for its element (R206). -/
def posOk (defs : Nat → ElemDef) (x : RouteEntry) : Bool :=
  let d := defs x.slot
  if d.kind = 1 then posValid d.variant x.pos else if d.kind = 7 then decide (x.pos ≤ 255) else x.pos == 0

/-- Fields of a definition in their ranges (R206, R221). -/
def routeDefOk (defs : Nat → ElemDef) (r : Nat) (d : RouteDef) : Bool :=
  let raw := d.raw
  let alts := d.overlaps
  let all := d.path ++ d.flank ++ alts.flatMap (·.entries)
  leAt 0 2 raw == r && decide (1 ≤ d.cls ∧ d.cls ≤ 3) && decide (1 ≤ leAt 8 2 raw ∧ leAt 8 2 raw ≤ 256) && decide (leAt 10 2 raw ≤ 256) &&
    decide (leAt 12 1 raw ≤ 4) && decide (d.appMode ≤ 2) && decide (leAt 14 1 raw ≤ 16) && decide (1 ≤ d.aspect ∧ d.aspect ≤ 15) &&
    decide (d.trel ≤ 2400000) && decide (d.tovl ≤ 1200000) &&
    (defs d.entry).kind == 2 && (defs d.exit).kind != 0 &&
    all.all (fun x => (defs x.slot).kind != 0 && posOk defs x) &&
    alts.all (fun a => decide (1 ≤ a.entries.length ∧ a.entries.length ≤ 64)) &&
    d.path.length == leAt 8 2 raw && d.flank.length == leAt 10 2 raw && d.approach.length == leAt 14 1 raw &&
    d.approach.all (fun e => (defs e).kind == 3) &&
    d.flank.all (fun x => x.gov == 0xFF || decide (x.gov + 1 ≤ d.path.length))

/-- DEFCRC over a definition with its own field taken as 0. -/
def defCrcOk (raw : List Byte) : Bool := crc32c (raw.take 28 ++ zeros 4 ++ raw.drop 32) == leAt 28 4 raw

/-- Every element of a path and of every overlap alternative stands in the conflict bitset (R209). -/
def conflictOk (d : RouteDef) : Bool :=
  d.path.all (fun x => d.conflict.testBit x.slot) && d.overlaps.all (fun a => a.entries.all (fun x => d.conflict.testBit x.slot))

/-- Whether two lists of sets share a member, or a set repeats one. -/
def noRepeat (l : List Nat) : Bool := l.eraseDups.length == l.length

/-- Lengths and bank offsets of R218. -/
def tableSectionOk (e : DirEntry) : Bool := match e.typ with
  | 0x0101 => e.load == 0 && e.length % 8192 == 0
  | 0x0102 => e.load == 0x8000000 && e.length == 2 ^ 21
  | 0x0103 => e.load == 0x8200000 && e.length == 2 ^ 17
  | 0x0104 => e.load == 0x8220000 && e.length % 128 == 0 && decide (e.length ≤ 8192)
  | 0x0105 => e.load == 0x8230000 && e.length % 132 == 0 && decide (e.length ≤ 33792)
  | 0x0106 => e.load == 0x8240000 && decide (e.length ≤ 2 ^ 26)
  | 0x0107 => e.length == 16
  | _ => true

/-- An aspect table from its 128 bytes. -/
def readAspects (b : List Byte) : List Aspect :=
  (chunks 8 b).map (fun x => { command := leAt 0 2 x, proof := leAt 2 1 x, rank := leAt 3 1 x })

/-- The slots that a key set controls. -/
def readKeySet (b : List Byte) : List Nat := (chunks 2 (slice 4 (2 * leAt 0 2 b) b)).map leNat

/-- The checks of R221 after the header, in the order of the table. -/
def checkTables (body : List Byte) : Except Nat TableSet := do
  let es ← readDir body
  let types := [0x0101, 0x0102, 0x0103, 0x0104, 0x0105, 0x0106, 0x0107]
  need (eachOnce types es && es.all tableSectionOk) 0x0724
  let id := contentOf 0x0107 es
  let others := (es.filter (fun e => e.typ != 0x0107)).flatMap (·.content)
  need (es.all (·.sound) && crc64 others == leAt 8 8 id) 0x0603
  let raws := (List.zip (rangeFrom 0 65536) (chunks 32 (contentOf 0x0102 es))).filter (fun p => leAt 0 1 p.2 != 0)
  need (raws.all (fun p => crc32c (p.2.take 28) == leAt 28 4 p.2)) 0x0603
  let elems := raws.map (fun p => (p.1, readElemDef p.2))
  let defs (e : Nat) : ElemDef := spGet {} e elems
  let aspects := (chunks 128 (contentOf 0x0104 es)).map readAspects
  let keyRaw := chunks 132 (contentOf 0x0105 es)
  need (elems.all (fun p => elemDefOk (fun e => (defs e).kind) aspects.length keyRaw.length p.2)) 0x0731
  let idx := (List.zip (rangeFrom 0 16384) (chunks 8 (contentOf 0x0103 es))).filter (fun p => (leAt 6 2 p.2).testBit 0)
  let defBytes := contentOf 0x0106 es
  let conflicts := contentOf 0x0101 es
  let rawOf (p : Nat × List Byte) : Nat × List Byte := (p.1, slice (leAt 0 4 p.2) (leAt 4 2 p.2) defBytes)
  let routeRaw := idx.map rawOf
  need (routeRaw.all (fun p => defCrcOk p.2)) 0x0603
  let routes := routeRaw.map (fun p => (p.1, readRouteDef (leNat (slice (8192 * p.1) 8192 conflicts)) p.2))
  need (routes.all (fun p => routeDefOk defs p.1 p.2)) 0x0732
  need (routes.all (fun p => conflictOk p.2)) 0x0733
  let keySets := keyRaw.map readKeySet
  need (keyRaw.all (fun b => decide (1 ≤ leAt 0 2 b ∧ leAt 0 2 b ≤ 64)) && noRepeat (keySets.flatMap List.eraseDups)) 0x0734
  pure { version := leAt 0 4 id, crc := leAt 8 8 id, elems, routes, aspects, keySets }

/-- Channels or bindings `base, …, base + n - 1` that an element binds. -/
def boundRange (src n : Nat) : List Nat := rangeFrom (bits 11 0 src) n

/-- The transmit field that holds a bound bit belongs to the vital task. -/
def vitalField (m : Iomap) (b : BitBinding) : Bool :=
  m.fields.any (fun f => f.can == b.can && f.stream == b.stream && f.own.inUse && f.own.owner == 2 && decide (f.offset ≤ b.offset ∧ b.offset < f.offset + 8))

/-- Bindings of one element against the application and the safety configuration (R222). -/
def bindingOk (m : Iomap) (owned : List Nat) (d : ElemDef) : Bool :=
  let kd := srcKind d.detsrc
  let ko := srcKind d.outsrc
  let bind (i : Nat) (can receive : Bool) : Bool := match m.binds[i]? with
    | some b => b.can == can && b.receive == receive
    | none => false
  let out (i : Nat) : Bool := match m.binds[i]? with
    | some b => vitalField m b
    | none => false
  let vital (c : Nat) : Bool := (nth {} c m.outs).inUse && (nth {} c m.outs).owner == 2
  (kd != 1 || (boundRange d.detsrc d.ndet).all (fun c => decide (c < 48) && !owned.contains c)) &&
    (ko != 1 || (boundRange d.outsrc d.nout).all (fun c => decide (c < 24) && vital c)) &&
    (!(kd == 2 || kd == 3) || (boundRange d.detsrc d.ndet).all (fun i => bind i (kd == 3) true)) &&
    (!(ko == 2 || ko == 3) || (boundRange d.outsrc d.nout).all (fun i => bind i (ko == 3) false && out i))

/-- Input channels that a safety configuration owns (R301). -/
def ownedInputs (insts : List (Nat × SfInst)) : List Nat :=
  insts.flatMap (fun p => [p.2.ch1, p.2.ch2, p.2.ch3, p.2.ch4, p.2.fb1, p.2.fb2, p.2.reset].filter named)

/-- Output channels that a safety configuration names. -/
def ownedOutputs (insts : List (Nat × SfInst)) : List Nat :=
  insts.flatMap (fun p => [p.2.out1, p.2.out2, p.2.lamp].filter named)

/-- R222 over a whole table set. -/
def bindingsOk (m : Iomap) (insts : List (Nat × SfInst)) (ts : TableSet) : Bool := ts.elems.all (fun p => bindingOk m (ownedInputs insts) p.2)

/-! ### Safety configuration (R297 to R300) -/

/-- An instance record (R298). -/
def readInst (b : List Byte) : Nat × SfInst :=
  (leAt 0 2 b,
    { typ := leAt 2 1 b, mode := leAt 3 1 b, ch1 := leAt 4 2 b, ch2 := leAt 6 2 b, ch3 := leAt 8 2 b, ch4 := leAt 10 2 b,
      tps := (slice 12 4 b).map (·.toNat), reset := leAt 16 2 b, flags := leAt 18 2 b, disc := leAt 20 4 b, p1 := leAt 24 4 b, p2 := leAt 28 4 b,
      link := leAt 32 2 b, out1 := leAt 34 2 b, out2 := leAt 36 2 b, fb1 := leAt 38 2 b, fb2 := leAt 40 2 b, lamp := leAt 42 2 b,
      permits := leAt 44 8 b, symId := leAt 52 4 b, p3 := leAt 56 4 b })

/-- TYPE and MODE are known. -/
def typeOk (c : SfInst) : Bool :=
  if c.typ = 1 ∨ c.typ = 3 ∨ c.typ = 6 then c.mode == 1 || c.mode == 2
  else if c.typ = 2 ∨ c.typ = 4 ∨ c.typ = 5 then c.mode == 1
  else if c.typ = 7 then c.mode == 0 || c.mode == 1
  else false

/-- The numeric fields lie within R299. -/
def paramsOk (c : SfInst) : Bool :=
  let within (lo hi v : Nat) : Bool := decide (lo ≤ v ∧ v ≤ hi)
  let disc := within 4 12000 c.disc
  let nop := c.p1 == 0 && c.p2 == 0 && c.p3 == 0
  let flags (m : Nat) : Bool := c.flags % 2 ^ 16 == (c.flags &&& m)
  match c.typ with
  | 1 => disc && nop && flags 0
  | 2 => disc && within 0 8 c.p1 && c.p2 == 0 && c.p3 == 0 && flags 0
  | 3 => disc && nop && flags 1
  | 4 => disc && nop && flags 0
  | 5 => disc && within 0 20000 c.p1 && c.p3 == 0 && flags 0
  | 6 => c.disc == 0 && within 120 12000 c.p1 && within 4000 2400000 c.p2 && c.p3 == 0 && flags 0
  | _ => c.disc == 0 && (if c.mode = 0 then c.p1 == 0 else within 4 120000 c.p1) &&
      (if c.flags.testBit 1 then within 80 4000 c.p3 else c.p3 == 0) && flags 2

/-- Channels that a type requires, allows and leaves unused (R299). -/
def channelsOk (c : SfInst) : Bool :=
  let inp (x : Nat) : Bool := decide (x < 48)
  let out (x : Nat) : Bool := decide (x < 24)
  let opt (ok : Nat → Bool) (x : Nat) : Bool := x == 0xFFFF || ok x
  let unused (xs : List Nat) : Bool := xs.all (fun x => x == 0xFFFF)
  let tp (i : Nat) : Nat := nth 0xFF i c.tps
  let tps := c.tps.all (fun t => t == 0xFF || decide (t < 8)) && !(tp 0 == tp 1 && tp 0 != 0xFF) && !(tp 2 == tp 3 && tp 2 != 0xFF)
  let noTp := c.tps.all (fun t => t == 0xFF)
  match c.typ with
  | 2 => inp c.ch1 && inp c.ch2 && inp c.reset && noTp && unused [c.ch3, c.ch4, c.out1, c.out2, c.fb1, c.fb2, c.lamp]
  | 4 => inp c.ch1 && inp c.ch2 && inp c.ch3 && inp c.ch4 && inp c.reset && tps && unused [c.out1, c.out2, c.fb1, c.fb2, c.lamp]
  | 6 => inp c.ch1 && inp c.ch2 && (if c.mode = 2 then inp c.ch3 && inp c.ch4 else opt inp c.ch3 && opt inp c.ch4) && inp c.reset && tps &&
      out c.lamp && unused [c.out1, c.out2, c.fb1, c.fb2]
  | 7 =>
    let mon := c.flags.testBit 1
    out c.out1 && opt out c.out2 && (if mon then inp c.reset else opt inp c.reset) && (!mon || inp c.fb1) && (!(mon && c.out2 != 0xFFFF) || inp c.fb2) &&
      opt inp c.fb1 && opt inp c.fb2 && noTp && unused [c.ch1, c.ch2, c.ch3, c.ch4, c.lamp]
  | _ => inp c.ch1 && inp c.ch2 && inp c.reset && tps && unused [c.ch3, c.ch4, c.out1, c.out2, c.fb1, c.fb2, c.lamp]

/-- Channel sharing over the whole configuration, and ownership of its outputs (R300). -/
def sharingOk (m : Iomap) (insts : List (Nat × SfInst)) : Bool :=
  let ins := insts.flatMap (fun p => [p.2.ch1, p.2.ch2, p.2.ch3, p.2.ch4, p.2.fb1, p.2.fb2].filter named)
  let resets := ((insts.map (·.2.reset)).filter named)
  let outs := ownedOutputs insts
  noRepeat ins && resets.all (fun r => !ins.contains r) && noRepeat outs &&
    outs.all (fun c => (nth {} c m.outs).inUse && (nth {} c m.outs).owner == 1)

/-- LINK and PERMITS (R300). -/
def linksOk (insts : List (Nat × SfInst)) : Bool :=
  let typOf (i : Nat) : Nat := match insts.lookup i with
    | some c => c.typ
    | none => 0
  let muting := insts.filter (fun p => p.2.typ == 6)
  muting.all (fun p => typOf p.2.link == 2) && noRepeat (muting.map (·.2.link)) &&
    (insts.filter (fun p => p.2.typ == 7)).all (fun p =>
      p.2.permits != 0 && ((rangeFrom 0 64).filter p.2.permits.testBit).all (fun i => decide (1 ≤ typOf i ∧ typOf i ≤ 5)))

/-- Distinct reset channels and feedback channels within their number. -/
def sfCapacityOk (insts : List (Nat × SfInst)) : Bool :=
  decide (((insts.map (·.2.reset)).filter named).eraseDups.length ≤ 16) &&
    decide ((insts.flatMap (fun p => [p.2.fb1, p.2.fb2].filter named)).length ≤ 24)

/-- Symbols that instances name (R300). -/
def sfSymbolsOk (ys : List Symbol) (insts : List (Nat × SfInst)) : Bool :=
  let sym (id : Nat) : Option Symbol := ys.find? (fun y => y.id == id)
  insts.all (fun p =>
    (match sym p.2.symId with
      | some y => y.kind == 4 && y.size == 64
      | none => false) &&
    (!(p.2.typ == 5 || p.2.typ == 7) || (match sym p.2.p2 with
      | some y => y.kind == 3 && y.typ == 1 && !y.flags.testBit 2
      | none => false)))

/-- A checked safety configuration: version, CRC-64, instances. -/
abbrev SafetySet := Nat × Nat × List (Nat × SfInst)

/-- The checks of R300 after the header, in the order of the table, against an application image. -/
def checkSafety (a : App) (body : List Byte) : Except Nat SafetySet := do
  let es ← readDir body
  let inst := contentOf 0x0201 es
  need (eachOnce [0x0201, 0x0202] es && inst.length % 64 == 0 && decide (64 ≤ inst.length ∧ inst.length ≤ 4096) &&
    (contentOf 0x0202 es).length == 16) 0x0724
  let id := contentOf 0x0202 es
  let raws := chunks 64 inst
  need (es.all (·.sound) && crc64 inst == leAt 8 8 id && raws.all (fun b => crc32c (b.take 60) == leAt 60 4 b)) 0x0603
  let insts := raws.map readInst
  need (insts.all (fun p => typeOk p.2 && decide (p.1 < 64)) && rising (insts.map (·.1))) 0x0741
  need (insts.all (fun p => paramsOk p.2)) 0x0742
  need (insts.all (fun p => channelsOk p.2) && sharingOk a.iomap insts) 0x0743
  need (linksOk insts) 0x0744
  need (sfCapacityOk insts) 0x0745
  need (sfSymbolsOk a.symbols insts) 0x0746
  pure (leAt 0 4 id, leAt 8 8 id, insts)

/-! ### Schedule table (R399, R400) -/

/-- A slot entry. -/
def readSlot (b : List Byte) : SlotDef :=
  { mode := leAt 0 1 b, kind := leAt 1 1 b, owner := leAt 2 2 b, start := leAt 4 4 b, length := leAt 8 4 b, respoff := leAt 12 4 b,
    stream := leAt 16 2 b, size := leAt 18 2 b }

/-- A stream entry. -/
def readStream (b : List Byte) : StreamDef :=
  { stream := leAt 0 2 b, source := leAt 2 2 b, cls := leAt 4 1 b, timeout := leAt 8 4 b, plen := leAt 12 2 b, connkey := leAt 16 8 b }

/-- The time of a frame of `n` octets on the link: 8 ns an octet with 8 octets of preamble and 12 of gap. -/
def frameNs (n : Nat) : Nat := 8 * (n + 20)

/-- LENGTH that a slot needs at least: the time of its frames plus G (R400). A polled slot ends with its response. -/
def slotNeed (guard : Nat) (d : SlotDef) : Nat :=
  if d.kind = 2 ∨ d.kind = 3 then max (frameNs 64) d.respoff + frameNs d.size + guard
  else if d.kind = 5 then 0
  else frameNs d.size + guard

/-- Slots of one mode laid out as R400 asks. -/
def modeLayoutOk (guard lcyc : Nat) (slots : List SlotDef) : Bool :=
  ((slots.filter (fun d => d.kind == 1)).map (·.start)) == [0] &&
    slots.any (fun d => d.kind == 5 && decide (40000 ≤ d.length)) &&
    slots.all (fun d => decide (d.start + d.length ≤ lcyc * 250000) && decide (slotNeed guard d ≤ d.length)) &&
    disjoint (slots.map (fun d => (d.start, d.length)))

/-- Streams in their ranges, and slots against them (R400). -/
def schedStreamsOk (modes : Nat) (lcyc : List Nat) (slots : List SlotDef) (streams : List StreamDef) : Bool :=
  let used := lcyc.take modes
  streams.all (fun d =>
    decide (d.stream ≤ 65534) && (d.cls == 1 || d.cls == 2) && decide (2 ≤ d.timeout ∧ d.timeout ≤ 40000) && decide (d.plen ≤ 1024) && d.plen % 8 == 0 &&
      (d.cls == 1 || d.connkey == 0) && used.all (fun l => decide (2 * l ≤ d.timeout))) &&
    rising (streams.map (·.stream)) &&
    (slots.filter (fun d => (d.kind == 2 || d.kind == 3) && d.stream != 0xFFFF)).all (fun d =>
      match streams.find? (fun x => x.stream == d.stream) with
      | some x => decide (x.plen + 64 ≤ d.size)
      | none => false) &&
    (rangeFrom 0 modes).all (fun m => noRepeat
      (((slots.filter (fun d => d.mode == m && (d.kind == 2 || d.kind == 3))).map (·.stream)).filter (fun x => x != 0xFFFF)))

/-- Owners of a mode. -/
def modeOwners (m : Nat) (slots : List SlotDef) : List Nat :=
  ((slots.filter (fun d => d.mode == m && (d.kind == 2 || d.kind == 3 || d.kind == 4))).map (·.owner)).eraseDups

/-- Every owner stands in every mode, and no mode has more than 2,048 slots (R400). -/
def schedOwnersOk (modes : Nat) (slots : List SlotDef) : Bool :=
  let own (m : Nat) : List Nat := modeOwners m slots
  (rangeFrom 0 modes).all (fun m => (own 0).all (own m).contains && (own m).all (own 0).contains &&
    decide ((slots.filter (fun d => d.mode == m)).length ≤ 2048))

/-- IOMAP fields of the Efavo network lie in defined streams (R400). -/
def schedBindingsOk (m : Iomap) (streams : List StreamDef) : Bool :=
  let fits (st off n : Nat) : Bool := match streams.find? (fun x => x.stream == st) with
    | some x => decide (off + n ≤ x.plen)
    | none => false
  m.fields.all (fun f => f.can || fits f.stream f.offset 8) && m.binds.all (fun b => b.can || fits b.stream b.offset 1)

/-- The checks of R400 after the header, in the order of the table, against an application image where one is loaded. -/
def checkSchedule (m : Iomap) (body : List Byte) : Except Nat Schedule := do
  let es ← readDir body
  let p := contentOf 0x0301 es
  let sl := contentOf 0x0302 es
  let st := contentOf 0x0303 es
  let id := contentOf 0x0304 es
  let others := (es.filter (fun e => e.typ != 0x0304)).flatMap (·.content)
  need (eachOnce [0x0301, 0x0302, 0x0303, 0x0304] es && p.length == 64 && sl.length % 24 == 0 && st.length % 32 == 0 && id.length == 16 &&
    es.all (·.sound) && crc64 others == leAt 8 8 id) 0x0603
  let modes := leAt 1 1 p
  let lcyc := (chunks 2 (slice 4 16 p)).map leNat
  let guard := leAt 20 4 p
  let accept := leAt 24 4 p
  need (decide (leAt 0 1 p ≤ 254) && decide (1 ≤ modes ∧ modes ≤ 8) && (lcyc.take modes).all (fun l => decide (1 ≤ l ∧ l ≤ 400)) &&
    (lcyc.drop modes).all (fun l => l == 0) && decide (400 ≤ guard ∧ guard ≤ 20000) && decide (200 ≤ accept ∧ 2 * accept ≤ guard)) 0x0751
  let slots := (chunks 24 sl).map readSlot
  let streams := (chunks 32 st).map readStream
  need ((rangeFrom 0 modes).all (fun md => modeLayoutOk guard (nth 0 md lcyc) (slots.filter (fun d => d.mode == md))) &&
    slots.all (fun d => decide (d.mode < modes) && decide (1 ≤ d.kind ∧ d.kind ≤ 5) && decide (64 ≤ d.size ∧ d.size ≤ 1518))) 0x0752
  need (schedStreamsOk modes lcyc slots streams) 0x0753
  need (schedOwnersOk modes slots) 0x0754
  need (schedBindingsOk m streams) 0x0755
  pure { version := leAt 0 4 id, crc := leAt 8 8 id, segment := leAt 0 1 p, modes, lcyc, guard, accept, slots, streams }

/-! ### Headers (R602, R604) -/

/-- The 256 bytes of a header in the fields that the module keeps. -/
def readHeader (b : List Byte) : Header :=
  { cls := leAt 6 2 b, version := leAt 0x10 4 b, reqFw := leAt 0x14 4 b, length := leAt 0x18 8 b, keySet := leAt 0x20 1 b, keySlot := leAt 0x21 1 b,
    keyId := leAt 0x24 4 b, bodyCrc := leAt 0x28 8 b, bodyHash := slice 0x40 64 b }

/-- Class row of R599: the slot pair's number, and the slot size in bytes. -/
def classRow (cls : Nat) : Option (Nat × Nat) :=
  [(0x0001, 0, 32), (0x0002, 1, 4), (0x0003, 2, 4), (0x0004, 3, 8), (0x0010, 4, 128), (0x0011, 5, 256), (0x0012, 6, 1), (0x0013, 7, 1)].findSome?
    (fun r => if r.1 = cls then some (r.2.1, r.2.2 * 2 ^ 20) else none)

/-- A Dorior class. -/
def doriorClass (cls : Nat) : Bool := decide (1 ≤ cls ∧ cls ≤ 4)

/-- The public key that a header names: Dorior's of the key set, or that of an integrator slot. -/
def keyOf (keys : List (List Byte)) (h : Header) : List Byte :=
  if h.keySet = 3 then nth [] h.keySlot keys else toLE 32 (Config.doriorKey h.keySet).toNat

/-- The key that a header names is present and carries its KEYID. -/
def keyOk (keys : List (List Byte)) (h : Header) : Bool :=
  let key := keyOf keys h
  decide (key.length = 32) && leNat ((sha256 key).take 4) == h.keyId

/-- Reserved bytes of a header (R602). -/
def headerReserved (b : List Byte) : Bool :=
  (slice 0x0C 4 b ++ slice 0x23 1 b ++ slice 0x30 16 b ++ slice 0x80 64 b).all (fun x => x == 0)

/-- The checks of R604 in the order of the table; 0 where the header passes. `target` is the download target class. -/
def headerStatus (development : Bool) (keys : List (List Byte)) (target : Nat) (b : List Byte) : Nat :=
  let h := readHeader b
  let dorior := doriorClass h.cls
  if leAt 0 4 b ≠ 0x4E56494D ∨ leAt 4 2 b ≠ 1 ∨ leAt 8 4 b ≠ 0x00030640 then 0x0701
  else if (classRow h.cls).isNone ∨ h.cls ≠ target then 0x0703
  else if (if dorior then h.keySet == 3 else h.keySet == 1 || h.keySet == 2) then 0x0703
  else if h.keySet = 2 ∧ !development then 0x0704
  else if leAt 0x22 1 b ≠ 1 ∨ h.keySet < 1 ∨ 3 < h.keySet ∨ !keyOk keys h then 0x0602
  else if !edVerify (keyOf keys h) (b.take 0xC0) (slice 0xC0 64 b) then 0x0602
  else if !headerReserved b then 0x0101
  else match classRow h.cls with
    | some (_, size) => if h.length < 0x110 ∨ size < h.length then 0x0102 else 0
    | none => 0x0703

/-- A slot whose image passes again at BOOT (R609): a Valid slot whose header's key still stands, the development rule, BODYHASH,
and REQFW not above the firmware's version. 0 where it passes. -/
def slotStatus (development : Bool) (keys : List (List Byte)) (fw : Option Nat) (x : Slot) : Nat :=
  match x.state, x.header with
  | .valid, some h =>
    if h.keySet = 2 ∧ !development then 0x0704
    else if !keyOk keys h then 0x0602
    else if sha512 x.body ≠ h.bodyHash then 0x0602
    else (match fw with
      | some v => if v < h.reqFw then 0x0702 else 0
      | none => 0)
  | _, _ => 0x0241

end Sys2Proof.Machine
end

