-- ==== Sys2Proof/Machine/Load.lean ====
section
/-!
DEFINITION. A consistent set (00 R7): its images taken from their slots and checked together, at BOOT (13 R609 to R611) and for an on-line
change (R618), and put into force.
-/
namespace Sys2Proof.Machine

/-- The images of a consistent set; a member that TABLEREF names as none is absent. -/
structure LoadedSet where
  app : App
  tables : Option TableSet := none
  safety : Option SafetySet := none
  sched : Option Schedule := none

/-- Row of a class in R599: application, table set, safety configuration, schedule table. -/
def rowApp : Nat := 4
/-- Table set. -/
def rowTables : Nat := 5
/-- Safety configuration. -/
def rowSafety : Nat := 6
/-- Schedule table. -/
def rowSched : Nat := 7

/-- Slot A (1) or B (2) of a class row. -/
def Upd.slot (u : Upd) (row which : Nat) : Slot := let p := nth {} row u.slots; if which = 2 then p.b else p.a

/-- A slot changed. -/
def Upd.modSlot (row which : Nat) (f : Slot → Slot) (u : Upd) : Upd :=
  { u with slots := modNth row (fun p => if which = 2 then { p with b := f p.b } else { p with a := f p.a }) u.slots }

/-- An image of a slot that passes R604 and R609. -/
def slotImage (development : Bool) (keys : List (List Byte)) (fw : Nat) (x : Slot) : Except Nat Slot :=
  let st := slotStatus development keys (some fw) x
  if st = 0 then .ok x else .error st

/-- VERSION and BODYCRC of a slot's image. -/
def Slot.ident (x : Slot) : Nat × Nat := match x.header with
  | some h => (h.version, h.bodyCrc)
  | none => (0, 0)

/-- TABLEREF names none by version 0 and CRC-64 0 (R7). -/
def namesNone (version crc : Nat) : Bool := version == 0 && crc == 0

/-- Local channels that a table set or a safety configuration binds are in use (R103). -/
def boundInUse (m : Iomap) (ts : TableSet) (insts : List (Nat × SfInst)) : Bool :=
  let used (c : Nat) : Bool := (nth {} c m.outs).inUse
  ts.elems.all (fun p => (p.2.nout == 0 || srcKind p.2.outsrc != 1) || (boundRange p.2.outsrc p.2.nout).all used) &&
    (ownedOutputs insts).all used

/-- CAN streams have their objects, and their TIMEOUT covers two reference periods (R466). -/
def canBound (env : CEnv) (ds : List CanStream) : Bool :=
  ds.all (fun d =>
    (env.objCfgs d.ctrl).any (fun o => o.binding == d.stream && (o.dir == 1) == d.transmit) &&
      (d.transmit || decide (2 * env.par (0x7830 + d.ctrl) 4 ≤ d.timeout)))

/-- What the members of a set ask of each other: R103 ownership, R222, R466. -/
def checkTogether (env : CEnv) (l : LoadedSet) : Except Nat LoadedSet := do
  let insts : List (Nat × SfInst) := match l.safety with
    | some x => x.2.2
    | none => []
  let ts := l.tables.getD {}
  need (boundInUse l.app.iomap ts insts) 0x0725
  need (bindingsOk l.app.iomap insts ts) 0x0735
  need (canBound env l.app.iomap.can) 0x0762
  pure l

/-- A member named by TABLEREF is the one named (R7). -/
def checkNamed (version crc v c : Nat) : Except Nat Unit := need (v == version && c == crc) 0x0702

/-- What the checks of a set need: keys, firmware version, slots named by the source entries, parameters of the CAN controllers. -/
structure LoadEnv where
  development : Bool
  upd : Upd
  fw : Nat
  appSlot : Nat
  tableSlot : Nat
  safetySlot : Nat
  schedSlot : Nat
  can : CEnv

/-- The set that a BOOT finds in the slots (R611); the first failed check otherwise. -/
def bootSet (env : LoadEnv) : Except Nat LoadedSet := do
  let image (row which : Nat) : Except Nat Slot := slotImage env.development env.upd.keys env.fw (env.upd.slot row which)
  let a ← image rowApp env.appSlot
  let app ← checkApp a.ident.1 a.ident.2 a.body
  let ref := app.ref
  let tables ←
    if namesNone ref.tableVersion ref.tableCrc then pure none
    else do
      let x ← image rowTables env.tableSlot
      let ts ← checkTables x.body
      checkNamed ref.tableVersion ref.tableCrc ts.version ts.crc
      pure (some ts)
  let safety ←
    if namesNone ref.safetyVersion ref.safetyCrc then pure none
    else do
      let x ← image rowSafety env.safetySlot
      let sf ← checkSafety app x.body
      checkNamed ref.safetyVersion ref.safetyCrc sf.1 sf.2.1
      pure (some sf)
  let slot := env.upd.slot rowSched env.schedSlot
  let sched ←
    if slot.state ≠ .valid then pure none
    else do
      let x ← image rowSched env.schedSlot
      let t ← checkSchedule app.iomap x.body
      pure (some t)
  checkTogether env.can { app, tables, safety, sched }

/-- What BOOT and R618 check a set against. -/
def State.loadEnv (s : State) : LoadEnv :=
  { development := s.ident.development, upd := s.upd, fw := s.upd.fwVersion, appSlot := s.par 0xA030 1, tableSlot := s.par 0x4021 1,
    safetySlot := s.par 0x5010 1, schedSlot := s.par 0x7003 1, can := s.cenv }

/-! ### A set put into force -/

/-- Windows of the lane cores' application sets and of the DMA channels (R32, R99). -/
def appWindows (f : FireSet) (l : List (Nat × List Window)) : List (Nat × List Window) :=
  laneIds.foldl (fun l id =>
    let n := id.num
    let l := spSet [] (2 * n) f.vital l
    let l := spSet [] (2 * n + 1) f.fast l
    f.dma.foldl (fun l d => spSet [] (8 + 16 * n + d.1) d.2 l) l) l

/-- Windows that the firmware and voter images carry (R32, R40): runtime sets of the cores, and the one set of every other master. -/
def imageWindows (ws : List (Nat × List Window)) (fw : Firewall) : Firewall :=
  ws.foldl (fun fw p =>
    if p.1 < 6 then { fw with runtime := spSet [] p.1 p.2 fw.runtime } else { fw with app := spSet [] p.1 p.2 fw.app }) fw

/-- Efavo streams that the application sends: those of its transmit fields and output bindings. -/
def efavoSends (m : Iomap) : List Nat :=
  ((m.fields.filter (fun f => !f.can)).map (·.stream) ++ (m.binds.filter (fun b => !b.can && !b.receive)).map (·.stream)).eraseDups

/-- The safety configuration of a set in the safety function unit. -/
def putSafety (x : Option SafetySet) (s : Sfu) : Sfu := match x with
  | some (v, c, insts) => { s with version := v, crc := c, insts, checkers := freshCheckers insts }
  | none => { s with version := 0, crc := 0, insts := [], checkers := [] }

/-- Streams of a set in the comms controllers (R670): nothing accepted, nothing fresh; sessions are those stored. -/
def putStreams (m : Iomap) (s : State) : State :=
  let efl := { s.efl with
    rx := coldStreams m.rx,
    tx := (efavoSends m).map (fun n => { stream := n, session := spGet 0 (sessionKey s.efl n) s.efl.stored }) }
  let can : Can := { s.can with
    defs := m.can,
    tx := (m.can.filter (fun d => d.transmit)).map (fun d => { stream := d.stream, session := spGet 0 d.stream s.can.stored }) }
  { s with efl := efl, can := canCold can }

/-- Streams across an on-line change (R627): those that stay keep their state, SESSION and B; new ones have accepted nothing. -/
def keepStreams (m : Iomap) (s : State) : State :=
  let rx (old : List RxStream) (ns : List Nat) : List RxStream := ns.map (fun n => (old.find? (fun x => x.stream == n)).getD { stream := n })
  let efl := { s.efl with
    rx := rx s.efl.rx m.rx,
    tx := (efavoSends m).map (fun n => (s.efl.tx.find? (fun x => x.stream == n)).getD { stream := n, session := spGet 0 (sessionKey s.efl n) s.efl.stored }) }
  let can : Can := { s.can with
    defs := m.can,
    rx := rx s.can.rx ((m.can.filter (fun d => !d.transmit)).map (·.stream)),
    tx := (m.can.filter (fun d => d.transmit)).map (fun d =>
      (s.can.tx.find? (fun x => x.stream == d.stream)).getD { stream := d.stream, session := spGet 0 d.stream s.can.stored }) }
  { s with efl := efl, can := can }

/-- The checkers after an on-line change: each starts disarmed (R316); the filter and the counts of a channel that stays go on. -/
def carryCheckers (old : List Checker) (insts : List (Nat × SfInst)) : List Checker :=
  (freshCheckers insts).map (fun c => match old.find? (fun o => o.chan == c.chan) with
    | some o => { c with filt := o.filt, accepted := o.accepted, short := o.short, jams := o.jams }
    | none => c)

/-- A new safety configuration in force (R624, R625): instances whose record is the same keep their state; every checker is disarmed. -/
def changeSafety (x : SafetySet) (s : Sfu) : Sfu :=
  let states := s.states.filter (fun p => match s.insts.lookup p.1, x.2.2.lookup p.1 with
    | some a, some b => a == b
    | _, _ => false)
  { putSafety (some x) s with states := states, checkers := carryCheckers s.checkers x.2.2 }

/-- A set that BOOT has found, in force (R610, R611, R666). -/
def installSet (l : LoadedSet) (s : State) : State :=
  let used (row which : Nat) (b : Bool) (u : Upd) : Upd := if b then u.modSlot row which (fun x => { x with loaded := true }) else u
  let env := s.loadEnv
  let u := used rowApp env.appSlot true s.upd
  let u := used rowTables env.tableSlot l.tables.isSome u
  let u := used rowSafety env.safetySlot l.safety.isSome u
  let u := used rowSched env.schedSlot l.sched.isSome u
  let sfu := putSafety l.safety s.sfu
  let s := putStreams l.app.iomap { s with efl := { s.efl with sched := l.sched } }
  { s with
    upd := { u with app := some l.app, consistent := true },
    ite := { s.ite with bank0 := some (l.tables.getD {}), activeBank := 0 },
    sfu := sfu, sfuW := sfu,
    fw := { s.fw with app := appWindows l.app.fire s.fw.app },
    evt := { s.evt with masks := l.app.evtInit },
    voter := { s.voter with stsize := stateLines (some l.app) },
    frame := { s.frame with k := l.app.k } }

end Sys2Proof.Machine
end

