-- ==== Sys2Proof/Machine/Lops.lean ====
section
/-!
DEFINITION. Long operations (01_module_architecture.md R60 to R65): table load (04 R220, R221), checkpoint transfer (10 R503), change-log
export (11 R554) and image download (13 R605, R606), with suspend, resume and cancel.
-/
namespace Sys2Proof.Machine

/-! ### Slots in use (R601) -/

/-- A change in states 1 to 3 names a slot (R620). -/
def Upd.namedByChange (u : Upd) (row which : Nat) : Bool := match u.change.cand with
  | some c =>
    u.change.state.pending &&
      ((row == rowApp && c.appSlot == which) || (row == rowSafety && c.safetySlot == which) || (row == rowSched && c.schedSlot == which))
  | none => false

/-- State code of a slot (R601). -/
def Upd.slotCode (u : Upd) (row which : Nat) : Nat :=
  let x := u.slot row which
  match x.state with
  | .empty => 0
  | .invalid => 1
  | .writing => 2
  | .valid => if x.loaded || u.namedByChange row which then 4 else 3

/-! ### Commands of a long operation (R61) -/

/-- The long operation at an index. -/
def LongOps.get (index : Nat) (l : LongOps) : LongOp :=
  if index = 0x4020 then l.tableLoad else if index = 0x8020 then l.checkpoint else if index = 0x9020 then l.logExport else l.download

/-- A long operation changed. -/
def modLop (index : Nat) (f : LongOp → LongOp) (s : State) : State :=
  let l := s.lops
  { s with lops :=
    if index = 0x4020 then { l with tableLoad := f l.tableLoad }
    else if index = 0x8020 then { l with checkpoint := f l.checkpoint }
    else if index = 0x9020 then { l with logExport := f l.logExport }
    else { l with download := f l.download } }

/-- Right of a command entry: the table load needs the engineer password, the others level 1. -/
def lopRight (index : Nat) : Right := if index = 0x4020 then .rwE else .rwM

/-- The indexes of the long operations. -/
def lopIndexes : List Nat := [0x4020, 0x8020, 0x9020, 0xA020]

/-- A command write at a long operation. -/
def lopJob (index v : Nat) (checks : List Nat) (eff : State → State) : Job :=
  { right := lopRight index, bad := checks, log := if index = 0x4020 then some (1, 0, v) else none, eff }

/-- What a cancelled or failed operation leaves (R62): an export incomplete, a full image unfinished, a slot to be erased. -/
def abandon (index : Nat) (s : State) : State :=
  if index = 0x8020 then
    let own := match s.pair.sending with
      | some x => x.transfer
      | none => false
    { s with pair :=
      { s.pair with transferDue := false, transferCycle := none, sending := if own then none else s.pair.sending } }
  else if index = 0xA020 then
    let row := ((classRow s.upd.dlClass).map (·.1)).getD 0
    { s with upd :=
      { s.upd.modSlot row s.upd.dlSlot (fun x => { x with state := .invalid, header := none, body := [] }) with
        dlHeader := none, dlBody := [], erasing := true } }
  else if index = 0x9020 then { s with dict := { s.dict with exportComplete := false } }
  else s

/-- A write of suspend, resume or cancel (R61). -/
def lopCommand (index v : Nat) (s : State) : Job :=
  let o := s.lops.get index
  if v = 2 then
    lopJob index v [bad (o.state != .running) 0x0202] (fun s => modLop index (fun o => { o with state := .suspended, suspendedAt := s.tick }) s)
  else if v = 3 then lopJob index v [bad (o.state != .suspended) 0x0202] (modLop index (fun o => { o with state := .running }))
  else
    lopJob index v [bad (!o.live) 0x0202] (fun s => abandon index (modLop index (LongOp.finish .cancelled 0) s))

/-- A command for an index that is no long operation changes nothing. -/
def lopRequest (r : Req) (index v : Nat) (s : State) : State :=
  if lopIndexes.contains index then hostWrite r index 1 (lopCommand index v) s else s

/-- LONG_OPERATION_SUSPEND (R61). -/
def execLongOperationSuspend (r : Req) (index : Nat) (s : State) : Host.Outcome State Fault Refusal := act (lopRequest r index 2) s

/-- LONG_OPERATION_RESUME (R61). -/
def execLongOperationResume (r : Req) (index : Nat) (s : State) : Host.Outcome State Fault Refusal := act (lopRequest r index 3) s

/-- LONG_OPERATION_CANCEL (R61, R62). -/
def execLongOperationCancel (r : Req) (index : Nat) (s : State) : Host.Outcome State Fault Refusal := act (lopRequest r index 4) s

/-- A long operation has been suspended for longer than the limit in 0x2040:01 (R63). -/
def State.suspendedTooLong (index : Nat) (s : State) : Bool :=
  let o := s.lops.get index
  o.state == .suspended && decide (o.suspendedAt + 4000 * s.par 0x2040 1 < s.tick)

/-- SUSPEND_LIMIT_EXPIRY (R63). -/
def execSuspendLimitExpiry (index : Nat) (s : State) : Host.Outcome State Fault Refusal :=
  act (only (fun s => lopIndexes.contains index && s.suspendedTooLong index)
    (fun s => abandon index (modLop index (LongOp.finish .cancelled 0x0502) s))) s

/-- An operation that starts: Running, progress 0 (R61). -/
def LongOp.start (total : Nat) : LongOp := { state := .running, total }

/-! ### Table load (R220, R221) -/

/-- A download into an application slot is Running or Suspended (R65). -/
def State.loadingApp (s : State) : Bool := s.lops.download.live && s.upd.dlClass == 0x0010

/-- What a table load finds in the source slot: the table set, or the status of the first failed check (R221). -/
def State.tableSource (s : State) : Except Nat TableSet := do
  let x ← slotImage s.ident.development s.upd.keys s.upd.fwVersion (s.upd.slot rowTables (s.par 0x4021 1))
  checkTables x.body

/-- Records of a table set: element and route definitions. -/
def TableSet.records (ts : TableSet) : Nat := ts.elems.length + ts.routes.length

/-- Records that a table load will write; 0 where its checks fail. -/
def State.tableTotal (s : State) : Nat := match s.tableSource with
  | .ok ts => ts.records
  | .error _ => 0

/-- A start at 0x4020:01 (R220, R65, R620). -/
def tableLoadJob (s : State) : Job :=
  lopJob 0x4020 1
    [bad (s.sys.mode == .boot || s.sys.mode == .recovery || s.sys.mode == .safe) 0x0201,
     bad (s.lops.tableLoad.live || s.loadingApp || s.upd.change.state.pending) 0x0501]
    (fun s => { modLop 0x4020 (fun _ => LongOp.start s.tableTotal) s with ite := { s.ite with inactiveOk := false } })

/-- TABLE_LOAD_START (R220). -/
def execTableLoadStart (r : Req) (s : State) : Host.Outcome State Fault Refusal := act (hostWrite r 0x4020 1 tableLoadJob) s

/-- The inactive bank. -/
def putInactive (ts : TableSet) (s : State) : State :=
  let i := s.ite
  { s with ite :=
    if i.activeBank = 0 then { i with bank1 := some ts, inactiveOk := true } else { i with bank0 := some ts, inactiveOk := true } }

/-- A table load comes to its end (R221). -/
def tableLoadEnd (s : State) : State := match s.tableSource with
  | .ok ts => putInactive ts (modLop 0x4020 (fun o => { o.finish .done 0 with progress := ts.records, total := ts.records }) s)
  | .error st => modLop 0x4020 (LongOp.finish .failed st) s

/-- TABLE_LOAD_COMPLETE (R221). -/
def execTableLoadComplete (s : State) : Host.Outcome State Fault Refusal :=
  act (only (fun s => s.lops.tableLoad.state == .running) tableLoadEnd) s

/-! ### Checkpoint transfer (R503) -/

/-- A start at 0x8020:01: a full image in progress is adopted, otherwise one is due at the next vital commit. -/
def checkpointJob (s : State) : Job :=
  lopJob 0x8020 1
    [bad (s.sys.mode != .run) 0x0201, bad (!s.pair.linkUp) 0x0230, bad s.lops.checkpoint.live 0x0501]
    (fun s =>
      let total := 64 * stateLines s.upd.app
      let s := modLop 0x8020 (fun _ => LongOp.start total) s
      match s.pair.sending with
      | some x =>
        let s := modLop 0x8020 (fun o => { o with progress := 64 * x.next }) s
        { s with pair := { s.pair with sending := some { x with transfer := true }, transferCycle := some x.snap.cycle } }
      | none => { s with pair := { s.pair with transferDue := true, transferCycle := none } })

/-- CHECKPOINT_TRANSFER_START (R503). -/
def execCheckpointTransferStart (r : Req) (s : State) : Host.Outcome State Fault Refusal := act (hostWrite r 0x8020 1 checkpointJob) s

/-! ### Change-log export (R554) -/

/-- The export output: header, and every entry held. -/
def State.exportBytes (s : State) : List Byte :=
  let d := s.dict
  let first := match d.log with
    | e :: _ => e.seqNo
    | [] => d.logNext
  toBE 4 first ++ toBE 4 d.log.length ++ toBE 4 d.logCheckBefore ++ zeros 4 ++ toBE 8 s.ident.uniqueId ++ toBE 8 s.tick ++ d.log.flatMap logBytes

/-- Every CHECK of a chain holds (R552). -/
def chainHolds : Nat → List LogEntry → Bool
  | _, [] => true
  | before, e :: es => e.check == logCheck before e && chainHolds e.check es

/-- A start at 0x9020:01. -/
def exportJob (s : State) : Job :=
  lopJob 0x9020 1 [bad s.lops.logExport.live 0x0501]
    (fun s =>
      let d := s.dict
      let s := modLop 0x9020 (fun _ => LongOp.start d.log.length) s
      let last := match d.log.getLast? with
        | some e => e.seqNo
        | none => 2 ^ 32
      { s with dict :=
        { d with exportOut := s.exportBytes, exportLast := last, exportBefore := d.logCheckBefore, exportLog := d.log, exportComplete := false } })

/-- CHANGE_LOG_EXPORT_START (R554). -/
def execChangeLogExportStart (r : Req) (s : State) : Host.Outcome State Fault Refusal := act (hostWrite r 0x9020 1 exportJob) s

/-- The end of an export: Done with event 244, or Failed with event 243 where a CHECK fails. -/
def exportEnd (s : State) : State :=
  let d := s.dict
  if chainHolds d.exportBefore d.exportLog then
    raise 244
      { modLop 0x9020 (fun o => { o.finish .done 0 with progress := o.total }) s with dict := { d with exportComplete := true, exportLog := [] } }
  else raise 243 (modLop 0x9020 (LongOp.finish .failed 0x0604) s)

/-- CHANGE_LOG_EXPORT_DONE (R554). -/
def execChangeLogExportDone (s : State) : Host.Outcome State Fault Refusal :=
  act (only (fun s => s.lops.logExport.state == .running) exportEnd) s

/-! ### Image download: start and erasure (R605, R606, R633) -/

/-- Class and size row of a header; row 0 for a class that R599 does not know. -/
def rowOf (cls : Nat) : Nat := ((classRow cls).map (·.1)).getD 0

/-- Checks of a start at 0xA020:01 (R606, R61, R65, R633). -/
def downloadChecks (s : State) : List Nat :=
  let u := s.upd
  let cls := match u.staged with
    | some h => h.cls
    | none => u.target
  [bad u.staged.isNone 0x0202, bad (doriorClass cls && u.targetSlot == 1 && s.sys.mode != .recovery) 0x0101,
   bad (u.staged.isSome && u.slotCode (rowOf cls) u.targetSlot == 4) 0x0240,
   bad (s.lops.download.live || (cls == 0x0010 && s.lops.tableLoad.live)) 0x0501, bad u.erasing 0x0503]

/-- The target slot erased, and the download running. -/
def downloadStart (s : State) : State := match s.upd.staged with
  | none => s
  | some h =>
    let u := s.upd.modSlot (rowOf h.cls) s.upd.targetSlot (fun _ => { state := .writing, header := none, body := [] })
    { modLop 0xA020 (fun _ => LongOp.start (h.length - 256)) s with upd :=
      { u with staged := none, dlHeader := some h, dlClass := h.cls, dlSlot := u.targetSlot, dlBody := [] } }

/-- A start at 0xA020:01. -/
def downloadJob (s : State) : Job := lopJob 0xA020 1 (downloadChecks s) downloadStart

/-- IMAGE_DOWNLOAD_START (R606). -/
def execImageDownloadStart (r : Req) (s : State) : Host.Outcome State Fault Refusal := act (hostWrite r 0xA020 1 downloadJob) s

/-- SLOT_ERASED (R633). -/
def execSlotErased (s : State) : Host.Outcome State Fault Refusal :=
  act (only (fun s => s.upd.erasing) (fun s => { s with upd := { s.upd with erasing := false } })) s

end Sys2Proof.Machine
end

