-- ==== Sys2Proof/Machine/Entries.lean ====
section
/-!
DEFINITION. The entries of the object dictionary as they read (the dictionary tables of every chapter, R517 to R521): type, access right and
value. A READ reads them as they stood at the last input latch.
-/
namespace Sys2Proof.Machine

/-- An entry: type, access right, value as it reads. -/
structure Entry where
  typ : DType
  right : Right
  val : Val

/-- A read-only entry. -/
def ro (typ : DType) (n : Nat) : Option Entry := some { typ, right := .ro, val := .num n }

/-- A read-only BOOL. -/
def roBool (b : Bool) : Option Entry := ro .bool (boolNat b)

/-- A read-only paired word, as R10 carries it. -/
def roPair (v : Nat) : Option Entry := ro .pair32 (pairWord (v % 2 ^ 32))

/-- A read-only string. -/
def roString (bs : List Byte) : Option Entry := some { typ := .string, right := .ro, val := .bytes bs }

/-- A write-only entry. -/
def wo (typ : DType) (right : Right) : Option Entry := some { typ, right, val := .num 0 }

/-- An entry that reads back what was last written and is no parameter. -/
def kept (typ : DType) (right : Right) (s : State) (index sub : Nat) : Option Entry :=
  some { typ, right, val := .num (parValue s.params index sub) }

/-- The subindexes of a long operation (R60). -/
def lopEntry (s : State) (index sub : Nat) : Option Entry :=
  let o := s.lops.get index
  match sub with
  | 1 => wo .u8 (if index = 0x4020 then .woE else .woM)
  | 2 => ro .u8 o.state.code
  | 3 => ro .u32 o.progress
  | 4 => ro .u32 o.total
  | 5 => ro .u16 o.result
  | _ => none

/-- The lane whose values the statistics report (R284, R340). -/
def State.reportLane (s : State) : LaneId := s.greens.headD .c

/-! ### 0x1000 to 0x2FFF -/

/-- Bytes of a text. -/
def textBytes (t : String) : List Byte := t.toList.map (fun c => BitVec.ofNat 8 c.toNat)

/-- Ordering code as text (R2). -/
def OrderCode.text : OrderCode → String
  | .wayside => "NV3-Y64-W" | .rolling => "NV3-Y64-T" | .development => "NV3-Y64-D"

/-- Degradation bits of R26. -/
def State.degradation (s : State) : Nat :=
  let f := s.frozen
  bitIf 0 (f.lanes.a.colour != .green) + bitIf 1 (f.lanes.b.colour != .green) + bitIf 2 (f.lanes.c.colour != .green) + bitIf 3 f.voter.dual +
    2 ^ 4 * maskOf (fun g => g.retired) f.fio.groups + 2 ^ 10 * maskOf (fun p => p.retired) f.efl.ports +
    2 ^ 14 * maskOf (fun c => c.state == .retired) f.can.ctls + bitIf 18 (s.member && !f.pair.linkUp) +
    bitIf 19 (decide ((4096 - f.pair.shale.pagesRetired) * 1024 < 2 * stateLines s.upd.app)) + bitIf 20 (f.pwr.lost.testBit 5) + bitIf 21 s.commsLost

/-- Entries of 0x1000 to 0x1FFF. -/
def entries1 (s : State) (index sub : Nat) : Option Entry :=
  match index, sub with
  | 0x1000, 1 => roString (textBytes "Nirvo NV3-Y64")
  | 0x1000, 2 => roString s.ident.serial
  | 0x1000, 3 => ro .u16 s.ident.hwRev
  | 0x1000, 4 => ro .u32 s.upd.fwVersion
  | 0x1000, 5 => ro .u32 s.upd.voterVersion
  | 0x1010, 1 => roString (textBytes s.ident.order.text)
  | 0x1010, 2 => ro .u8 (if s.ident.development then 2 else 1)
  | 0x1010, 3 => ro .u8 (if s.ident.development then 0 else Config.freeValue 8 s.freeCtr % 2 ^ 8)
  | 0x1100, 3 => wo .u8 .woE
  | 0x1200, 1 => ro .u8 (openSessionCount s.dict)
  | 0x1200, 3 => ro .u32 s.dict.discarded
  | 0x1200, 4 => ro .u32 s.dict.dropped
  | 0x1200, 5 => ro .u32 s.dict.failedProofs
  | 0x1210, 1 => wo .domain .woE
  | 0x1210, 2 => wo .domain .woE
  | 0x1210, 3 => ro .u8 (bitIf 0 s.dict.engineer.isSome + bitIf 1 s.dict.maintainer.isSome)
  | _, _ => none
where
  /-- Sessions open (R537). -/
  openSessionCount (d : Dict) : Nat := (d.sessions.filter (fun x => x.phase == .opened)).length

/-- Entries of 0x2000 to 0x2FFF. -/
def entries2 (s : State) (index sub : Nat) : Option Entry :=
  let f := s.frozen
  match index, sub with
  | 0x2000, 1 => ro .u8 f.mode.code
  | 0x2000, 2 => kept .u8 .rwE s index sub
  | 0x2000, 4 => kept .u8 .rwM s index sub
  | 0x2000, 5 => ro .u8 s.sys.safeCause
  | 0x2000, 6 => ro .u16 s.sys.bootStatus
  | 0x2001, 1 => ro .u32 s.degradation
  | 0x2030, 1 => ro .u16 s.frame.k
  | 0x2030, 2 => ro .u64 f.cycle
  | 0x2030, 3 => ro .u64 f.tick
  | 0x2031, 3 => ro .u16 (s.frame.overruns.filter (fun t => decide (f.tick < t + 14400000))).length
  | 0x2031, 4 => ro .u8 s.frame.longestOverrun
  | 0x2031, 5 => ro .u32 s.frame.longestVitalNs
  | 0x2032, 1 => ro .u32 s.frame.longestFastNs
  | 0x2050, 2 => ro .u8 f.ref.code
  | 0x2050, 3 => ro .i32 (ofInt 32 s.frame.offsetNs)
  | 0x2060, 3 => ro .u8 s.sys.lastRestart
  | 0x2060, 4 => ro .u16 s.sys.fallBack
  | 0x2070, 1 => ro .u32 f.pwr.mv
  | 0x2070, 2 => ro .i16 (ofInt 16 f.pwr.temp)
  | 0x2070, 3 => ro .i16 (ofInt 16 (f.pwr.tempMax.getD f.pwr.temp))
  | 0x2070, 4 => ro .u16 (supReg f 4 % 2 ^ 12)
  | 0x2070, 5 => roBool f.pwr.ejectOpen
  | 0x2071, 1 => ro .u32 f.pwr.hours
  | 0x2071, 2 => ro .u32 f.pwr.powerUps
  | 0x2080, 1 => roBool f.pwr.station.valid
  | 0x2080, 2 => ro .u64 f.pwr.station.tai
  | 0x2080, 3 => ro .i16 f.pwr.station.utcOff
  | _, _ => none

/-! ### 0x3000 to 0x5FFF -/

/-- Entries of 0x3000 to 0x3FFF. -/
def entries3 (s : State) (index sub : Nat) : Option Entry :=
  let f := s.frozen
  let lane (n : Nat) : LaneId := if n = 1 then .a else if n = 2 then .b else .c
  match index, sub with
  | 0x3000, 4 => ro .u8 (f.lanes.count (fun l => l.colour == .green))
  | 0x3020, 1 => kept .u8 .rwM s index sub
  | 0x3020, 2 => kept .u8 .rwM s index sub
  | 0x3021, 1 => ro .u8 f.voter.radmStep.code
  | 0x3021, 2 => ro .u8 (match f.voter.radmLane with
    | some l => l.num + 1
    | none => 0)
  | 0x3030, 2 => ro .u64 f.voter.stStart
  | 0x3030, 3 => ro .u16 f.voter.stResult
  | 0x3030, 4 => ro .u32 f.voter.stCompleted
  | 0x3030, 5 => wo .u8 .woM
  | _, _ =>
    if 1 ≤ sub ∧ sub ≤ 3 then
      (if index = 0x3000 then ro .u8 (f.lanes.get (lane sub)).colour.code
      else if index = 0x3040 then ro .u32 (s.lane (lane sub)).disagreements
      else none)
    else none

/-- Entries of 0x4000 to 0x4FFF. Element and route records are those of the last vital commit (R230). -/
def entries4 (s : State) (index sub : Nat) : Option Entry :=
  let t := s.tables
  let i := s.ite
  let inactive := (if i.activeBank = 0 then i.bank1 else i.bank0).getD {}
  match index, sub with
  | 0x4000, 1 => ro .u32 t.version
  | 0x4000, 2 => ro .u64 t.crc
  | 0x4000, 3 => ro .u32 t.elems.length
  | 0x4000, 4 => ro .u16 t.routes.length
  | 0x4000, 5 => ro .u8 i.activeBank
  | 0x4010, 2 => ro .u32 (if s.vit.restartRun then (s.par 0x4010 1 * 4000 - s.vit.restartTicks) / 4 else 0)
  | 0x4021, 2 => ro .u8 (boolNat i.inactiveOk)
  | 0x4021, 3 => ro .u32 (if i.inactiveOk then inactive.version else 0)
  | 0x4100, 1 => kept .u16 .rw s index sub
  | 0x4101, 1 => kept .u32 .rwM s index sub
  | 0x4101, 2 => ro .u16 i.cmdOutcome
  | 0x4101, 3 => ro .u32 i.cmdCycle
  | 0x4101, 4 => ro .u32 i.cmdDiscarded
  | 0x4110, 1 => kept .u16 .rw s index sub
  | 0x4120, 1 => kept .u32 .rwM s index sub
  | 0x4120, 2 => ro .u16 i.dictOutcome
  | 0x4120, 3 => ro .u32 i.dictCycle
  | 0x4140, 1 => ro .u16 i.setQ.length
  | 0x4140, 2 => ro .u16 i.cancelQ.length
  | 0x4140, 3 => ro .u16 (activeRoutes s.vit)
  | 0x4140, 4 => ro .u8 i.maxWait
  | 0x4140, 5 => ro .u32 i.specOk
  | 0x4140, 6 => ro .u32 i.specBad
  | 0x4140, 7 => ro .u32 i.specCan
  | 0x4140, 8 => ro .u32 (i.maxClk / 2)
  | _, _ =>
    if index = 0x4020 then lopEntry s index sub
    else if index = 0x4100 ∧ 2 ≤ sub ∧ sub ≤ 9 then roPair (nth 0 (sub - 2) (elemWords (elemOf s.vit (parValue s.params 0x4100 1))))
    else if index = 0x4110 ∧ 2 ≤ sub ∧ sub ≤ 5 then roPair (nth 0 (sub - 2) (routeWords (routeOf s.vit (parValue s.params 0x4110 1))))
    else none

/-- Entries of 0x5000 to 0x5FFF, as they stood at the last output commit (R340). The model measures no SFU time: 0x5001:01 is free. -/
def entries5 (s : State) (index sub : Nat) : Option Entry :=
  let u := s.sfu
  if index = 0x5000 then
    (match sub with
      | 1 => ro .u32 u.version | 2 => ro .u64 u.crc | 3 => ro .u8 u.insts.length | 4 => ro .u8 u.checkers.length | _ => none)
  else if index = 0x5001 ∧ sub = 1 then ro .u32 (Config.freeValue 32 s.freeCtr % 2 ^ 32)
  else if 0x5100 ≤ index ∧ index < 0x5140 then
    let d := u.insts.lookup (index - 0x5100)
    let x := sfOf u (index - 0x5100)
    let val (n : Nat) : Nat := if d.isSome then n else 0
    (match sub with
      | 1 => ro .u8 (match d with
        | some c => c.typ
        | none => 0)
      | 2 => ro .u8 (val x.state) | 3 => ro .u8 (val x.fault) | 4 => ro .bool (val (boolNat x.permit)) | 5 => ro .u64 (val x.stampFull)
      | 6 => roPair (val (sfStateWord x)) | 7 => ro .u32 (val x.trips) | _ => none)
  else if 0x5200 ≤ index ∧ index < 0x5210 then
    let c : Checker := nth { chan := 0xFF } (index - 0x5200) u.checkers
    (match sub with
      | 1 => ro .u8 c.chan | 2 => ro .u32 c.accepted | 3 => ro .u32 c.short | 4 => ro .u32 c.jams | 5 => roBool c.jammed | _ => none)
  else if index = 0x5F00 then (match sub with
    | 1 => ro .u8 u.diag.length | 2 => wo .u8 .woM | _ => none)
  else if index = 0x5F01 ∧ 1 ≤ sub ∧ sub ≤ 0x40 then ro .u64 (nth 0 (sub - 1) u.diag)
  else none

/-! ### 0x6000 to 0x7FFF -/

/-- Entries of 0x6000 to 0x6FFF. -/
def entries6 (s : State) (index sub : Nat) : Option Entry :=
  let f := s.frozen
  let reg2 (o : Nat) : Nat := fioReg f o + 2 ^ 32 * fioReg f (o + 4)
  if index = 0x6000 then
    (match sub with
      | 1 => ro .u64 (reg2 0x08) | 2 => ro .u64 (reg2 0x10) | 3 => ro .u32 (fioReg f 0x18) | 4 => ro .u64 (reg2 0x20) | 5 => ro .u32 (fioReg f 0x28)
      | _ => none)
  else if index = 0x6020 then (match sub with
    | 1 => wo .u8 .woM | 2 => ro .u8 f.fio.reset.code | _ => none)
  else if 0x6030 ≤ index ∧ index < 0x6036 ∧ sub = 2 then ro .u16 (gstatWord f.fio (index - 0x6030) % 2 ^ 16)
  else if 0x6040 ≤ index ∧ index < 0x6043 then
    let x := nth {} (index - 0x6040) f.fio.supplies
    (match sub with
      | 1 => ro .u16 x.mv | 2 => ro .u32 x.occurrences | _ => none)
  else if 0x6100 ≤ index ∧ index < 0x6118 then
    let c := nth {} (index - 0x6100) f.fio.outs
    (match sub with
      | 3 => ro .u16 c.current | 4 => ro .u32 c.count | 5 => roBool c.openLoad | _ => none)
  else if 0x6200 ≤ index ∧ index < 0x6230 ∧ sub = 4 then ro .u32 (nth {} (index - 0x6200) f.fio.ins).count
  else none

/-- The entries of a receive stream slot. -/
def rxEntry (l : List RxStream) (slot sub : Nat) : Option Entry :=
  let x : RxStream := nth { stream := 0xFFFF } slot l
  match sub with
  | 1 => ro .u16 x.stream | 2 => roBool x.fresh | 3 => ro .u64 (x.session % 2 ^ 16 * 2 ^ 32 + x.seq) | 4 => ro .u32 x.countOk
  | 5 => ro .u32 x.gaps | 6 => ro .u32 x.codeFails | 7 => ro .u32 x.stales | _ => none

/-- Entries of 0x7000 to 0x77FF. -/
def entries70 (s : State) (index sub : Nat) : Option Entry :=
  let e := s.frozen.efl
  match index, sub with
  | 0x7000, 1 => ro .u16 e.address
  | 0x7000, 2 => ro .u8 e.nodes
  | 0x7000, 3 => ro .u16 e.topoCounter
  | 0x7000, 4 => roBool e.master
  | 0x7000, 5 => ro .u64 e.masterKey
  | 0x7000, 6 => ro .u8 e.lock.code
  | 0x7000, 7 => ro .i32 (ofInt 32 e.offset)
  | 0x7000, 8 => ro .u64 e.latchCycle
  | 0x7001, 2 => ro .u64 s.ident.uniqueId
  | 0x7002, 1 => ro .u8 e.mode
  | 0x7002, 2 => kept .u8 .rwM s index sub
  | 0x7002, 3 => ro .u16 e.swOutcome
  | 0x7003, 2 => ro .u32 ((e.sched.map (·.version)).getD 0)
  | 0x7003, 3 => ro .u64 ((e.sched.map (·.crc)).getD 0)
  | 0x7004, 1 => wo .u8 .woM
  | 0x7030, 1 => roBool e.overload
  | 0x7030, 2 => ro .u32 e.dropped
  | _, _ =>
    if 0x7020 ≤ index ∧ index < 0x7024 then
      let p := nth {} (index - 0x7020) e.ports
      (match sub with
        | 1 => ro .u8 (if p.retired then 2 else boolNat p.up) | 2 => ro .u32 p.crcErrors | 3 => ro .u32 p.slotErrors | 4 => ro .u32 p.topoErrors
        | 6 => ro .u32 p.delay | _ => none)
    else if 0x7100 ≤ index ∧ index < 0x7300 then rxEntry e.rx (index - 0x7100) sub
    else none

/-- Enabled rules of a controller: extended format in bits 15:8, base format in bits 7:0 (R447). -/
def ruleCounts (rs : List RuleCfg) : Nat :=
  let ext := (rs.filter (fun r => r.cls.testBit 0)).length
  256 * ext + (rs.length - ext)

/-- Entries of 0x7800 to 0x7FFF. -/
def entries78 (s : State) (index sub : Nat) : Option Entry :=
  let c := s.frozen.can
  if 0x7820 ≤ index ∧ index < 0x7824 then
    let n := index - 0x7820
    let x := nth {} n c.ctls
    (match sub with
      | 1 => ro .u8 x.state.code | 4 => ro .u8 (min 255 x.tec) | 5 => ro .u8 (min 128 x.rcv) | 6 => ro .u32 x.sent | 7 => ro .u32 x.accepted
      | 8 => ro .u32 x.rejected | 9 => ro .u16 (retiredObjs x) | 0x0A => ro .u16 (ruleCounts (s.cenv.rules n)) | _ => none)
  else if 0x7830 ≤ index ∧ index < 0x7834 then
    let x := nth {} (index - 0x7830) c.ctls
    (match sub with
      | 5 => roBool (x.synced || x.master) | 6 => ro .i32 (ofInt 32 x.offset) | 7 => ro .u8 (x.masterIdx.getD 0xFF) | _ => none)
  else if 0x7840 ≤ index ∧ index < 0x7844 then
    (match sub with
      | 1 => wo .u8 .woM | 2 => ro .u8 (nth {} (index - 0x7840) c.ctls).cancelOutcome | _ => none)
  else if 0x7880 ≤ index ∧ index < 0x7900 then rxEntry c.rx (index - 0x7880) sub
  else if 0x7C00 ≤ index ∧ index < 0x8000 then
    let o : CanObj := spGet {} ((index - 0x7C00) % 256) (nth {} ((index - 0x7C00) / 256) c.ctls).objs
    (match sub with
      | 6 => ro .u8 o.outcome | 7 => roBool o.retired | 8 => ro .u32 o.frames | _ => none)
  else none

/-! ### 0x8000 to 0xAFFF -/

/-- Entries of 0x8000 to 0x8FFF. -/
def entries8 (s : State) (index sub : Nat) : Option Entry :=
  let f := s.frozen
  let p := f.pair
  match index, sub with
  | 0x8000, 1 => ro .u8 f.pairRole
  | 0x8000, 2 => roBool f.pairSync
  | 0x8000, 3 => ro .u8 p.position
  | 0x8000, 4 => ro .u16 f.pairCause
  | 0x8000, 5 => ro .u8 p.partnerMode
  | 0x8000, 6 => ro .u64 p.fullCycle
  | 0x8000, 7 => ro .u64 p.deltaCycle
  | 0x8000, 8 => ro .i32 (ofInt 32 p.offset)
  | 0x8013, 1 => ro .u32 p.takeovers
  | 0x8013, 2 => ro .u32 p.pulls
  | 0x8013, 3 => ro .u32 p.mismatches
  | 0x8030, 1 => ro .u16 (4096 - p.shale.pagesRetired)
  | _, _ => if index = 0x8020 then lopEntry s index sub else none

/-- Entries of 0x9000 to 0x9FFF. -/
def entries9 (s : State) (index sub : Nat) : Option Entry :=
  let d := s.dict
  match index, sub with
  | 0x9010, 1 => ro .u32 s.totals.lanes
  | 0x9010, 2 => ro .u32 s.fio.transients
  | 0x9010, 3 => ro .u32 s.totals.efavo
  | 0x9010, 4 => ro .u32 s.totals.can
  | 0x9021, 1 => some { typ := .domain, right := .ro, val := .bytes d.exportOut }
  | 0x9021, 2 => wo .u32 .woM
  | 0x9021, 3 => roBool d.exportComplete
  | 0x9030, 1 => ro .u16 d.log.length
  | 0x9030, 2 => ro .u16 d.sinceExport
  | 0x9030, 3 => ro .u32 ((d.log.getLast?.map (·.seqNo)).getD 0)
  | 0x9030, 4 => ro .u32 d.logCheck
  | _, _ =>
    let l := s.lane s.reportLane
    if index = 0x9020 then lopEntry s index sub
    else if 0x9040 ≤ index ∧ index < 0x9050 then
      let c := nth {} (index - 0x9040) l.dma
      (match sub with
        | 1 => ro .u32 c.chains | 2 => ro .u32 c.repeats | 3 => ro .u32 c.notDone | 4 => ro .u8 c.code | _ => none)
    else if 0x9050 ≤ index ∧ index < 0x9058 then
      let u := nth {} (index - 0x9050) l.chk
      (match sub with
        | 1 => ro .u32 u.checks | 2 => ro .u32 u.mismatches | _ => none)
    else if 0x9100 ≤ index ∧ index < 0x9200 then
      let e := s.frozen.evt
      let n := index - 0x9100
      (match sub with
        | 1 => some { typ := .bool, right := .rwM, val := .num (boolNat (e.flags.getLsbD n)) }
        | 2 => ro .u16 (spGet 0 n e.counts) | 3 => ro .u64 (spGet 0 n e.lastTick) | 4 => roBool (e.masks.getLsbD n) | _ => none)
    else none

/-- A force as 0xA080+j:01 shows it. -/
def Force.target : Force → Nat
  | .symbol id _ => 2 ^ 32 + id % 2 ^ 32
  | .output c => 2 * 2 ^ 32 + c

/-- The forced value. -/
def Force.value : Force → Nat
  | .symbol _ v => v % 2 ^ 32
  | .output _ => 0

/-- Entries of 0xA000 to 0xAFFF. -/
def entriesA (s : State) (index sub : Nat) : Option Entry :=
  let u := s.upd
  match index, sub with
  | 0xA021, 1 => some { typ := .u16, right := .rwM, val := .num u.target }
  | 0xA021, 2 => some { typ := .u8, right := .rwM, val := .num u.targetSlot }
  | 0xA021, 3 => wo .domain .woM
  | 0xA021, 4 => roBool u.staged.isSome
  | 0xA022, 1 => wo .domain .woM
  | 0xA040, 1 => wo .u8 .woE
  | 0xA040, 2 => ro .u16 u.outcome
  | 0xA050, 1 => wo .u8 .woE
  | 0xA050, 2 => ro .u8 u.change.state.code
  | 0xA050, 3 => ro .u16 u.change.result
  | 0xA050, 4 => ro .u64 u.change.applied
  | 0xA060, 1 => wo .u64 .woE
  | 0xA060, 2 => wo .u8 .woE
  | 0xA060, 3 => wo .u32 .woE
  | 0xA060, 4 => wo .u8 .woE
  | 0xA060, 5 => ro .u8 u.forces.length
  | 0xA070, 5 => ro .u8 (maskOf (fun k => !k.isEmpty) u.keys)
  | _, _ =>
    if index = 0xA020 then lopEntry s index sub
    else if index = 0xA070 ∧ 1 ≤ sub ∧ sub ≤ 4 then wo .domain .woE
    else if 0xA080 ≤ index ∧ index < 0xA0A0 then
      let f := u.forces[index - 0xA080]?
      (match sub with
        | 1 => ro .u64 ((f.map Force.target).getD 0) | 2 => ro .u32 ((f.map Force.value).getD 0) | _ => none)
    else if 0xA100 ≤ index ∧ index < 0xA108 then
      let row := index - 0xA100
      (match sub with
        | 1 => ro .u8 (u.slotCode row 1) | 2 => ro .u8 (u.slotCode row 2)
        | 3 => ro .u32 (u.slot row 1).ident.1 | 4 => ro .u32 (u.slot row 2).ident.1
        | 5 => ro .u64 (u.slot row 1).ident.2 | 6 => ro .u64 (u.slot row 2).ident.2 | _ => none)
    else none

/-! ### Every entry -/

/-- A parameter as it reads; the test-pulse source of an input that a safety function uses is the one it sets (R379). -/
def parEntry (s : State) (index sub : Nat) : Option Entry := (parDef index sub).map (fun d =>
  let v := if 0x6200 ≤ index ∧ index < 0x6230 ∧ sub = 3 then sourceOf s.fenv s.sfu.insts (index - 0x6200) else s.par index sub
  { typ := d.typ, right := .rwE, val := .num v })

/-- Entries that are no parameters. -/
def plainEntry (s : State) (index sub : Nat) : Option Entry :=
  if index < 0x2000 then entries1 s index sub
  else if index < 0x3000 then entries2 s index sub
  else if index < 0x4000 then entries3 s index sub
  else if index < 0x5000 then entries4 s index sub
  else if index < 0x6000 then entries5 s index sub
  else if index < 0x7000 then entries6 s index sub
  else if index < 0x7800 then entries70 s index sub
  else if index < 0x8000 then entries78 s index sub
  else if index < 0x9000 then entries8 s index sub
  else if index < 0xA000 then entries9 s index sub
  else entriesA s index sub

/-! ### The parameter set (R523, R524) -/

/-- Indexes at which parameters stand, rising. -/
def parIndexes : List Nat :=
  [0x1200, 0x1220, 0x1300, 0x2000, 0x2010, 0x2031, 0x2040, 0x2050, 0x2060, 0x2072, 0x3010, 0x3030, 0x4010, 0x4021, 0x4130, 0x5001, 0x5010, 0x6010] ++
    rangeFrom 0x6030 6 ++ rangeFrom 0x6100 24 ++ rangeFrom 0x6200 48 ++ [0x7001, 0x7003, 0x7010] ++ rangeFrom 0x7020 4 ++ [0x7810] ++
    rangeFrom 0x7820 4 ++ rangeFrom 0x7830 4 ++ rangeFrom 0x7900 0x300 ++ rangeFrom 0x7C00 0x400 ++ [0x8010, 0x8011, 0x8012] ++
    rangeFrom 0x8050 64 ++ [0xA030, 0xA051]

/-- Every entry of R523 in ascending index and subindex, with its definition. -/
def parEntries : List (Nat × Nat × ParDef) :=
  parIndexes.flatMap (fun i => (rangeFrom 1 10).filterMap (fun n => (parDef i n).map (fun d => (i, n, d))))

/-- Wire form of a number of a type (R518). -/
def wireNum (typ : DType) (n : Nat) : List Byte := toBE (typ.size.getD 0) n

/-- A record of the parameter set. -/
def setRecord (index sub : Nat) (typ : DType) (v : Nat) : List Byte :=
  let data := wireNum typ v
  let bs := toBE 2 index ++ toBE 1 sub ++ toBE 1 typ.code ++ toBE 2 data.length ++ data
  bs ++ zeros ((4 - bs.length % 4) % 4)

/-- The parameter set of some values. -/
def paramSet (ps : List (Nat × Val)) : List Byte :=
  let bs := toBE 4 1 ++ toBE 4 parEntries.length ++ zeros 8 ++ parEntries.flatMap (fun p => setRecord p.1 p.2.1 p.2.2.typ (parValue ps p.1 p.2.1))
  bs ++ toBE 4 (crc32c bs)

/-- CRC-32C of the parameter set (0x1100:02). -/
def paramSetCrc (ps : List (Nat × Val)) : Nat := let bs := paramSet ps; beAt (bs.length - 4) 4 bs

/-- An entry with a subindex above 0. -/
def subEntry (s : State) (index sub : Nat) : Option Entry :=
  if index = 0x1100 ∧ sub = 1 then some { typ := .domain, right := .rwE, val := .bytes (paramSet s.params) }
  else if index = 0x1100 ∧ sub = 2 then ro .u32 (paramSetCrc s.params)
  else match parEntry s index sub with
    | some e => some e
    | none => plainEntry s index sub

/-- Highest subindex of an index (R517). -/
def highSub (s : State) (index : Nat) : Option Nat :=
  let ns := (rangeFrom 1 64).filter (fun n => (index == 0x1100 && decide (n ≤ 3)) || (parDef index n).isSome || (plainEntry s index n).isSome)
  ns.getLast?

/-- The entry at an index and subindex. -/
def entryInfo (s : State) (index sub : Nat) : Option Entry :=
  if sub = 0 then (highSub s index).bind (fun n => ro .u8 n) else subEntry s index sub

/-! ### READ (R519, R521, R529, R534) -/

/-- A value as bytes in its wire form. -/
def Entry.bytes (e : Entry) : List Byte := match e.val with
  | .num n => wireNum e.typ n
  | .bytes bs => bs

/-- The module as it stood at the most recent input latch (R521), in which entries are read; records of elements, routes and safety
functions are those of the last commit (R230, R340). Before the first latch since a restart, the module as it stands. -/
def State.atLatch (s : State) : State :=
  let f := s.frozen
  match f.rest with
  | none => { s with frozen := s.blocksNow }
  | some x =>
    { s with
      sys := x.sys, frame := x.frame, params := x.params, lanes := x.lanes, ite := x.ite, dict := x.dict, lops := x.lops, upd := x.upd,
      totals := x.totals, voter := f.voter, fio := f.fio, efl := f.efl, can := f.can, pair := f.pair, pwr := f.pwr, evt := f.evt, fw := f.fw }

/-- Checks of a READ in the order of R16 and R665. -/
def readChecks (r : Req) (index sub : Nat) (s : State) : List Nat :=
  let known := r.session == 0 || (match s.sessionOf r.session with
    | some x => x.phase == .opened
    | none => false)
  match entryInfo s.atLatch index sub with
  | none => [0x0110, bad (!known) 0x0304]
  | some e => [bad (!served s.sys.mode index sub) 0x0201, bad (!known) 0x0304, bad (!e.right.readable) 0x0308]

/-- Body of a READ response: data from OFFSET, at most MAXLEN bytes and what the carrier carries. -/
def readBody (index sub offset maxlen limit : Nat) (e : Entry) : List Byte :=
  let bs := e.bytes
  toBE 2 index ++ toBE 1 sub ++ toBE 1 e.typ.code ++ toBE 4 bs.length ++ (bs.drop offset).take (min maxlen (limit - 8))

/-- A READ received. -/
def readFrame (f : DictFrame) (s : State) : State :=
  received 1 f (fun r s =>
    if f.body.length ≠ 10 then answer r 1 0x0115 [] s
    else
      let index := beAt 0 2 f.body
      let sub := beAt 2 1 f.body
      let st := firstStatus (readChecks r index sub s ++ [bad (beAt 3 1 f.body != 0) 0x0101])
      if st ≠ 0 then answer r 1 st [] s
      else match entryInfo s.atLatch index sub with
        | some e =>
          let body := readBody index sub (beAt 4 4 f.body) (beAt 8 2 f.body) (bodyLimit r.carrier) e
          answer r 1 0 body { s with freeCtr := s.freeCtr + 1 }
        | none => s) s

/-- READ (R519, R521). -/
def execReadEntry (f : DictFrame) (s : State) : Host.Outcome State Fault Refusal := act (readFrame f) s

end Sys2Proof.Machine
end

