-- ==== Sys2Proof/Machine/FieldRows.lean ====
section
/-!
DEFINITION. The commands of the field controller (07_field_io.md): pulses and tests in their slots, overloads, couplers, supplies, the Field
region reset.
-/
namespace Sys2Proof.Machine

/-- The field controller runs: it has been started, PD-FLOG has power, and no region reset is in progress. -/
def State.fieldRuns (s : State) : Bool := s.fio.running && !s.fio.lost && !s.pwr.lost.testBit 7 && s.fio.reset != .running

/-- Output tests run: in RUN after the blanking (R375, R377), and outside an output hold (R488). -/
def State.fieldTests (s : State) : Bool :=
  s.fieldRuns && s.sys.mode == .run && !blanked s.fenv s.fio && s.pair.outputHold.isNone

/-- The tick is the slot that a test of R362 to R364 has in 1,024 ticks. -/
def State.inSlot (s : State) (n : Nat) : Bool := s.tick % 1024 == n

/-- DARK_PULSE (R362): the sample is judged at the next input latch; none is a pulse abandoned at once (R365). -/
def execDarkPulse (c : Nat) (sample : Option Bool) (s : State) : Host.Outcome State Fault Refusal :=
  act (only (fun s => s.fieldTests && s.inSlot (40 * c + 8) && (nth {} c s.fio.outs).driven)
    (doField (fun _ w => match sample with
      | some b => w.modOut c (fun o => { o with pulse := true, pulseHigh := b })
      | none => w.abandon))) s

/-- GROUP_TEST (R363): `sample` is the sense, true when the switch shows closed. -/
def execGroupTest (g : Nat) (sample : Option Bool) (s : State) : Host.Outcome State Fault Refusal :=
  act (only (fun s => s.fieldTests && s.inSlot (970 + 8 * g) && (nth {} g s.fio.groups).driven)
    (doField (fun _ w => match sample with
      | some b => w.modGrp g (fun x => { x with test := true, testClosed := b })
      | none => w.abandon))) s

/-- A light pulse judged (R364, R366): a sample of 0 is a mismatch, and its retry is the next light pulse. -/
def lightSample (env : FEnv) (c : Nat) (high : Bool) (w : FWork) : FWork :=
  let o := w.out c
  if high then
    (match o.lightRetry with
      | some found => countOut env found c (w.modOut c (fun y => { y with lightRetry := none }))
      | none => w)
  else
    if o.lightRetry.isSome then retireOut env.tick c (w.modOut c (fun y => { y with count := add32 y.count 1 }))
    else ((w.raise 99).last 4 .output c).modOut c (fun y => { y with lightRetry := some env.tick })

/-- LIGHT_PULSE (R364). -/
def execLightPulse (c : Nat) (sample : Option Bool) (s : State) : Host.Outcome State Fault Refusal :=
  act (only (fun s =>
      s.fieldTests && s.inSlot (40 * c + 28) && s.par (0x6100 + c) 1 == 1 && !(nth {} c s.fio.outs).driven &&
        !outHeld (nth {} c s.fio.outs) (nth {} (groupOfOut c) s.fio.groups))
    (doField (fun env w => match sample with
      | some b => lightSample env c b w
      | none => w.abandon))) s

/-- OUTPUT_HOLD_EXPIRY (R368). -/
def execOutputHoldExpiry (c : Nat) (s : State) : Host.Outcome State Fault Refusal :=
  act (doField (fun env w => w.modOut c (fun o => { o with hold := endHold env.tick o.hold }))) s

/-- CHANNEL_OVERLOAD (R366): handled as an on-direction mismatch. -/
def execChannelOverload (c : Nat) (s : State) : Host.Outcome State Fault Refusal :=
  act (only (fun s => s.fieldRuns && (nth {} c s.fio.outs).driven) (doField (fun env w => onMismatch env 101 6 c true w))) s

/-- GROUP_OVERLOAD (R366). -/
def execGroupOverload (g : Nat) (s : State) : Host.Outcome State Fault Refusal :=
  act (only (fun s => s.fieldRuns && (nth {} g s.fio.groups).driven) (doField (fun env w => holdGroup env 102 7 g w))) s

/-- OPEN_LOAD (R366): the event and the flag only. -/
def execOpenLoad (c : Nat) (s : State) : Host.Outcome State Fault Refusal :=
  act (only (fun s => s.fieldRuns && (nth {} c s.fio.outs).driven && !(nth {} c s.fio.outs).openLoad)
    (doField (fun _ w => (w.modOut c (fun o => { o with openLoad := true })).raise 103))) s

/-- OPEN_LOAD_CLEARED (R379). -/
def execOpenLoadCleared (c : Nat) (s : State) : Host.Outcome State Fault Refusal :=
  act (doField (fun _ w => w.modOut c (fun o => { o with openLoad := false }))) s

/-- A coupler fault (R343, R366): the retry is the next tick, in which a recurrence is permanent (R55). -/
def couplerFault (env : FEnv) (k : Coupler) (w : FWork) : FWork :=
  let again (x : Option Nat) : Bool := match x with
    | some t => decide (t + 1 = env.tick)
    | none => false
  let start (x : Option Nat) : Option Nat := if x.isSome then x else some env.tick
  match k with
  | .input i =>
    if (w.inp i).retired then w
    else if again (w.inp i).coupler then retireIn env.tick i (w.modIn i (fun x => { x with valid := false, data := false, count := add32 x.count 1 }))
    else ((w.raise 100).last 5 .input i).modIn i (fun x => { x with valid := false, data := false, coupler := start x.coupler })
  | .output c =>
    if (w.out c).retired then w
    else if again (w.out c).coupler then retireOut env.tick c (w.modOut c (fun o => { o with count := add32 o.count 1 }))
    else (openOut env.tick c ((w.raise 100).last 5 .output c)).modOut c (fun o => { o with coupler := start o.coupler })
  | .ret g =>
    if (w.grp g).retired then w
    else if again (w.grp g).coupler then retireReturn env.tick g w
    else ((w.raise 100).last 5 .group g).modGrp g (fun x => { x with driven := false, coupler := start x.coupler })

/-- The sample of an input whose check bit is missing is invalid in the image of the tick (R366). -/
def dropSample (k : Coupler) (m : InputImage) : InputImage := match k with
  | .input i => { m with chans := setBit i false m.chans, valid := setBit i false m.valid }
  | .output _ | .ret _ => m

/-- The tick whose check bits a COUPLER_FAULT judges: the tick in progress until its output commit, then the one about to begin. -/
def State.couplerTick (s : State) : Nat := if s.frame.committed then s.frame.tick + 1 else s.frame.tick

/-- COUPLER_FAULT (R343). -/
def execCouplerFault (k : Coupler) (s : State) : Host.Outcome State Fault Refusal :=
  act (only State.fieldRuns (fun s =>
    let next := s.frame.committed
    let s := doField (fun env w => couplerFault { env with tick := s.couplerTick } k w) s
    if next then s else { s with img := dropSample k s.img })) s

/-- The two groups of a field supply input. -/
def groupsOf (supply : Nat) : List Nat := [2 * supply, 2 * supply + 1]

/-- The supply reaction of R371 on both groups of a supply. -/
def supplyLost (supply code : Nat) (s : State) : State :=
  doField (fun env w => (groupsOf supply).foldl (fun w g =>
    if (w.grp g).inZero then w.modGrp g (fun x => { x with sup := code, back := false }) else supplyOut env.tick code g w) w) s

/-- A field supply stands out of range: its groups read invalid, and it has not come back (R371, R372). -/
def State.supplyIsOut (supply : Nat) (s : State) : Bool :=
  (groupsOf supply).any (fun g => (nth {} g s.fio.groups).inZero && !(nth {} g s.fio.groups).back)

/-- FIELD_SUPPLY_OUT_OF_RANGE (R371): codes 1 to 3 of FIO.GSTATg.SUP. A further condition of a supply that is out only changes the code. -/
def execFieldSupplyOutOfRange (supply code : Nat) (s : State) : Host.Outcome State Fault Refusal :=
  act (only (fun s => s.fieldRuns && decide (1 ≤ code) && decide (code ≤ 3)) (fun s =>
    let out := s.supplyIsOut supply
    let s := supplyLost supply code s
    if out then s
    else
      raise (111 + supply)
        { s with fio :=
          { s.fio with supplies := modNth supply (fun x => { x with occurrences := add32 x.occurrences 1 }) s.fio.supplies } })) s

/-- FIELD_SUPPLY_IN_RANGE (R372): both groups return at the next input latch. -/
def execFieldSupplyInRange (supply : Nat) (s : State) : Host.Outcome State Fault Refusal :=
  act (only (fun s => s.fieldRuns && !s.pwr.lost.testBit (8 + supply) && s.supplyIsOut supply) (fun s =>
    raise (114 + supply) (doField (fun _ w => (groupsOf supply).foldl (fun w g =>
      w.modGrp g (fun x => { x with back := x.inZero })) w) s))) s

/-- A field-side domain loses power good (R643): its event, and the reaction of R371 at once. FIO.GSTATg.SUP then holds a free value,
since no voltage condition has been found. -/
def fieldDomainLost (supply : Nat) (s : State) : State :=
  let b := 8 + supply
  if s.pwr.lost.testBit b then s
  else
    let s := raise (12 + supply) { s with pwr := { s.pwr with lost := setBit b true s.pwr.lost, domains := setBit b false s.pwr.domains } }
    let (code, s) := fresh 2 s
    supplyLost supply code s

/-- FIELD_DOMAIN_LOST (R643). -/
def execFieldDomainLost (supply : Nat) (s : State) : Host.Outcome State Fault Refusal := act (fieldDomainLost supply) s

/-- FIELD_DOMAIN_RETURN (R642). -/
def execFieldDomainReturn (supply : Nat) (s : State) : Host.Outcome State Fault Refusal :=
  act (only (fun s => s.pwr.lost.testBit (8 + supply)) (fun s =>
    let b := 8 + supply
    { s with pwr := { s.pwr with lost := setBit b false s.pwr.lost, domains := setBit b true s.pwr.domains } })) s

/-- RECOVERY_PRESS_JAMMED (R372, R311): a press that has reached 12,000 ticks while its input is still 1. -/
def execRecoveryPressJammed (g : Nat) (s : State) : Host.Outcome State Fault Refusal :=
  act (only (fun s =>
      let x := nth {} g s.fio.groups
      x.filt.st && !x.jam && x.pend.isSome && (match x.press with
        | some r => decide (12000 ≤ s.tick - r)
        | none => false))
    (doField (fun _ w => (w.modGrp g (fun y => { y with jam := true })).raise 118))) s

/-- BLANKING_END (R377). -/
def execBlankingEnd (s : State) : Host.Outcome State Fault Refusal :=
  act (only (fun s => s.fio.blank && decide (s.fio.blankUntil ≤ s.tick))
    (fun s => { s with fio := { s.fio with blank := false } })) s

/-- A write of 0x6020:01 (R378). -/
def fieldResetJob (v : Nat) (s : State) : Job :=
  { right := .woM,
    bad := [bad (v != 1) 0x0101, bad (s.sys.mode != .configure && s.sys.mode != .standby) 0x0201, bad (s.fio.reset == .running) 0x0501],
    eff := fun s =>
      let s := doField (fun env w => openAll env.tick w) s
      { s with fio :=
        { s.fio with reset := .running, ins := s.fio.ins.map (fun x => { x with valid := false, data := false, faults := [] }) } } }

/-- FIELD_REGION_RESET (R378). -/
def execFieldRegionReset (r : Req) (v : Nat) (s : State) : Host.Outcome State Fault Refusal :=
  act (hostWrite r 0x6020 1 (fieldResetJob v)) s

/-- FIELD_REGION_RESET_COMPLETED (R378): what the switch test of R376 does not confirm is cleared. -/
def execFieldRegionResetCompleted (badIns badOuts badReturns : List Nat) (s : State) : Host.Outcome State Fault Refusal :=
  act (only (fun s => s.fio.reset == .running) (fun s =>
    let s := { s with fio := { regionCleared s.fio with reset := .done } }
    raise 120 (doField (fun env w => switchTest env.tick badIns badOuts badReturns w) s))) s

/-- The Field region lost (R25): every switch opens as the controller fails (R487), and SAFE follows. -/
def fieldLost (cause : Nat) (s : State) : State :=
  let s := doField (fun env w => openAll env.tick w) s
  safeTrigger cause { s with fio := { s.fio with lost := true, running := false } }

/-- LOCKSTEP_MISMATCH (R344). No event carries it, so the cause of SAFE is a free value. -/
def execLockstepMismatch (s : State) : Host.Outcome State Fault Refusal :=
  act (fun s =>
    let (v, s) := fresh 8 s
    fieldLost v s) s

end Sys2Proof.Machine
end

