-- ==== Sys2Proof/Machine/Engines.lean ====
section
/-!
DEFINITION. The commands of the DMA channels and check-value units (12), of the bus firewall, the event block and the registers (01), and
SPCAN (05).
-/
namespace Sys2Proof.Machine

/-- The lane's cores run, so that it can command its engines: it has power and is not Slate. -/
def State.laneRuns (s : State) (l : LaneId) : Bool := (s.lane l).colour != .slate && !s.pwr.lost.testBit l.num

/-- Work of the DMA channels and check units of one lane: what they leave, the events, and the lane's fault. A newly frozen channel is a
permanent loss (R39). -/
def doDma (l : LaneId) (f : DWork → DWork) (s : State) : State :=
  let w0 : DWork :=
    { id := l, lane := s.lane l, fw := s.fw, run := s.sys.mode == .run, tick := s.tick, free := s.freeCtr, rd := readByte s l }
  let w := f w0
  let froze := decide (s.fw.frozen.length < w.fw.frozen.length)
  let s := raiseAll w.ev { s with lanes := s.lanes.mod l (fun _ => w.lane), fw := w.fw, freeCtr := w.free }
  let s := if w.fault then laneFault l s else s
  if froze then laneLost l s else s

/-- DMA work of a lane that runs. -/
def runDma (l : LaneId) (f : DWork → DWork) (s : State) : State := only (fun s => s.laneRuns l) (doDma l f) s

/-- DMA_START (R574): a write of DMA.CHCTL with START. -/
def execDmaStart (l : LaneId) (c word : Nat) (s : State) : Host.Outcome State Fault Refusal :=
  act (only (fun _ => word.testBit 0) (runDma l (writeChctl c (word % 2 ^ 32)))) s

/-- DMA_STOP (R575): a write of DMA.CHCTL with STOP. -/
def execDmaStop (l : LaneId) (c word : Nat) (s : State) : Host.Outcome State Fault Refusal :=
  act (only (fun _ => word.testBit 1) (runDma l (writeChctl c (word % 2 ^ 32)))) s

/-- DESCRIPTOR_FETCH (R564). -/
def execDescriptorFetch (l : LaneId) (c : Nat) (s : State) : Host.Outcome State Fault Refusal :=
  act (doDma l (fun w => fetchDescriptor c w)) s

/-- DMA_BEAT_RESPONSE (R568). -/
def execDmaBeatResponse (l : LaneId) (c : Nat) (ok : Bool) (s : State) : Host.Outcome State Fault Refusal :=
  act (doDma l (fun w => beatResponse c ok w)) s

/-- DMA_BUS_TIMEOUT (R571): no response is a bus error. -/
def execDmaBusTimeout (l : LaneId) (c : Nat) (s : State) : Host.Outcome State Fault Refusal :=
  act (doDma l (fun w => beatResponse c false w)) s

/-- COMPLETION_RECORD_WRITE (R582). -/
def execCompletionRecordWrite (l : LaneId) (c : Nat) (s : State) : Host.Outcome State Fault Refusal :=
  act (doDma l (fun w => writeCompletion c w)) s

/-- RING_TAIL_ADVANCE (R582): a write of DMA.RQTAIL. -/
def execRingTailAdvance (l : LaneId) (v : Nat) (s : State) : Host.Outcome State Fault Refusal :=
  act (runDma l (fun w => writeDmaReg 0 0x810 (v % 2 ^ 32) w)) s

/-- Payload length of a class-2 stream of the network and direction that a unit names (R587). -/
def State.streamLen (s : State) (src net stream : Nat) : Option Nat :=
  if net = 0 then (match s.efl.sched with
    | some t => (t.streams.find? (fun d => d.stream == stream && d.cls == 2)).map (·.plen)
    | none => none)
  else (s.can.defs.find? (fun d => d.stream == stream && d.cls == 2 && d.transmit == (src == 2))).map (·.plen)

/-- CHECK_UNIT_CONFIGURE (R587): a write of CHK.CFG. -/
def execCheckUnitConfigure (l : LaneId) (u v : Nat) (s : State) : Host.Outcome State Fault Refusal :=
  act (fun s => runDma l (writeChkCfg u (v % 2 ^ 32) s.streamLen) s) s

/-! ### Firewall (R31 to R42) -/

/-- Windows in force for an access: a core's own set, every other master's one set. -/
def accessWindows (fw : Firewall) (a : Access) : List Window :=
  if a.master < 6 then windowsOf fw a.runtime a.master else windowsOf fw false a.master ++ windowsOf fw true a.master

/-- The kind of an access. -/
def Access.kind (a : Access) : AccessKind := if a.execute then .execute else if a.write then .write else .read

/-- Cause of the violation that an access is, if it is one. A reserved range lies in no window (R42). -/
def accessCause (fw : Firewall) (a : Access) : Option Nat :=
  if reservedAddr a.addr then some 1 else violation (accessWindows fw a) a.addr a.width a.kind

/-- What the freeze of a master that is no lane master does (R39, R40). -/
def frozenBlock (m : Nat) (s : State) : State :=
  if m = 6 then { s with dict := { s.dict with retired := true } }
  else if m = 7 then pairBlockLost { s with pair := { s.pair with sending := none } }
  else if 56 ≤ m ∧ m < 60 then doEfl (fun _ w => retirePort (m - 56) w) s
  else if 60 ≤ m ∧ m < 64 then doCan (fun _ w => retireCan (m - 60) w) s
  else if m = 67 then
    (match s.voter.radmLane with
      | some l => raise 54 (laneLost l (endReadmission s))
      | none => s)
  else s

/-- A violation: the access is not performed, the master is frozen and its block reacts (R36 to R40). -/
def violate (m cause addr : Nat) (s : State) : State :=
  if s.fw.frozen.contains m then s
  else
    let s := raise 232 { s with fw := freezeMaster m cause addr s.fw }
    match laneOfMaster m with
    | some l =>
      let freeze (x : Lane) : Lane :=
        if 8 ≤ m ∧ m < 56 then
          { x with dma := modNth ((m - 8) % 16) (fun y => { y with state := .frozen, beats := [], needFetch := false, endCode := 0, waiting := false }) x.dma }
        else { x with stopped := true }
      laneLost l (modLane l freeze s)
    | none => frozenBlock m s

/-- FIREWALL_VIOLATION (R36). An access inside the windows of its master is no violation and changes nothing. -/
def execFirewallViolation (a : Access) (s : State) : Host.Outcome State Fault Refusal :=
  act (fun s => match accessCause s.fw a with
    | some cause => violate a.master cause a.addr s
    | none => s) s

/-! ### Writes of the lane cores to module-wide blocks (R11, R12, R44) -/

/-- The value that at least two lanes write, if any. -/
def matchedValue (vals : Tri (Option Nat)) : Option Nat :=
  let l := (triList vals).filterMap id
  l.find? (fun v => decide (2 ≤ (l.filter (· == v)).length))

/-- A lone write counted against its lane (R44, R57): event 50. -/
def countLone (l : LaneId) (s : State) : State := laneFault l (raise 50 s)

/-- Lone writes of the lanes that disagree with what is applied. -/
def loneWrites (vals : Tri (Option Nat)) (applied : Option Nat) (s : State) : State :=
  laneIds.foldl (fun s l => match vals.get l with
    | some v => if applied = some v then s else countLone l s
    | none => s) s

/-- A 32-bit word of the masks replaced. -/
def setMaskWord (n v : Nat) (m : BitVec 256) : BitVec 256 :=
  BitVec.ofNat 256 (m.toNat - ((m.toNat >>> (32 * n)) % 2 ^ 32) * 2 ^ (32 * n) + (v % 2 ^ 32) * 2 ^ (32 * n))

/-- Flags of one word cleared, but for those that have occurred in the same tick (R68). -/
def clearFlags (n v : Nat) (e : Evt) : Evt :=
  { e with flags := e.flags &&& ~~~(BitVec.ofNat 256 ((v % 2 ^ 32) * 2 ^ (32 * n)) &&& ~~~e.thisTick) }

/-- A value applied once to a register of a module-wide block. A write of a reserved bit leaves the register (R12), a write of a read-only one
counts as a null write (R11). -/
def applyWide (addr v : Nat) (s : State) : State :=
  let o := addr % 0x10000
  match wideAccess addr with
  | .rw =>
    if (addr - 0xF0000000) / 0x10000 = 0 then (if v < 2 then { s with voter := { s.voter with win := v } } else s)
    else { s with evt := { s.evt with masks := setMaskWord ((o - 0x40) / 4) v s.evt.masks } }
  | .w1c => { s with evt := clearFlags (o / 4) v s.evt }
  | .ro => { s with fw := { s.fw with nullWrites := add32 s.fw.nullWrites 1 } }
  | .none => s

/-- A module-wide write of the lanes that run. -/
def wideWrite (addr : Nat) (vals : Tri (Option Nat)) (s : State) : State :=
  let vals := vals.mapWith (fun l v => if s.laneRuns l then v.map (· % 2 ^ 32) else none)
  let v := matchedValue vals
  let s := loneWrites vals v s
  match v with
  | some v => applyWide (addr / 4 * 4) v s
  | none => s

/-- MODULE_WIDE_WRITE (R44). -/
def execModuleWideWrite (w : WideWrite) (s : State) : Host.Outcome State Fault Refusal :=
  act (only (fun _ => decide (0xF0000000 ≤ w.addr) && decide (w.addr < 0xF00E0000)) (wideWrite w.addr w.vals)) s

/-- EVT_FLAG_CLEAR (R68): a write of EVT.FLAGn. -/
def execEvtFlagClear (n : Nat) (vals : Tri (Option Nat)) (s : State) : Host.Outcome State Fault Refusal :=
  act (wideWrite (0xF00C0000 + 4 * n) vals) s

/-- A lane's write of its own route engine's registers (R11, R12, R279, R285). -/
def writeIte (o v : Nat) (s : State) : State :=
  if o = 0x04 then
    (if bits 31 9 v ≠ 0 ∨ bits 7 1 v ≠ 0 then s
     else
       let s := { s with ite := { s.ite with raen := v.testBit 0 } }
       if v.testBit 8 then cancelSpeculation s else s)
  else if o ≤ 0x30 ∨ (0x100 ≤ o ∧ o < 0x190) then { s with fw := { s.fw with nullWrites := add32 s.fw.nullWrites 1 } }
  else s

/-- A lane's write of a register of its check units but CHK.CFG: read-only ones count as null writes. -/
def writeChk (o : Nat) (s : State) : State :=
  if o < 0x18 ∨ o = 0xF00 then { s with fw := { s.fw with nullWrites := add32 s.fw.nullWrites 1 } } else s

/-- REGISTER_WRITE (R11): a register of a block of its own lane; any other is a lone write to a module-wide block. -/
def execRegisterWrite (l : LaneId) (addr v : Nat) (s : State) : Host.Outcome State Fault Refusal :=
  act (only (fun s => s.laneRuns l && decide (0xF0000000 ≤ addr) && decide (addr < 0xF00E0000)) (fun s =>
    let a := addr / 4 * 4
    let o := a % 0x10000
    let v := v % 2 ^ 32
    match (a - 0xF0000000) / 0x10000 with
    | 1 => writeIte o v s
    | 8 => doDma l (writeDmaReg (o / 0x1000) (o % 0x1000) v) s
    | 9 =>
      if 0x8000 ≤ o then s
      else if o % 0x1000 = 0 then doDma l (writeChkCfg (o / 0x1000) v s.streamLen) s
      else writeChk (o % 0x1000) s
    | _ =>
      let own : Tri (Option Nat) := (Tri.all3 none).mod l (fun _ => some v)
      wideWrite a own s)) s

/-- SPCAN (R279): a write of 1 to ITE.CTL.SPCAN. -/
def execSpcan (l : LaneId) (s : State) : Host.Outcome State Fault Refusal :=
  act (only (fun s => s.laneRuns l) cancelSpeculation) s

end Sys2Proof.Machine
end

