-- ==== Sys2Proof/Machine/Vital.lean ====
section
/-!
DEFINITION. The vital cycle inside the lanes: what compiled code hands over, VITAL_CYCLE_START with the element handler (04), the route
engine pass and run-ahead (05), and the expiries of element and route timers that are commands of their own.
-/
namespace Sys2Proof.Machine

/-! ### What compiled code hands over -/

/-- The application image in force; an empty one where the set holds none. -/
def State.app (s : State) : App := s.upd.app.getD {}

/-- Bindings of telegram bits (R668). -/
def State.binds (s : State) : List BitBinding := s.app.iomap.binds

/-- A lane whose cores run tasks: a Green lane, and the Amber lane in its trial or in the matching ticks of R162. -/
def State.laneWorks (s : State) (l : LaneId) : Bool :=
  !(s.lane l).stopped &&
    ((s.lane l).colour == .green ||
      (s.voter.radmLane == some l && (s.voter.radmStep == .trial || s.voter.radmStep == .matching)))

/-- Paired words that a core may write: inside a writable window of its application set (R31, R107). -/
def allowedWrites (ws : List Window) (xs : List (Nat × Nat)) : List (Nat × Nat) :=
  xs.filter (fun x => (violation ws x.1 8 .write).isNone && decide (x.1 % 8 = 0))

/-- Commands of the channels that a task owns (R99, R107) entered into a mask. -/
def ownedOuts (owner : Nat) (m : Iomap) (xs : List (Nat × Bool)) (mask : Nat) : Nat :=
  xs.foldl (fun n x =>
    let o := nth {} x.1 m.outs
    if decide (x.1 < 24) && o.inUse && o.owner == owner then setBit x.1 x.2 n else n) mask

/-- The payload of a transmit stream replaced. -/
def putPay (net stream : Nat) (bs : List Byte) (l : List (Nat × Nat × List Byte)) : List (Nat × Nat × List Byte) :=
  l.filter (fun x => !(x.1 == net && x.2.1 == stream)) ++ [(net, stream, bs)]

/-- The payload of a transmit stream. -/
def getPay (net stream : Nat) (l : List (Nat × Nat × List Byte)) : List Byte :=
  match l.find? (fun x => x.1 == net && x.2.1 == stream) with
  | some x => x.2.2
  | none => []

/-- Payloads of the streams in which a task owns a field (R99). -/
def ownedPays (owner : Nat) (m : Iomap) (xs l : List (Nat × Nat × List Byte)) : List (Nat × Nat × List Byte) :=
  xs.foldl (fun l x =>
    if m.fields.any (fun f => f.can == (x.1 == 1) && f.stream == x.2.1 && f.own.inUse && f.own.owner == owner) then putPay x.1 x.2.1 x.2.2 l else l) l

/-- A list of values by key brought up to date. -/
def putAll {α : Type} (xs l : List (Nat × α)) : List (Nat × α) := l.filter (fun p => !xs.any (fun x => x.1 == p.1)) ++ xs

/-- One bit of a byte string, extended with zeros where it ends short. -/
def putBit (offset bit : Nat) (b : Bool) (bs : List Byte) : List Byte :=
  let bs := bs ++ zeros (offset + 1 - bs.length)
  setNth offset (BitVec.ofNat 8 (setBit bit b (nth 0 offset bs).toNat)) bs

/-- Command bits of elements written into the payloads of their transmit fields (R668). -/
def bindOutputs (xs : List (BitBinding × Bool)) (l : List (Nat × Nat × List Byte)) : List (Nat × Nat × List Byte) :=
  xs.foldl (fun l x =>
    let net := boolNat x.1.can
    if x.1.receive then l else putPay net x.1.stream (putBit x.1.offset x.1.bit x.2 (getPay net x.1.stream l)) l) l

/-! ### The element handler -/

/-- Words of element records that differ, as the handler writes them. -/
def elemWrites (old new : Vital) : List (Nat × Nat) :=
  (new.elems.map (·.1)).flatMap (fun s => changedWords (elemAddr s) 0 (elemWords (elemOf old s)) (elemWords (elemOf new s)))

/-- Lanes that run tasks take writes into V. -/
def feedV (ws : List (Nat × Nat)) (s : State) : State :=
  { s with lanes := s.lanes.mapWith (fun id l => if s.laneWorks id then { l with accV := l.accV.feedAll 0x20 ws } else l) }

/-- Lanes that run tasks take writes of the route engine into E (R234). -/
def feedE (ws : List (Nat × Nat)) (s : State) : State :=
  { s with lanes := s.lanes.mapWith (fun id l => if s.laneWorks id then { l with accE := l.accE.feedAll 0x40 ws } else l) }

/-- The restart release time in ticks (R228). -/
def State.restartLimit (s : State) : Nat := s.par 0x4010 1 * 4000

/-- What the vital-task code leaves when it returns, kept as working values until the commit of the cycle (R84, R200). -/
def vitalCode (t : TaskIn) (o : Outs) (m : Iomap) : Outs :=
  { o with
    vitalW := ownedOuts 2 m t.outs o.vital,
    payW := ownedPays 2 m t.payloads o.pay,
    genericW := putAll t.generic o.generic,
    demandsW := t.demands }

/-- The element handler run on the frozen input image (R82, R185), and the vital task called. -/
def vitalStart (t : TaskIn) (s : State) : State :=
  let o := elementHandler s.tables s.vin s.binds s.outs.generic s.ite.cmds s.restartLimit s.frame.cycle s.vitW
  let ws := elemWrites s.vitW o.v
  let s := feedV ws s
  let i := s.ite
  let i : Ite := { i with
    cmds := [], lockReqs := i.lockReqs ++ o.reqs, cmdDiscarded := add32 i.cmdDiscarded o.discards,
                       raAllowed := s.lanes.count (fun l => l.colour == .amber) == 0 }
  let i : Ite := match o.dictOutcome with
    | some st => { i with cmdBusy := false, cmdOutcome := st, cmdCycle := s.frame.cycle % 2 ^ 32 }
    | none => i
  let outs := vitalCode t s.outs s.app.iomap
  let start (id : LaneId) (l : Lane) : Lane :=
    if s.laneWorks id then { l with vitalRun := true, vitalDone := false, vitalSig := none, vitalWrites := allowedWrites s.app.fire.vital t.writes }
    else l
  let s := { s with
    vitW := o.v, ite := i, outs := outs, lanes := s.lanes.mapWith start,
    frame := { s.frame with vitalDue := false, passDue := true } }
  raiseAll (List.replicate o.faults 75 ++ List.replicate o.discards 77) s

/-- VITAL_CYCLE_START (R82): at the boundary that the input latch has opened, in RUN. -/
def execVitalCycleStart (t : TaskIn) (s : State) : Host.Outcome State Fault Refusal :=
  act (only (fun s => s.sys.mode == .run && s.frame.vitalDue) (vitalStart t)) s

/-! ### The pass -/

/-- Outcome record of R247: TAG, ROUTE, status, cycle number. -/
def outcomeBytes (p : Posted) : List Byte := toBE 2 (p.tag % 2 ^ 12) ++ toBE 2 p.route ++ toBE 2 p.status ++ toBE 2 (p.cycle % 2 ^ 16)

/-- Bytes placed into a payload at an offset. -/
def putBytes (offset : Nat) (xs bs : List Byte) : List Byte :=
  let bs := bs ++ zeros (offset + xs.length - bs.length)
  bs.take offset ++ xs ++ bs.drop (offset + xs.length)

/-- An outcome posted (R247, R248): the dictionary's in its entries, a telegram's in the response field of its request field. -/
def postOutcome (q : RouteReq) (status : Nat) (s : State) : State :=
  match q.source with
  | .dictionary =>
    { s with ite := { s.ite with dictBusy := false, dictOutcome := status, dictCycle := s.frame.cycle % 2 ^ 32 } }
  | .telegram _ _ _ =>
    let p : Posted := { source := q.source, tag := q.tag, route := q.route, status, cycle := s.frame.cycle }
    let ite := { s.ite with posted := s.ite.posted.filter (fun x => x.source != q.source) ++ [p] }
    let payW := match s.app.iomap.responses.find? (fun r => r.1 == q.source) with
      | some (_, f) =>
        let net := boolNat f.can
        putPay net f.stream (putBytes f.offset (outcomeBytes p) (getPay net f.stream s.outs.payW)) s.outs.payW
      | none => s.outs.payW
    { s with ite := ite, outs := { s.outs with payW := payW } }

/-- Outcomes posted in order. -/
def postAll (xs : List (RouteReq × Nat)) (s : State) : State := xs.foldl (fun s x => postOutcome x.1 x.2 s) s

/-- The settings of the pass in ticks (0x4130). -/
def State.setLimit (s : State) : Nat := s.par 0x4130 3 * 4000

/-- Set-request lifetime in ticks (R245). -/
def State.setLife (s : State) : Nat := s.par 0x4130 1 * 4000

/-- What one pass of the route engine leaves (R233 to R247, R282 registers of the ITE block). -/
def afterPass (clk : Nat) (w : Service) (s : State) : State :=
  let v := w.pass.v
  let i := s.ite
  let i : Ite := { i with
    cancelQ := w.cancelQ, setQ := w.setQ, lockReqs := [],
    served := w.total, servedSpec := w.spec,
    passClk := clk % 2 ^ 32, maxClk := max i.maxClk (clk % 2 ^ 32),
    specOk := satAdd 0xFFFFFFFF i.specOk w.spec, specBad := satAdd 0xFFFFFFFF i.specBad w.specBad,
    maxWait := max i.maxWait w.maxWait,
    lastHit := w.lastHit.orElse (fun _ => i.lastHit),
    chgv := changedVector v i.projection, ldelta := deltaMask (lockDelta v i.projection),
    shadow := [], projection := v, raDone := false }
  let s := feedE w.pass.writes { s with vitW := v, ite := i, frame := { s.frame with passDue := false } }
  let outs := { s.outs with
    vitalW := ownedOuts 2 s.app.iomap (localOutputs s.tables v) s.outs.vitalW,
    payW := bindOutputs (telegramOutputs s.tables v s.binds) s.outs.payW }
  raiseAll w.pass.events (postAll w.done { s with outs := outs })

/-- ROUTE_ENGINE_PASS (R233): after the element handler of the cycle; `clk` is the pass's length in clocks (ITE.PASSCLK). -/
def execRouteEnginePass (clk : Nat) (s : State) : Host.Outcome State Fault Refusal :=
  act (only (fun s => s.sys.mode == .run && s.frame.passDue)
    (fun s => afterPass clk (routePass s.tables s.setLimit s.setLife s.frame.cycle s.tick s.ite.lockReqs s.ite s.vitW) s)) s

/-- RUN_AHEAD (R270 to R281): from the input latch after the pass, while 0x4130:02 and ITE.CTL.RAEN are 1. -/
def execRunAhead (s : State) : Host.Outcome State Fault Refusal :=
  act (only (fun s =>
      s.sys.mode == .run && s.frame.cycleOpen && !s.frame.passDue && !s.frame.vitalDue && decide (s.frame.firstTick < s.tick) &&
        s.ite.raen && s.par 0x4130 2 == 1 && s.ite.raAllowed && !s.ite.raDone)
    (fun s => { s with ite := aheadAll s.tables s.frame.cycle s.ite })) s

/-! ### Work ahead of the pass -/

/-- Work of the route engine between the handler and its pass, on the vital results of the cycle. -/
def passAhead (f : Pass → Pass) (s : State) : State :=
  if s.sys.mode == .run && s.frame.passDue then
    let p := f (Pass.mk s.vitW [] [])
    raiseAll p.events (feedE p.writes { s with vitW := p.v })
  else s

/-- SET_REQUEST_EXPIRED (R245): requests that have outlived 0x4130:01 leave the set queue with outcome 0x0213. -/
def setRequestExpired (s : State) : State :=
  if s.sys.mode == .run && s.frame.passDue then
    let w := expireSets s.tick s.setLife { pass := Pass.mk s.vitW [] [], cancelQ := s.ite.cancelQ, setQ := s.ite.setQ }
    raiseAll w.pass.events (postAll w.done { s with ite := { s.ite with setQ := w.setQ } })
  else s

/-- SET_REQUEST_EXPIRED. -/
def execSetRequestExpired (s : State) : Host.Outcome State Fault Refusal := act setRequestExpired s

/-- SETTING_SUPERVISION (R267): event 72 once; the route keeps its holds and its state. -/
def settingSupervision (limit r : Nat) (p : Pass) : Pass :=
  let x := routeOf p.v r
  if (x.code = rsSETTING || x.code = rsPROVING) && decide (limit < x.setTicks) && !x.setRaised then
    { (p.raise 72) with v := { p.v with routes := spSet {} r { x with setRaised := true } p.v.routes } }
  else p

/-- SETTING_SUPERVISION. -/
def execSettingSupervision (r : Nat) (s : State) : Host.Outcome State Fault Refusal :=
  act (fun s => passAhead (settingSupervision s.setLimit r) s) s

/-- TREL_EXPIRY (R215, R251): every hold is released, unless s1 counts as occupied, which goes first. -/
def trelExpiry (ts : TableSet) (cyc r : Nat) (p : Pass) : Pass :=
  match routeDef ts r with
  | none => p
  | some d =>
    let x := routeOf p.v r
    if x.code = rsTIMERELEASE && x.running && decide (d.trel ≤ x.timer) && !s1Occupied ts p.v d then releaseAll ts r d cyc p else p

/-- TREL_EXPIRY. -/
def execTrelExpiry (r : Nat) (s : State) : Host.Outcome State Fault Refusal :=
  act (fun s => passAhead (trelExpiry s.tables s.frame.cycle r) s) s

/-- TOVL_EXPIRY (R213, R268): the overlap is released while its first section stays CLEAR. -/
def tovlExpiry (ts : TableSet) (cyc r : Nat) (p : Pass) : Pass :=
  match routeDef ts r with
  | none => p
  | some d =>
    let x := routeOf p.v r
    if (x.code = rsINUSE || x.code = rsOVERLAPHELD) && x.alt != 0 && x.tovlArmed && x.running && decide (d.tovl ≤ x.timer) &&
        !overlapOccupied ts p.v d x.alt then releaseOverlap r d cyc p
    else p

/-- TOVL_EXPIRY. -/
def execTovlExpiry (r : Nat) (s : State) : Host.Outcome State Fault Refusal :=
  act (fun s => passAhead (tovlExpiry s.tables s.frame.cycle r) s) s

/-! ### Element timers (R94, R184, R185) -/

/-- The timer of an element of kind `kind` expires: its detection and expiry rows ahead of the handler of the cycle. -/
def elementExpiry (kind : Nat) (states : List Nat) (slot : Nat) (s : State) : State :=
  let ts := s.tables
  if s.sys.mode == .run && s.frame.vitalDue && (defOf ts slot).kind == kind && states.contains (elemOf s.vitW slot).state then
    match expireAhead ts s.vin s.binds s.outs.generic s.frame.cycle s.vitW slot with
    | none => s
    | some r =>
      let v := putElem slot r.elem { s.vitW with handled := s.vitW.handled ++ [slot] }
      let ws := changedWords (elemAddr slot) 0 (elemWords (elemOf s.vitW slot)) (elemWords r.elem)
      let s := feedV ws { s with vitW := v, ite := { s.ite with lockReqs := s.ite.lockReqs ++ r.reqs } }
      if r.fault then raise 75 s else s
  else s

/-- THROW_TIME_EXPIRY (R186): a moving point is FAILED. -/
def execThrowTimeExpiry (slot : Nat) (s : State) : Host.Outcome State Fault Refusal := act (elementExpiry 1 [3, 4] slot) s

/-- PROVING_TIME_EXPIRY (R190): CLEARING or REPLACING goes to LAMP_FAULT. -/
def execProvingTimeExpiry (slot : Nat) (s : State) : Host.Outcome State Fault Refusal := act (elementExpiry 2 [2, 4] slot) s

/-- CLEAR_DELAY_EXPIRY (R191): a section reported clear for its delay is CLEAR. -/
def execClearDelayExpiry (slot : Nat) (s : State) : Host.Outcome State Fault Refusal := act (elementExpiry 3 [2, 5] slot) s

/-- WARNING_TIME_EXPIRY (R194): the barriers close. -/
def execWarningTimeExpiry (slot : Nat) (s : State) : Host.Outcome State Fault Refusal := act (elementExpiry 4 [2] slot) s

/-- MOVEMENT_LIMIT_EXPIRY (R194): the crossing is FAILED. -/
def execMovementLimitExpiry (slot : Nat) (s : State) : Host.Outcome State Fault Refusal := act (elementExpiry 4 [3, 5] slot) s

/-- CLOSING_LIMIT_EXPIRY (R196): the door group is in FAULT. -/
def execClosingLimitExpiry (slot : Nat) (s : State) : Host.Outcome State Fault Refusal := act (elementExpiry 5 [4] slot) s

/-- RELEASE_WINDOW_EXPIRY (R198): the key lock is KEY_IN again and KEY is cleared. -/
def execReleaseWindowExpiry (slot : Nat) (s : State) : Host.Outcome State Fault Refusal := act (elementExpiry 6 [3] slot) s

/-- RESTART_RELEASE_TIME_EXPIRY (R228): the route engine is asked to clear RESTART. -/
def restartReleaseExpiry (s : State) : State :=
  if s.sys.mode == .run && s.frame.vitalDue then
    let o := restartStep s.tables s.restartLimit { v := s.vitW }
    { s with vitW := o.v, ite := { s.ite with lockReqs := s.ite.lockReqs ++ o.reqs } }
  else s

/-- RESTART_RELEASE_TIME_EXPIRY. -/
def execRestartReleaseTimeExpiry (s : State) : Host.Outcome State Fault Refusal := act restartReleaseExpiry s

end Sys2Proof.Machine
end

