-- ==== Sys2Proof/Machine/LaneRows.lean ====
section
/-!
DEFINITION. The commands of lanes and voter outside the tick (03_triple_lane_voting.md): re-admission, comparator self-test, lane power-down,
lane region reset, and a gate that closes by itself.
-/
namespace Sys2Proof.Machine

/-! ### Re-admission (R155 to R162) -/

/-- The copy engine works (R40, R155): Garnet runs and its engine is not frozen. -/
def State.copyEngine (s : State) : Bool := !s.voter.lost && !s.fw.frozen.contains 67

/-- The lower-lettered Green lane, from which the commit mirror and the bulk copy take the state set. -/
def State.sourceLane (s : State) : LaneId := s.greens.headD .a

/-- QUARANTINE (R155, R273): the Amber lane's cores, engines and route engine stop, and the copy begins. -/
def quarantine (l : LaneId) (s : State) : State :=
  let s := haltLane l s
  let s := modLane l (fun x => { x with stopped := true, fastRun := false, vitalRun := false, gateOpen := false, gateNext := false }) s
  { s with
    ite := { s.ite with shadow := [] },
    voter := { s.voter with radmStep := .quarantine, rcopy := 0, trialBad := false } }

/-- QUARANTINE. -/
def execQuarantine (s : State) : Host.Outcome State Fault Refusal :=
  act (fun s => match s.voter.radmLane with
    | some l => if s.sys.mode == .run && s.voter.radmStep == .none && s.copyEngine then quarantine l s else s
    | none => s) s

/-- Configuration registers of the state set taken over from another lane (R152). -/
def copyConfig (src dst : Lane) : Lane :=
  { dst with
    mem := src.mem,
    dma := (List.zip src.dma dst.dma).map (fun p => { p.2 with retry := p.1.retry, hopLim := p.1.hopLim, chDesc := p.1.chDesc }),
    chk := (List.zip src.chk dst.chk).map (fun p =>
      { p.2 with stream := p.1.stream, net := p.1.net, src := p.1.src, order := p.1.order, dir := p.1.dir, poly := p.1.poly }),
    ring := src.ring }

/-- The bulk copy in progress. -/
def State.copying (s : State) : Bool :=
  s.sys.mode == .run && (s.voter.radmStep == .quarantine || s.voter.radmStep == .copy)

/-- BULK_COPY_END (R155, R158). -/
def bulkCopyEnd (r : CopyResult) (l : LaneId) (s : State) : State := match r with
  | .moved =>
    let s := modLane l (copyConfig (s.lane s.sourceLane)) s
    { s with voter := { s.voter with radmStep := .waitJoin, rcopy := s.voter.stsize } }
  | .differ => safeTrigger 45 (raise 45 s)
  | .brokenPair g => if (s.lane g).colour == .green then laneFault g (raise 52 s) else s

/-- BULK_COPY_END. -/
def execBulkCopyEnd (r : CopyResult) (s : State) : Host.Outcome State Fault Refusal :=
  act (fun s => match s.voter.radmLane with
    | some l => if s.copying && s.copyEngine then bulkCopyEnd r l s else s
    | none => s) s

/-- Every DMA channel and check unit of a lane is idle (R157). -/
def laneIdle (l : Lane) : Bool := l.dma.all (fun c => c.state == .idle) && l.chk.all (fun u => u.chan.isNone)

/-- The join conditions (R157) at a vital-cycle boundary. -/
def State.mayJoin (s : State) : Bool :=
  s.sys.mode == .run && s.frame.vitalDue && s.voter.radmStep == .waitJoin && s.frame.overrun == 0 && !s.frame.ctx.flags.testBit 3 &&
    s.greens.all (fun l => laneIdle (s.lane l))

/-- Memory with zeros in the WORK sections of an image (R154). -/
def zeroWork (secs : List Section) (mem : List (Nat × Byte)) : List (Nat × Byte) :=
  (secs.filter (fun c => c.typ == 5)).foldl (fun m c => (rangeFrom c.load c.length).foldl (fun m a => spSet 0 a 0 m) m) mem

/-- JOIN (R154, R155): the Amber lane starts both tasks with the Green lanes; its trial begins. -/
def execJoinLane (s : State) : Host.Outcome State Fault Refusal :=
  act (fun s => match s.voter.radmLane with
    | some l =>
      if s.mayJoin then
        let s := modLane l (fun x => { x with stopped := false, mem := zeroWork s.app.sections (s.lane s.sourceLane).mem, accF := {}, accV := {}, accE := {} }) s
        { s with voter := { s.voter with radmStep := .trial, trialBad := false } }
      else s
    | none => s) s

/-- READMISSION_FAILED (R158): no join by the first tick of cycle c + 3. -/
def execReadmissionFailed (s : State) : Host.Outcome State Fault Refusal :=
  act (fun s => match s.voter.radmLane with
    | some l =>
      if s.sys.mode == .run && s.frame.vitalDue && s.voter.radmStep != .trial && decide (s.voter.amberCycle + 3 ≤ s.frame.cycle) then
        raise 54 (modLane l (fun x => { x with pend := some .slate }) s)
      else s
    | none => s) s

/-- READMISSION_START_TEST_END (R162): 40 ticks of matching lane-check signatures begin, or the lane goes Slate (R55). -/
def execReadmissionStartTestEnd (passed : Bool) (s : State) : Host.Outcome State Fault Refusal :=
  act (fun s => match s.voter.radmLane with
    | some l =>
      if (s.sys.mode == .configure || s.sys.mode == .standby) && (s.voter.radmStep == .none || s.voter.radmStep == .startTest) then
        (if passed then
          { modLane l (fun x => { x with checks := 0, stopped := false }) s with voter := { s.voter with radmStep := .matching, trialBad := false } }
         else laneFault l s)
      else s
    | none => s) s

/-! ### Comparator self-test (R167 to R172) -/

/-- SELF_TEST_START (R169). -/
def execSelfTestStart (s : State) : Host.Outcome State Fault Refusal :=
  act (only (fun s => (s.sys.mode == .run || s.sys.mode == .configure || s.sys.mode == .standby) && s.selfTestDue) startSelfTest) s

/-- One injection (R167, R170). -/
def injection (detected : Bool) (s : State) : State :=
  if detected then
    let n := s.voter.stDone + 1
    let s := { s with voter := { s.voter with stDone := n } }
    if injections ≤ n then selfTestPassed s else s
  else safeTrigger 56 (selfTestMissed s.voter.stDone s)

/-- SELF_TEST_INJECTION. -/
def execSelfTestInjection (detected : Bool) (s : State) : Host.Outcome State Fault Refusal :=
  act (only (fun s => s.voter.stRunning && !s.voter.lost) (injection detected)) s

/-- A write of 0x3030:05 (R172). -/
def selfTestJob (v : Nat) (s : State) : Job :=
  { right := .woM, bad := [bad (v != 1) 0x0101, bad s.voter.stRunning 0x0501], eff := startSelfTest }

/-- START_SELF_TEST_NOW. -/
def execStartSelfTestNow (r : Req) (v : Nat) (s : State) : Host.Outcome State Fault Refusal :=
  act (hostWrite r 0x3030 5 (selfTestJob v)) s

/-! ### Lane power-down and region reset (R164 to R166) -/

/-- The lane that a value 1, 2 or 3 names. -/
def laneNamed (v : Nat) : LaneId := if v = 1 then .a else if v = 2 then .b else .c

/-- The command is served in the mode (R164, R166). -/
def laneCommandMode (s : State) : Nat := bad (s.sys.mode == .safe || s.sys.mode == .boot || s.sys.mode == .recovery) 0x0201

/-- A write of 0x3020:01 (R164, R166). -/
def powerDownJob (v : Nat) (s : State) : Job :=
  { right := .rwM,
    bad := [bad (decide (v < 1 ∨ 3 < v)) 0x0101, laneCommandMode s, bad (s.capacity != 3) 0x0204],
    eff := fun s => modLane (laneNamed v) (fun x => { x with work := .poweringDown }) (laneLost (laneNamed v) (keepValue 0x3020 1 v s)) }

/-- LANE_POWER_DOWN. -/
def execLanePowerDown (r : Req) (v : Nat) (s : State) : Host.Outcome State Fault Refusal := act (hostWrite r 0x3020 1 (powerDownJob v)) s

/-- LANE_POWER_DOWN_COMPLETED (R164): the domain is off; event 58. -/
def execLanePowerDownCompleted (l : LaneId) (s : State) : Host.Outcome State Fault Refusal :=
  act (only (fun s => (s.lane l).work == .poweringDown && (s.lane l).colour == .slate) (fun s =>
    let s := modLane l (fun x => { x with work := .none, powered := false }) s
    raise 58 { s with pwr := { s.pwr with domains := setBit l.num false s.pwr.domains } })) s

/-- Firewall masters of a lane (R39). -/
def laneMasters (l : LaneId) : List Nat := [2 * l.num, 2 * l.num + 1, 64 + l.num] ++ rangeFrom (8 + 16 * l.num) 16

/-- A write of 0x3020:02 (R165, R166). -/
def regionResetJob (v : Nat) (s : State) : Job :=
  let l := laneNamed v
  let amber := s.lanes.count (fun x => x.colour == .amber) != 0
  let busy := s.lanes.count (fun x => x.work == .resetting) != 0
  { right := .rwM,
    bad := [bad (decide (v < 1 ∨ 3 < v)) 0x0101, laneCommandMode s, bad ((s.lane l).colour != .slate) 0x0206,
      bad (amber || busy) 0x0501, bad ((s.lane l).work == .poweringDown) 0x0503],
    eff := fun s =>
      let s := modLane l (fun x => { x with work := .resetting, powered := true, faults := [] }) (keepValue 0x3020 2 v s)
      { s with
        pwr := { s.pwr with domains := setBit l.num true s.pwr.domains, lost := setBit l.num false s.pwr.lost },
        fw := { s.fw with frozen := s.fw.frozen.filter (fun m => !(laneMasters l).contains m) } } }

/-- LANE_REGION_RESET. -/
def execLaneRegionReset (r : Req) (v : Nat) (s : State) : Host.Outcome State Fault Refusal := act (hostWrite r 0x3020 2 (regionResetJob v)) s

/-- The reset lane goes Amber and follows re-admission from its first step (R165); in RUN its state comes by the copy. -/
def resetAmber (l : LaneId) (s : State) : State :=
  let s := modLane l (fun x => { freshLane s.loadedMem x with colour := .amber, faults := [] }) s
  raise (32 + l.num)
    { s with voter :=
      { s.voter with
        radmLane := some l, radmStep := if s.sys.mode == .run then .none else .startTest,
        amberCycle := s.frame.cycle, rcopy := 0, trialBad := false } }

/-- LANE_REGION_RESET_END (R165). In SAFE no lane state changes (R145). -/
def execLaneRegionResetEnd (l : LaneId) (passed : Bool) (s : State) : Host.Outcome State Fault Refusal :=
  act (only (fun s => (s.lane l).work == .resetting) (fun s =>
    let s := modLane l (fun x => { x with work := .none }) s
    if !passed then raise 54 s
    else match s.sys.mode with
      | .configure | .standby | .run => resetAmber l s
      | .boot | .recovery | .safe => s)) s

/-- GATE_SELF_CLOSE (R151): a gate closes without a command, event 57; a loss of the Vote region (R25). -/
def execGateSelfClose (l : LaneId) (s : State) : Host.Outcome State Fault Refusal :=
  act (only (fun s => (s.lane l).gateOpen) (fun s =>
    let s := modLane l (fun x => { x with gateOpen := false, gateNext := false, gateFault := true }) s
    safeTrigger 57 (raise 57 { s with voter := { s.voter with lost := true } }))) s

end Sys2Proof.Machine
end

