-- ==== Sys2Proof/Machine/Requests.lean ====
section
/-!
DEFINITION. Route requests (05_route_engine.md) and element commands (04_station_element_model.md), from telegram fields and from the
dictionary.
-/
namespace Sys2Proof.Machine

/-- A telegram source is fresh and intact in the input image of the tick (R236, R203). -/
def State.sourceFresh (src : ReqSource) (s : State) : Bool := match src with
  | .telegram can st _ => s.img.streams.any (fun x => x.can == can && x.num == st && x.valid)
  | .dictionary => false

/-! ### Route requests -/

/-- A route request word: KIND, TAG, reserved bits, ROUTE. -/
def routeWord (kind tag route : Nat) : Nat := kind * 2 ^ 28 + tag % 2 ^ 12 * 2 ^ 16 + route % 2 ^ 16

/-- The checks of R238 and R239 in the order of R16; 0 where the request is taken. -/
def routeStatus (w : Nat) (s : State) : Nat :=
  let kind := bits 31 28 w
  firstStatus
    [bad (decide (kind < 1 ∨ 3 < kind ∨ bits 15 14 w ≠ 0)) 0x0101,
     bad (routeDef s.tables (bits 13 0 w)).isNone 0x0111,
     bad (kind != 1 && decide (256 ≤ s.ite.cancelQ.length)) 0x0401,
     bad (kind == 1 && decide (6144 ≤ s.ite.setQ.length)) 0x0402]

/-- A request latched at this tick's input latch (R237, R241). -/
def routeReq (w : Nat) (src : ReqSource) (s : State) : RouteReq :=
  let cyc := if s.tick = s.frame.firstTick && s.frame.cycleOpen then s.frame.cycle else s.frame.cycle + 1
  { kind := bits 31 28 w, tag := bits 27 16 w, route := bits 13 0 w, eligible := cyc, fresh := true, latch := s.tick, source := src }

/-- A request placed in the queue of its class (R239). -/
def enqueueRoute (w : Nat) (src : ReqSource) (s : State) : State :=
  let q := routeReq w src s
  if q.kind = 1 then { s with ite := { s.ite with setQ := insertReq q s.ite.setQ } }
  else { s with ite := { s.ite with cancelQ := insertReq q s.ite.cancelQ } }

/-- Event 71 with a queue that is full (R239). -/
def noteFull (status : Nat) (s : State) : State := if status = 0x0401 ∨ status = 0x0402 then raise 71 s else s

/-- A write of 0x4120:01 (R248). -/
def routeJob (w : Nat) (s : State) : Job :=
  { right := .rwM,
    bad := [routeStatus w s, bad (s.sys.mode != .run) 0x0201, bad s.ite.dictBusy 0x0501],
    refused := noteFull,
    eff := fun s =>
      let s := enqueueRoute w .dictionary (keepValue 0x4120 1 w s)
      { s with ite := { s.ite with dictBusy := true } } }

/-- A route request of a kind from its source (R236, R238, R247). -/
def routeRequest (kind : Nat) (o : RouteOp) (s : State) : State :=
  let w := routeWord kind o.tag o.route
  match o.req with
  | some r => hostWrite r 0x4120 1 (routeJob w) s
  | none =>
    if s.sys.mode == .run && s.sourceFresh o.source then
      let st := routeStatus w s
      if st = 0 then enqueueRoute w o.source s else noteFull st (postOutcome (routeReq w o.source s) st s)
    else s

/-- SET_REQUEST (R236). -/
def execSetRequest (o : RouteOp) (s : State) : Host.Outcome State Fault Refusal := act (routeRequest 1 o) s

/-- RELEASE_REQUEST (R236). -/
def execReleaseRequest (o : RouteOp) (s : State) : Host.Outcome State Fault Refusal := act (routeRequest 2 o) s

/-- EMERGENCY_CANCEL (R236). -/
def execEmergencyCancel (o : RouteOp) (s : State) : Host.Outcome State Fault Refusal := act (routeRequest 3 o) s

/-! ### Element commands -/

/-- An element command word: slot, code, argument. -/
def elemWord (code slot arg : Nat) : Nat := slot % 2 ^ 16 * 2 ^ 16 + code * 2 ^ 8 + arg % 2 ^ 8

/-- A command word taken apart. -/
def elemCmdOf (w : Nat) (src : ReqSource) : ElemCmd :=
  { slot := bits 31 16 w, code := bits 15 8 w, arg := bits 7 0 w, source := src }

/-- A command that waits for the next vital cycle (R205). -/
def enqueueCmd (w : Nat) (src : ReqSource) (s : State) : State :=
  { s with ite := { s.ite with cmds := s.ite.cmds ++ [elemCmdOf w src] } }

/-- A write of 0x4101:01 (R201, R204, R205). -/
def elemJob (w : Nat) (s : State) : Job :=
  { right := .rwM,
    bad := [bad (!commandValid s.tables (elemCmdOf w .dictionary)) 0x0101, bad (s.sys.mode != .run) 0x0201, bad s.ite.cmdBusy 0x0501],
    eff := fun s =>
      let s := enqueueCmd w .dictionary (keepValue 0x4101 1 w s)
      { s with ite := { s.ite with cmdBusy := true } } }

/-- An element command from its source (R201, R203 to R205). A telegram command that fails R201 never waits. -/
def elementCommand (code : Nat) (o : ElemOp) (s : State) : State :=
  let w := elemWord code o.slot o.arg
  match o.req with
  | some r => hostWrite r 0x4101 1 (elemJob w) s
  | none =>
    if s.sys.mode == .run && s.sourceFresh o.source && commandValid s.tables (elemCmdOf w o.source) then enqueueCmd w o.source s else s

/-- MOVE_POINT (R187). -/
def execMovePoint (o : ElemOp) (s : State) : Host.Outcome State Fault Refusal := act (elementCommand 0x01 o) s

/-- BLOCK (R202). -/
def execBlock (o : ElemOp) (s : State) : Host.Outcome State Fault Refusal := act (elementCommand 0x10 o) s

/-- UNBLOCK (R202). -/
def execUnblock (o : ElemOp) (s : State) : Host.Outcome State Fault Refusal := act (elementCommand 0x11 o) s

/-- PROVE_CLEAR (R193). -/
def execProveClear (o : ElemOp) (s : State) : Host.Outcome State Fault Refusal := act (elementCommand 0x20 o) s

/-- CLOSE_CROSSING (R194, R671). -/
def execCloseCrossing (o : ElemOp) (s : State) : Host.Outcome State Fault Refusal := act (elementCommand 0x30 o) s

/-- OPEN_CROSSING (R194, R671). -/
def execOpenCrossing (o : ElemOp) (s : State) : Host.Outcome State Fault Refusal := act (elementCommand 0x31 o) s

/-- RELEASE_DOORS (R197). -/
def execReleaseDoors (o : ElemOp) (s : State) : Host.Outcome State Fault Refusal := act (elementCommand 0x40 o) s

/-- CLOSE_DOORS (R196, R671). -/
def execCloseDoors (o : ElemOp) (s : State) : Host.Outcome State Fault Refusal := act (elementCommand 0x41 o) s

/-- KEY_RELEASE_REQUEST (R199). -/
def execKeyReleaseRequest (o : ElemOp) (s : State) : Host.Outcome State Fault Refusal := act (elementCommand 0x50 o) s

/-- KEY_RELEASE_CANCEL (R198). -/
def execKeyReleaseCancel (o : ElemOp) (s : State) : Host.Outcome State Fault Refusal := act (elementCommand 0x51 o) s

end Sys2Proof.Machine
end

