-- ==== Sys2Proof/Machine/Sessions.lean ====
section
/-!
DEFINITION. Sessions, notifications and the maintenance Ethernet ports (11_object_dictionary.md R526, R537 to R548).
-/
namespace Sys2Proof.Machine

/-- A slot freed. -/
def freeSlot (k : Nat) (s : State) : State := modSession k (fun _ => {}) s

/-- Carriers permitted for a level (R541): bits of 0x1220:01 and :02. Level 0 is open on every carrier. -/
def carrierPermits (s : State) (level : Nat) (c : Carrier) : Bool :=
  if level = 2 then (s.par 0x1220 1).testBit c.num else if level = 1 then (s.par 0x1220 2).testBit c.num else true

/-- Whether logins are locked out on a carrier (R539). -/
def lockedOut (s : State) (c : Carrier) : Bool := match s.dict.lockedUntil.lookup c.num with
  | some t => decide (s.tick < t)
  | none => false

/-- Checks of an OPEN in the order of R16 and R665. -/
def openChecks (s : State) (c : Carrier) (level : Nat) (reserved : List Byte) : Nat :=
  let high := decide (1 ≤ level)
  firstStatus
    [bad (decide (2 < level) || reserved != zeros 3) 0x0101,
     bad (!carrierPermits s level c) 0x0309, bad (high && lockedOut s c) 0x0305, bad (!passwordSet level s.dict) 0x0306,
     bad (s.dict.sessions.all (fun x => x.phase != .free)) 0x0406,
     bad (level == 2 && s.dict.sessions.any (fun x => x.phase != .free && x.level == 2)) 0x0407]

/-- SALT of a level's password; free bytes for level 0, which has none. -/
def saltOf (level : Nat) (s : State) : List Byte × State :=
  match (if level = 2 then s.dict.engineer else if level = 1 then s.dict.maintainer else none) with
  | some p => (p.salt, s)
  | none => freshBytes 16 s

/-- A session opened by OPEN (R538 steps 1 and 2). Its ID is a free value above the slot number, never 0. -/
def openAt (k : Nat) (r : Req) (level : Nat) (nonce : List Byte) (s : State) : State :=
  let (salt, s) := saltOf level s
  let (mn, s) := freshBytes 16 s
  let (idv, s) := fresh 28 s
  let id := idv * 16 + k + 1
  let body := salt ++ mn
  let x : Session :=
    { phase := if level = 0 then .opened else .proving, id := id, level := level, carrier := r.carrier, peer := r.peer, lastSeq := r.seq,
      lastUsed := s.tick, hostNonce := nonce, modNonce := mn }
  let s := modSession k (fun _ => x) s
  let rep := replyTo r 3 id 0 body s
  let keep (s : State) : State := match findSlot r.session s.dict with
    | some j => modSession j (fun x => { x with lastSeq := r.seq, stored := some rep, lastUsed := s.tick }) s
    | none => s
  let s := sendReply rep (modSession k (fun x => { x with stored := some rep }) (keep s))
  if level = 0 then raise 233 s else s

/-- An OPEN received. -/
def openFrame (f : DictFrame) (s : State) : State :=
  received 3 f (fun r s =>
    if f.body.length ≠ 20 then answer r 3 0x0115 [] s
    else
      let level := beAt 0 1 f.body
      let st := openChecks s r.carrier level (slice 1 3 f.body)
      if st ≠ 0 then answer r 3 st [] s
      else match (indices (fun (x : Session) => x.phase == .free) s.dict.sessions).head? with
        | some k => openAt k r level (slice 4 16 f.body) s
        | none => s) s

/-- OPEN (R538). -/
def execOpenSession (f : DictFrame) (s : State) : Host.Outcome State Fault Refusal := act (openFrame f) s

/-- A failed proof counted on its carrier; the third within 60 s locks logins out for 300 s (R539). -/
def countProof (c : Carrier) (s : State) : State :=
  let s := raise 236 { s with dict := { s.dict with failedProofs := add32 s.dict.failedProofs 1 } }
  let l := lastN 3 ((s.dict.proofFails.lookup c.num).getD [] ++ [s.tick])
  let put (l : List Nat) (d : Dict) : Dict := { d with proofFails := (c.num, l) :: d.proofFails.filter (fun p => p.1 != c.num) }
  if 3 ≤ l.length ∧ s.tick - l.headD s.tick < 240000 then
    let d := put [] s.dict
    raise 237 { s with dict :=
      { d with lockedUntil := (c.num, s.tick + 1200000) :: d.lockedUntil.filter (fun p => p.1 != c.num) } }
  else { s with dict := put l s.dict }

/-- A PROVE received (R538 steps 3 and 4, R539). -/
def proveFrame (f : DictFrame) (s : State) : State :=
  received 4 f (fun r s =>
    if f.body.length ≠ 32 then answer r 4 0x0115 [] s
    else match findSlot r.session s.dict with
      | none => answer r 4 (if r.session = 0 then 0x0301 else 0x0304) [] s
      | some k =>
        let x := s.session k
        if x.phase ≠ .proving then answer r 4 0x0304 [] s
        else
          let key := match (if x.level = 2 then s.dict.engineer else s.dict.maintainer) with
            | some p => p.key
            | none => []
          let proof := hmac256 key (x.modNonce ++ x.hostNonce ++ toBE 1 x.level ++ toBE 4 x.id)
          if f.body = proof ∧ passwordSet x.level s.dict then
            let skey := hmac256 key (x.modNonce ++ x.hostNonce ++ [0x53])
            raise 233 (answer r 4 0 [] (modSession k (fun x => { x with phase := .opened, key := skey }) s))
          else countProof r.carrier (answer r 4 0x0303 [] (freeSlot k s))) s

/-- PROVE (R538). -/
def execProveSession (f : DictFrame) (s : State) : Host.Outcome State Fault Refusal := act (proveFrame f) s

/-- An operation of an open session without an entry: refused without one (R537, R542), or with a body that does not fit (R531). -/
def sessionOp (op len : Nat) (f : DictFrame) (k : Req → Nat → State → State) (s : State) : State :=
  received op f (fun r s =>
    if f.body.length ≠ len then answer r op 0x0115 [] s
    else if r.session = 0 then answer r op 0x0301 [] s
    else match findSlot r.session s.dict with
      | none => answer r op 0x0304 [] s
      | some n => if (s.session n).phase = .opened then k r n s else answer r op 0x0304 [] s) s

/-- A CLOSE received. -/
def closeFrame (f : DictFrame) (s : State) : State :=
  sessionOp 5 0 f (fun r n s => raise 234 (freeSlot n (answer r 5 0 [] s))) s

/-- CLOSE (R542). -/
def execCloseSession (f : DictFrame) (s : State) : Host.Outcome State Fault Refusal := act (closeFrame f) s

/-- A PING received. -/
def pingFrame (f : DictFrame) (s : State) : State := sessionOp 6 0 f (fun r _ s => answer r 6 0 [] s) s

/-- PING (R529). -/
def execPing (f : DictFrame) (s : State) : Host.Outcome State Fault Refusal := act (pingFrame f) s

/-- A SUBSCRIBE received: byte i bit j of the bitmap is event 8i + j. -/
def subscribeFrame (f : DictFrame) (s : State) : State :=
  sessionOp 0x11 32 f (fun r n s => answer r 0x11 0 [] (modSession n (fun x => { x with bitmap := BitVec.ofNat 256 (leNat f.body) }) s)) s

/-- SUBSCRIBE (R547). -/
def execSubscribe (f : DictFrame) (s : State) : Host.Outcome State Fault Refusal := act (subscribeFrame f) s

/-- A frame with an OP that R529 does not name (R531). -/
def unknownFrame (f : DictFrame) (s : State) : State :=
  if [1, 2, 3, 4, 5, 6, 0x11].contains f.op then s
  else received f.op f (fun r s =>
    let st := if r.session = 0 ∨ (findSlot r.session s.dict).isSome then 0x0115 else firstStatus [0x0115, 0x0304]
    answer r (f.op % 128) st [] s) s

/-- UNKNOWN_OPERATION (R531). -/
def execUnknownOperation (f : DictFrame) (s : State) : Host.Outcome State Fault Refusal := act (unknownFrame f) s

/-- A queued notification of event `e` sent to the session of slot `k`, at most once in any 100 ms (R547, R548). -/
def sendNotice (k e : Nat) (s : State) : State :=
  let x := s.session k
  match x.queue.find? (fun q => q.event == e) with
  | none => s
  | some q =>
    let early : Bool := match x.lastSent.lookup e with
      | some t => decide (s.tick < t + 400)
      | none => false
    if x.phase ≠ .opened ∨ early ∨ !s.serverUp x.carrier then s
    else
      let body := toBE 1 q.event ++ zeros 1 ++ toBE 2 q.count ++ toBE 8 q.tick
      let head := frameHead 1 0x10 x.id x.noticeSeq 0 body.length body
      let rep : DictReply :=
        { carrier := x.carrier, peer := x.peer, op := 0x10, session := x.id, seq := x.noticeSeq, status := 0, body := body,
          tag := tagFor (some x) head }
      sendReply rep (modSession k (fun x =>
        { x with
          queue := x.queue.filter (fun p => p.event != e), noticeSeq := add32 x.noticeSeq 1,
          lastSent := (e, s.tick) :: x.lastSent.filter (fun p => p.1 != e) }) s)

/-- NOTIFY (R547). -/
def execNotify (slot e : Nat) (s : State) : Host.Outcome State Fault Refusal := act (sendNotice slot e) s

/-- SESSION_EXPIRED (R542). -/
def execSessionExpired (slot : Nat) (s : State) : Host.Outcome State Fault Refusal :=
  act (only
    (fun s => (s.session slot).phase != .free && decide ((s.session slot).lastUsed + s.par 0x1200 2 * 4000 ≤ s.tick))
    (fun s => raise 235 (freeSlot slot s))) s

/-- LOGIN_LOCKOUT_END (R539). -/
def execLoginLockoutEnd (carrier : Carrier) (s : State) : Host.Outcome State Fault Refusal :=
  act (only (fun s => !lockedOut s carrier)
    (fun s => { s with dict := { s.dict with lockedUntil := s.dict.lockedUntil.filter (fun p => p.1 != carrier.num) } })) s

/-- Maintenance Ethernet up (R26): PD-MNT has power. -/
def State.ethernetUp (s : State) : Bool := !s.pwr.lost.testBit 5

/-- ICMP_ECHO_REQUEST (R526): answered with the bytes received. -/
def execIcmpEchoRequest (port : Nat) (bs : List Byte) (s : State) : Host.Outcome State Fault Refusal :=
  act (only State.ethernetUp (emit (.icmp port bs))) s

/-- ARP_REQUEST (R526): answered when it asks for the address of the port. -/
def execArpRequest (port ip : Nat) (s : State) : Host.Outcome State Fault Refusal :=
  act (only (fun s => s.ethernetUp && ip == nth 0 (if port = 0 then 0 else 2) s.dict.eth) (emit (.arp port ip))) s

end Sys2Proof.Machine
end

