-- ==== Sys2Proof/Machine/Start.lean ====
section
/-!
DEFINITION. How lanes begin to execute logic (02 R114 to R122, 10 R510, R511): the snapshot and its checks, what a warm and a cold start
restore or initialise, and the entry to RUN.
-/
namespace Sys2Proof.Machine

/-! ### Words of lane memory -/

/-- A paired word of lane memory replaced (R9). -/
def putWord (a v : Nat) (mem : List (Nat × Byte)) : List (Nat × Byte) :=
  (rangeFrom 0 8).foldl (fun m i => spSet 0 (a + i) (pairByte (v % 2 ^ 32) i) m) mem

/-- Value half of a paired word of lane memory. -/
def memValue (a : Nat) (mem : List (Nat × Byte)) : Nat := leNat ((rangeFrom a 4).map (fun x => spGet 0 x mem))

/-- Writes of compiled code performed in a memory. -/
def storeWrites (ws : List (Nat × Nat)) (mem : List (Nat × Byte)) : List (Nat × Byte) :=
  ws.foldl (fun m w => (rangeFrom 0 8).foldl (fun m i => spSet 0 (w.1 + i) (BitVec.ofNat 8 (w.2 / 2 ^ (8 * i))) m) m) mem

/-! ### The snapshot (R116 to R119) -/

/-- Cycle, stamp and identity of the snapshot in the own store, and its state; none where a pair is broken (R117). -/
def State.snapshot (s : State) : Option (Nat × Nat × List Nat × Option OwnSnap) :=
  match lineSnap s.pair.shale with
  | some x => some (x.cycle, x.stamp, x.ident, readSnap s.upd.app s.tables s.sfu s.symbols s.pair.shale.sessions x)
  | none => s.pair.shale.own.map (fun o => (o.cycle, o.stamp, o.ident, some o))

/-- The snapshot when it passes the checks of R117 and R118 with the trigger at a tick count; the failing status otherwise (R119). -/
def usableSnapshot (trigger : Nat) (s : State) : Except Nat OwnSnap :=
  match s.snapshot with
  | none => .error 0x0205
  | some (_, stamp, ident, o) =>
    if identWords 1 6 ident ≠ identWords 1 6 s.identBlock then .error 0x0702
    else match o with
      | none => .error 0x0601
      | some o => if s.pair.shale.stale || decide (s.par 0x2060 2 * 4 ≤ trigger - stamp) then .error 0x0205 else .ok o

/-! ### What each kind restores (R120) -/

/-- An element timer that is restrictive in the state the element is in (04, "Kinds"). -/
def restrictiveElem (e : Elem) : Bool := match e.kind with
  | 1 => e.state == 3 || e.state == 4
  | 2 => e.state == 2 || e.state == 4
  | 4 => e.state == 3 || e.state == 5
  | 5 => true
  | 6 => true
  | _ => false

/-- Element states of a warm start: a running restrictive timer takes the gap. -/
def warmVital (gap : Nat) (v : Vital) : Vital :=
  { v with elems := v.elems.map (fun p => (p.1, if p.2.running && restrictiveElem p.2 then { p.2 with timer := add32 p.2.timer gap } else p.2)) }

/-- Timers of the symbol table that are restrictive take the gap (R95). -/
def warmTimers (gap : Nat) (ys : List Symbol) (mem : List (Nat × Byte)) : List (Nat × Byte) :=
  (ys.filter (fun y => y.kind == 1 && y.flags.testBit 0)).foldl (fun m y => putWord y.addr (min 0xFFFFFFFF (memValue y.addr m + gap)) m) mem

/-- Memory of a warm start: the image loaded afresh, PAIRED sections but WORK from the snapshot. -/
def warmMem (gap : Nat) (a : App) (loaded snap : List (Nat × Byte)) : List (Nat × Byte) :=
  let secs := (pairedSections a).filter (fun c => c.typ != 5)
  warmTimers gap a.symbols (secs.foldl (fun m c => (rangeFrom c.load c.length).foldl (fun m x => spSet 0 x (spGet 0 x snap) m) m) loaded)

/-- The words of a symbol set to free values: an edge detector primed with the current input, whose coding is the compiler's (R120, R624). -/
def primeSymbol (y : Symbol) (p : List (Nat × Byte) × State) : List (Nat × Byte) × State :=
  (rangeFrom 0 (y.size / 8)).foldl (fun p i =>
    let (v, s) := fresh 32 p.2
    (putWord (y.addr + 8 * i) v p.1, s)) p

/-- Memory of a cold start: timers at 0, edge detectors primed, the rest as RETAIN gives it. -/
def coldMem (s : State) : List (Nat × Byte) × State :=
  let ys := s.symbols
  let mem := (ys.filter (fun y => y.kind == 1)).foldl (fun m y => putWord y.addr 0 m) s.loadedMem
  (ys.filter (fun y => y.kind == 2)).foldl (fun p y => primeSymbol y p) (mem, s)

/-- Demand variables of the safety functions as memory holds them (R326, R328). -/
def demandsIn (insts : List (Nat × SfInst)) (ys : List Symbol) (mem : List (Nat × Byte)) : List (Nat × Bool) :=
  ((insts.filter (fun p => (p.2.typ == 5 || p.2.typ == 7) && p.2.p2 != 0)).map (·.2.p2)).eraseDups.filterMap (fun id =>
    (ys.find? (fun y => y.id == id)).map (fun y => (id, decide (memValue y.addr mem ≠ 0))))

/-- Outputs that the generic elements last had. -/
def genericOuts (v : Vital) : List (Nat × Nat × Nat) :=
  (v.elems.filter (fun p => p.2.kind == 7)).map (fun p => (p.1, p.2.state, p.2.command))

/-- Channels that an output image has on, among those that a task owns. -/
def imageOn (m : Iomap) (owner : Nat) (words : List Nat) : Nat :=
  bitsOf (fun c => pairVal (nth 0 c words) == cmdOn && (nth {} c m.outs).owner == owner) (rangeFrom 0 24)

/-- Output commands of a warm start (R120). -/
def warmOuts (m : Iomap) (o : OwnSnap) (demands : List (Nat × Bool)) : Outs :=
  let vital := imageOn m 2 o.words
  let g := genericOuts o.vital
  { fast := imageOn m 1 o.words, vital, vitalW := vital, words := o.words, generic := g, genericW := g, demands, demandsW := demands }

/-- Payloads of the transmit streams until their tasks write them again: bytes that the runtime reserve held, which are free. -/
def freePayloads (s : State) : List (Nat × Nat × List Byte) × State :=
  let efl := s.efl.tx.map (fun t => (0, t.stream, ((s.efl.sched.bind (fun x => x.streamDef t.stream)).map (·.plen)).getD 0))
  let can := (s.can.defs.filter (fun d => d.transmit)).map (fun d => (1, d.stream, d.plen))
  (efl ++ can).foldl (fun p x =>
    let (bs, s) := freshBytes x.2.2 p.2
    (p.1 ++ [(x.1, x.2.1, bs)], s)) ([], s)

/-- Sessions of the transmit streams continued from a snapshot (R120, R427). -/
def continueSessions (rs : List SessionRec) (s : State) : State :=
  let find (net n : Nat) : Option SessionRec := rs.find? (fun r => r.net == net && r.stream == n)
  let efl := s.efl.tx.map (fun t => match find 0 (sessionKey s.efl t.stream) with
    | some r => { t with session := r.session, base := r.base }
    | none => t)
  let can := s.can.tx.map (fun t => match find 1 t.stream with
    | some r => { t with session := r.session, base := r.base }
    | none => t)
  { s with
    efl := { s.efl with tx := efl, stored := efl.foldl (fun l t => spSet 0 (sessionKey s.efl t.stream) t.session l) s.efl.stored },
    can := { s.can with tx := can, stored := can.foldl (fun l t => spSet 0 t.stream t.session l) s.can.stored } }

/-- Sessions started afresh at a cold start (R427, R468). -/
def freshSessions (s : State) : State :=
  let can := (rangeFrom 0 4).foldl (fun (w : CWork) n => canSessions n w) { c := s.can }
  { s with efl := newSessions (cycleAt s.efl s.efl.linkNs) s.efl, can := can.c }

/-- The memory with which every Green lane starts, and its gate, which opens at the vote of the first tick (R149). -/
def startLanes (mem : List (Nat × Byte)) (s : State) : State :=
  let start (l : Lane) : Lane :=
    if l.colour = .green then
      { l with mem := mem, gateNext := true, accF := {}, accV := {}, accE := {}, stopped := false,
               fastRun := false, vitalRun := false, fastDone := false, vitalDone := false }
    else l
  { s with lanes := s.lanes.mapWith (fun _ l => start l) }

/-- A warm start from a snapshot with a restart gap (R120, R121). -/
def warmStart (gap : Nat) (o : OwnSnap) (s : State) : State :=
  let a := s.app
  let mem := warmMem gap a s.loadedMem o.mem
  let v := warmVital gap o.vital
  let sfu := warmSfu gap { s.sfu with states := o.sfu.states }
  let outs := warmOuts a.iomap o (demandsIn s.sfu.insts a.symbols mem)
  let s := continueSessions o.sessions (startLanes mem s)
  let (pays, s) := freePayloads s
  { s with
    vit := v, vitW := v, sfu := sfu, sfuW := sfu, outs := { outs with pay := pays, payW := pays },
    frame := { s.frame with cycle := o.cycle + (gap + s.frame.k - 1) / s.frame.k, ctxPend := 1 } }

/-- A cold start on the image of the first input latch (R120, R225 to R228, R333). -/
def coldStart (s : State) : State :=
  let (mem, s) := coldMem s
  let v := coldVital s.tables s.img s.binds
  let sfu := coldSfu s.sfu
  let d := demandsIn s.sfu.insts s.symbols mem
  let s := freshSessions (startLanes mem s)
  { s with
    vit := v, vitW := v, sfu := sfu, sfuW := sfu, outs := { demands := d, demandsW := d },
    frame := { s.frame with cycle := s.tick / s.frame.k, ctxPend := 2 } }

/-- What every entry to RUN sets besides (R90, R123, R169, R377, R666): overrun count, reference order, event masks, run-ahead, blanking, an
empty shadow bank, a self-test that is due. -/
def startRest (s : State) : State :=
  let s := { s with
    frame := { s.frame with overrun := 0, overruns := [], refOrder := s.par 0x2050 1 },
    evt := { s.evt with masks := s.app.evtInit },
    ite := { s.ite with raen := s.par 0x4130 2 == 1, shadow := [], raDone := false, projection := s.vit },
    fio := { s.fio with blank := true, blankUntil := s.tick + 4 * s.par 0x6010 3 },
    upd := { s.upd with fromMode := none },
    pair := { s.pair with
      starting := false, claiming := false, ready := false, sending := none, fullMark := (s.tick - 1) / 4000,
      latest := some (s.snap s.identBlock []) } }
  let s := trackRef s
  if s.selfTestDue then startSelfTest s else s

/-- Lanes begin to execute logic in the tick whose inputs have just been latched (R114, R119, R122, R510, R511). `warm` when a warm start is
wanted; `trigger` is the tick from which the age of the snapshot counts. -/
def startRun (warm : Bool) (trigger : Nat) (s : State) : State :=
  let s :=
    if !warm then raise 21 (coldStart { s with sys := { s.sys with lastRestart := 2, fallBack := 0 } })
    else match usableSnapshot trigger s with
      | .ok o => raise 20 (warmStart (s.tick - o.stamp) o { s with sys := { s.sys with lastRestart := 1, fallBack := 0 } })
      | .error st => raise 22 (raise 21 (coldStart { s with sys := { s.sys with lastRestart := 3, fallBack := st } }))
  startRest s

end Sys2Proof.Machine
end

