-- ==== Sys2Proof/Machine/Modes.lean ====
section
/-!
DEFINITION. Modes and restarts: the entry to BOOT by transition 1 (01), its end (R48, 10 R482, 13 R609 to R615), and the mode and restart
commands of the dictionary.
-/
namespace Sys2Proof.Machine

/-! ### Entry to BOOT (01 transition 1, 14 R644) -/

/-- Power state as a restart leaves it: field-side domains stay as their supplies have them, the rest is in reset. -/
def Pwr.restarted (p : Pwr) : Pwr :=
  let field (v : Nat) : Nat := v / 256 * 256
  { p with
    aon := true, domains := field p.domains, lost := field p.lost, failing := false,
    tempMax := if p.tempMax.isSome then some p.temp else none }

/-- The pair interface as a restart leaves it: the store and the signals of the cable. -/
def Pair.restarted (p : Pair) : Pair :=
  { ({} : Pair) with
    closed := p.closed, cablePos := p.cablePos, partnerHeld := p.partnerHeld, h1 := p.h1, h2 := p.h2, pullIn := p.pullIn,
    notHeldAt := p.notHeldAt, shale := { p.shale with incoming := none, part := none, nextPart := 0, pagesRetired := 0 } }

/-- What the dictionary keeps across a restart: passwords and the change log. -/
def Dict.restarted (d : Dict) : Dict :=
  { ({} : Dict) with
    engineer := d.engineer, maintainer := d.maintainer, log := d.log, logNext := d.logNext, logCheck := d.logCheck,
    logCheckBefore := d.logCheckBefore, sinceExport := d.sinceExport }

/-- Flash as a restart leaves it: a slot that was being written is Invalid (R608). -/
def Upd.restarted (u : Upd) : Upd :=
  let slot (x : Slot) : Slot := { x with loaded := false, state := if x.state = .writing then .invalid else x.state }
  { ({} : Upd) with
    slots := u.slots.map (fun p => { a := slot p.a, b := slot p.b }), keys := u.keys, activated := u.activated, fromMode := u.fromMode,
    outcome := u.outcome }

/-- The module in BOOT: every block at its reset values, flash and PD-AON as they were (R59, R70, R523, R644). -/
def bootState (kind : RestartKind) (s : State) : State :=
  { State.reset with
    pending := s.pending, freeCtr := s.freeCtr, emitted := s.emitted, ident := s.ident,
    sys := { bootKind := kind, restartTick := s.frame.tick, safeCause := s.sys.safeCause },
    frame := { ({} : Frame) with tick := s.frame.tick, refOrder := s.frame.refOrder, ref := s.frame.ref, holdover := s.frame.holdover },
    params := s.params.filter (fun p => (parDef (p.1 / 256) (p.1 % 256)).isSome),
    fio := { ({} : Fio) with transients := s.fio.transients },
    efl := { ({} : Efl) with stored := s.efl.stored }, can := { ({} : Can) with stored := s.can.stored },
    pair := s.pair.restarted,
    dict := { s.dict.restarted with eth := (rangeFrom 1 5).map (s.par 0x1300) }, upd := s.upd.restarted, pwr := s.pwr.restarted, totals := s.totals }

/-- Open sessions, which a restart ends (R542). -/
def openSessions (d : Dict) : Nat := (d.sessions.filter (fun x => x.phase == .opened)).length

/-- Transition 1: the line and the outputs fall at once (R487), every force is dropped (R120), and BOOT begins. -/
def enterBoot (kind : RestartKind) (s : State) : State :=
  let forces := s.upd.forces
  let ended := openSessions s.dict
  let s := bootState kind (releaseOff s)
  trackRef (raise 29 (raiseAll (List.replicate ended 234) (forces.foldl (fun s f => dropForce f s) s)))

/-- Restart kind of 0x2060:01 (R115). -/
def State.defaultKind (s : State) : RestartKind := if s.par 0x2060 1 = 2 then .cold else .warm

/-- A restart that was asked for. A SAFE trigger of the same tick goes first (R53). -/
def doRestart (kind : RestartKind) (s : State) : State :=
  let s := match s.sys.safePend with
    | some c => goSafe [] c s
    | none => s
  enterBoot kind s

/-- RESTART (R53, R644). -/
def execRestart (s : State) : Host.Outcome State Fault Refusal :=
  act (fun s => match s.sys.restartReq with
    | some kind => doRestart kind s
    | none => s) s

/-- SUPERVISOR_WATCHDOG_EXPIRY (R645): the hold code stops, every gate closes, and BOOT follows; event 15 is recorded at that BOOT. -/
def execSupervisorWatchdogExpiry (s : State) : Host.Outcome State Fault Refusal :=
  act (fun s => raise 15 (enterBoot s.defaultKind (closeGates s))) s

/-! ### The end of BOOT -/

/-- Loading of the Dorior classes (R609): the states of the slots that were loaded, and which fell back to slot B; none when a class
has no slot that passes. Classes go in order, and the firmware image's version judges the REQFW of the others. -/
structure DoriorLoad where
  upd : Upd
  fellBack : List Nat := []
  ok : Bool := true

/-- One Dorior class by its row (R609). -/
def loadDorior (dev : Bool) (w : DoriorLoad) (row : Nat) : DoriorLoad :=
  let fw := if row = 0 then none else some w.upd.fwVersion
  let passes (which : Nat) : Bool := slotStatus dev w.upd.keys fw (w.upd.slot row which) == 0
  let take (which : Nat) : Upd :=
    let u := w.upd.modSlot row which (fun x => { x with loaded := true })
    let v := (w.upd.slot row which).ident.1
    if row = 0 then { u with fwVersion := v } else if row = 1 then { u with voterVersion := v } else u
  if passes 1 then { w with upd := take 1 }
  else if passes 2 then { w with upd := take 2, fellBack := w.fellBack ++ [row] }
  else { w with ok := false }

/-- The four Dorior classes. -/
def loadDoriors (s : State) : DoriorLoad := [0, 1, 2, 3].foldl (loadDorior s.ident.development) { upd := s.upd }

/-- The slot roles of a class exchanged (R600, R613). -/
def Upd.exchange (row : Nat) (u : Upd) : Upd := { u with slots := modNth row (fun p => { a := p.b, b := p.a }) u.slots }

/-- Failing status of slot A of a class, before its roles are exchanged back (R615). -/
def State.slotAFails (s : State) (row : Nat) : Nat :=
  slotStatus s.ident.development s.upd.keys (if row = 0 then none else some s.upd.fwVersion) (s.upd.slot row 1)

/-- The outcome of an activation at its BOOT (R615): classes that fell back are exchanged back with event 250, otherwise event 249. -/
def activationOutcome (fellBack : List Nat) (s : State) : State :=
  if s.upd.activated = 0 then s
  else
    match fellBack.filter s.upd.activated.testBit with
    | [] => raise 249 { s with upd := { s.upd with outcome := 0, activated := 0 } }
    | r :: rs =>
      let st := s.slotAFails r
      let u := (r :: rs).foldl (fun u row => u.exchange row) s.upd
      raise 250 { s with upd := { u with outcome := st, activated := 0 } }

/-- Windows of the firmware and voter images, from the slots that were loaded (R32, R35, R40). -/
def loadedBody (row : Nat) (u : Upd) : List Byte :=
  let p := nth {} row u.slots
  if p.a.loaded then p.a.body else if p.b.loaded then p.b.body else []

/-- Lanes after the start test (R129, R161): a lane that fails, or that a fault has marked, is Slate. -/
def startTest (r : BootIn) (s : State) : State :=
  let bad (l : LaneId) : Bool := !r.lanesOk.get l || (s.lane l).bootFail || s.pwr.lost.testBit l.num
  let set (id : LaneId) (l : Lane) : Lane := freshLane s.loadedMem { l with colour := if bad id then .slate else .green, powered := !s.pwr.lost.testBit id.num }
  let s := { s with lanes := s.lanes.mapWith set }
  let s := raiseAll ((laneIds.filter bad).map (fun l => 35 + l.num)) s
  if s.capacity = 2 then raise 59 { s with voter := { s.voter with dual := true } } else s

/-- The mode of CONFIGURE, STANDBY or SAFE taken at the end of BOOT. -/
def endBoot (m : Mode) (s : State) : State := enterMode [] m { s with upd := { s.upd with fromMode := none } }

/-- The hold code starts (R477, R482), and lanes start at the next vital-cycle boundary (R122). Switches stay open for a while after the
partner's line was last judged held (R491). -/
def takeLine (s : State) : State :=
  let gate := if s.member then s.pair.notHeldAt.map (fun y => y + 4 * s.par 0x8011 1 + 4) else none
  raise 221
    { s with pair :=
      { s.pair with hold := true, holdStart := s.tick, takeTick := s.tick, listening := none, starting := true, gateFrom := gate } }

/-- Listening time in ticks at a position (R482). -/
def listenTicks (position : Nat) : Nat := if position = 1 then 8 else 48

/-- A consistent set is in force: RUN, or STANDBY when the partner holds the line (R475, R482, R483). -/
def seekLine (s : State) : State :=
  if !s.member then takeLine s
  else if s.pair.position = 0 then raise 229 (endBoot .standby s)
  else { s with pair := { s.pair with listening := some (s.tick + listenTicks s.pair.position), heldWhenStarted := s.pair.partnerHeld } }

/-- The mode at the end of a BOOT whose self-tests have passed (01 transitions 3 to 5, R614). -/
def bootMode (s : State) : State :=
  let target := s.par 0x2000 3
  if !s.upd.consistent || s.upd.fromMode == some .configure || (s.upd.fromMode.isNone && target == 3) then endBoot .configure s
  else if s.upd.fromMode == some .standby then endBoot .standby s
  else seekLine { s with upd := { s.upd with fromMode := none } }

/-- RECOVERY (01 transition 2, R634): the recovery ROM runs alone; PD-MNT stays on. -/
def enterRecovery (s : State) : State :=
  let s := { s with lanes := s.lanes.mapWith (fun _ l => { l with powered := false }),
                    upd := { s.upd with fromMode := none, activated := 0 }, pwr := { s.pwr with domains := s.pwr.domains / 256 * 256 + (if s.pwr.lost.testBit 5 then 0 else 32) } }
  raise 18 (enterMode [] .recovery s)

/-- The integrator images loaded, or the status of the first failed check (R611). -/
def loadSet (s : State) : State := match bootSet s.loadEnv with
  | .ok l => installSet l { s with sys := { s.sys with bootStatus := 0 } }
  | .error st => { s with sys := { s.sys with bootStatus := st }, ite := { s.ite with bank0 := some {}, activeBank := 0 } }

/-- Self-tests and loading with every Dorior class in place. -/
def bootTests (r : BootIn) (s : State) : State :=
  let fw := imageWindows (Config.imageWindows (loadedBody 0 s.upd) ++ Config.imageWindows (loadedBody 1 s.upd)) s.fw
  let s := loadSet { s with fw := fw }
  let s := { s with
    fw := { s.fw with lock := true },
    pwr := { s.pwr with domains := (0x7FF ^^^ s.pwr.lost) % 2 ^ 11 },
    fio := { s.fio with running := !s.pwr.lost.testBit 7 } }
  let s := startTest r s
  let s := doField (fun env w => switchTest env.tick r.badIns r.badOuts r.badReturns w) s
  let missed : Option Nat := if s.pwr.lost.testBit 3 then some (r.missed.getD 0) else r.missed
  match missed with
  | some i => goSafe [] 56 (raise 16 (selfTestMissed i s))
  | none =>
    let s := raise 16 (selfTestPassed { startSelfTest s with voter := { (startSelfTest s).voter with stDone := injections } })
    if s.capacity < 2 then goSafe [] 60 (raise 60 s)
    else if s.pwr.lost.testBit 7 then goSafe [] 11 { s with fio := { s.fio with lost := true } }
    else bootMode s

/-- BOOT finishes its loading and self-tests. -/
def bootEnd (r : BootIn) (s : State) : State :=
  let d := loadDoriors s
  let s := raiseAll (d.fellBack.map (fun _ => 17)) { s with upd := d.upd }
  if !d.ok || s.sys.bootKind == .recovery then enterRecovery s
  else bootTests r (activationOutcome d.fellBack s)

/-- BOOT_END (R48, R161, R169, R376, R609 to R611, R666). -/
def execBootEnd (r : BootIn) (s : State) : Host.Outcome State Fault Refusal :=
  act (only (fun s => s.sys.mode == .boot && !s.fw.lock) (bootEnd r)) s

/-- FLINT_LISTEN_END (R482). -/
def execFlintListenEnd (s : State) : Host.Outcome State Fault Refusal :=
  act (only (fun s => s.sys.mode == .boot && (match s.pair.listening with
      | some t => decide (t ≤ s.tick)
      | none => false))
    (fun s =>
      if s.pair.position = 0 then raise 229 (endBoot .standby { s with pair := { s.pair with listening := none } })
      else if s.pair.heldWhenStarted || s.pair.partnerHeld then
        endBoot .standby { s with pair := { s.pair with listening := none, heldWhenStarted := false } }
      else takeLine s)) s

/-! ### Mode requests and restart commands (R51 to R53) -/

/-- A trigger that goes before a mode request stands: a SAFE trigger, a takeover, a restart command (R53). -/
def State.overtaken (s : State) : Bool := s.sys.safePend.isSome || s.pair.starting || s.pair.claiming || s.sys.restartReq.isSome

/-- A write of 0x2000:02 (R51, R52, R512). -/
def modeJob (v : Nat) (s : State) : Job :=
  let old := parValue s.params 0x2000 2
  let allowed := (v == 3 && s.sys.mode == .standby) || (v == 4 && s.sys.mode == .run)
  { right := .rwE,
    bad :=
      [bad (v != 3 && v != 4) 0x0101, bad (!allowed) 0x0201, bad (allowed && v == 4) s.pairCause, bad (allowed && s.overtaken) 0x0203],
    log := some (1, old, v),
    eff := fun s =>
      let s := keepValue 0x2000 2 v s
      if v = 3 then { s with sys := { s.sys with toConfigure := true } } else takeHandOver s }

/-- A mode request judged (R51, R52, R512): one that passes waits, with its answer, for the output commit of the tick (R53). -/
def askMode (r : Req) (v : Nat) (s : State) : State :=
  let st := jobStatus r 0x2000 2 (modeJob v s) s
  if st ≠ 0 then answer r 2 st [] (jobRefused (modeJob v s) st s)
  else
    let s := { s with dict := { s.dict with asked := s.dict.asked ++ [(r, v)] } }
    match findSlot r.session s.dict with
    | some k => modSession k (fun x => { x with busy := true, lastUsed := s.tick }) s
    | none => s

/-- A mode request waits that nothing has overtaken: its mode still stands, and no SAFE trigger, takeover or restart command (R53). -/
def State.mayChange (v : Nat) (s : State) : Bool :=
  ((v == 3 && s.sys.mode == .standby && !s.pair.hold) || (v == 4 && s.sys.mode == .run)) && !s.overtaken

/-- A waiting mode request carried out and answered, or answered 0x0203 (R53). -/
def answerMode (r : Req) (v : Nat) (s : State) : State :=
  if !s.serverUp r.carrier then s
  else if !s.mayChange v then answer r 2 0x0203 [] s
  else answer r 2 0 [] (jobDone r 0x2000 2 (modeJob v s) s)

/-- The waiting mode requests answered after an output commit. -/
def answerModes (s : State) : State :=
  s.dict.asked.foldl (fun s q => answerMode q.1 q.2 s) { s with dict := { s.dict with asked := [] } }

/-- A mode request received. -/
def modeRequested (r : Req) (v : Nat) (s : State) : State := if !s.serverUp r.carrier then s else ifAllowed 2 r (askMode r v) s

/-- MODE_REQUEST_CONFIGURE (R51). -/
def execModeRequestConfigure (r : Req) (s : State) : Host.Outcome State Fault Refusal := act (modeRequested r 3) s

/-- MODE_REQUEST_STANDBY (R512). -/
def execModeRequestStandby (r : Req) (s : State) : Host.Outcome State Fault Refusal := act (modeRequested r 4) s

/-- Kind of a restart command. -/
def restartKind (v : Nat) : RestartKind := if v = 1 then .warm else if v = 2 then .cold else .recovery

/-- A write of 0x2000:04: the restart follows as a step of its own (RESTART). Event 19. -/
def restartJob (v : Nat) (_ : State) : Job :=
  { right := .rwM,
    bad := [bad (decide (v < 1 ∨ 3 < v)) 0x0101],
    eff := fun s =>
      let s := keepValue 0x2000 4 v s
      raise 19 { s with sys := { s.sys with restartReq := some (restartKind v) } } }

/-- WARM_RESTART_COMMAND (R115). -/
def execWarmRestartCommand (r : Req) (s : State) : Host.Outcome State Fault Refusal := act (hostWrite r 0x2000 4 (restartJob 1)) s

/-- COLD_RESTART_COMMAND (R115). -/
def execColdRestartCommand (r : Req) (s : State) : Host.Outcome State Fault Refusal := act (hostWrite r 0x2000 4 (restartJob 2)) s

/-- RECOVERY_RESTART_COMMAND (R634). -/
def execRecoveryRestartCommand (r : Req) (s : State) : Host.Outcome State Fault Refusal := act (hostWrite r 0x2000 4 (restartJob 3)) s

end Sys2Proof.Machine
end

