-- ==== Sys2Proof/Machine/PowerRows.lean ====
section
/-!
DEFINITION. Power, temperature and hot plug (14_power_hotplug_electrical.md): power-up, domains, the backplane supply, insertion, ejector.
-/
namespace Sys2Proof.Machine

/-! ### Power-up (R640, R657) -/

/-- PD-AON power good: tick count 0, BOOT by transition 1 with the kind of 0x2060:01, events 27 (of an insertion) and 0 (R70, R115, R118). -/
def powerUp (s : State) : State :=
  let inserted := s.pwr.precharge
  let forces := s.upd.forces
  let b := bootState s.defaultKind { s with frame := { ({} : Frame) with refOrder := s.par 0x2050 1 } }
  let b := { b with
    pwr := { b.pwr with
      station := {}, low := false, high := false, over70 := false, limit := false, precharge := false, powerUps := add32 b.pwr.powerUps 1,
      present := b.pwr.present || inserted },
    pair := { b.pair with shale := { b.pair.shale with stale := true }, notHeldAt := none } }
  let b := forces.foldl (fun s f => dropForce f s) b
  raise 29 (raise 0 (if inserted then raise 27 b else b))

/-- POWER_UP. A dead module comes up as well (R25). -/
def execPowerUp (s : State) : Host.Outcome State Fault Refusal := .next (powerUp { s with emitted := [] })

/-! ### Domains (R641 to R643, R25) -/

/-- The comms controllers have no power: nothing of them runs, and link time is no reference. -/
def commsOff (s : State) : State :=
  let was := s.commsLost
  let efl := { s.efl with lock := .unlocked, master := false, ports := s.efl.ports.map (fun p => { p with up := false }) }
  let can := { s.can with ctls := s.can.ctls.map (fun c => { c with state := .off, keeps := false, synced := false, master := false }) }
  trackRef (afterComms was { s with efl := efl, can := can, pwr := { s.pwr with lost := setBit 4 true s.pwr.lost } })

/-- PD-AON loses power good (R25): the module is dead, the line drops and every enable falls away. -/
def aonLost (s : State) : State :=
  let s := releaseOff (closeGates s)
  { s with dead := true, pwr := { s.pwr with aon := false, domains := s.pwr.domains / 256 * 256 } }

/-- Domain `d` of the logic is switched off (R641): its event 4 + d, and the loss of what it feeds. Number 11 is PD-AON. -/
def domainLost (d : Nat) (s : State) : State :=
  if d = 11 then aonLost s
  else if 8 ≤ d then (if d < 11 then fieldDomainLost (d - 8) s else s)
  else if s.pwr.lost.testBit d then s
  else
    let s := { s with pwr := { s.pwr with domains := setBit d false s.pwr.domains } }
    let s := if d = 4 then commsOff s else { s with pwr := { s.pwr with lost := setBit d true s.pwr.lost } }
    let s := raise (4 + d) s
    match d with
    | 0 => laneLost .a (modLane .a (fun l => { l with powered := false }) s)
    | 1 => laneLost .b (modLane .b (fun l => { l with powered := false }) s)
    | 2 => laneLost .c (modLane .c (fun l => { l with powered := false }) s)
    | 3 => safeTrigger 7 { s with voter := { s.voter with lost := true } }
    | 6 => pairBlockLost { s with pair := { s.pair with sending := none, ready := false, shale := {} } }
    | 7 => fieldLost 11 s
    | _ => s

/-- DOMAIN_POWER_GOOD_LOST (R641). -/
def execDomainPowerGoodLost (d : Nat) (s : State) : Host.Outcome State Fault Refusal := act (domainLost d) s

/-- DOMAIN_POWER_GOOD_TIMEOUT (R640): counts as a loss of power good; domains are switched on in BOOT. -/
def execDomainPowerGoodTimeout (d : Nat) (s : State) : Host.Outcome State Fault Refusal :=
  act (only (fun s => s.sys.mode == .boot) (domainLost d)) s

/-- THERMAL_CUT_OFF (R662): the lane's domain is switched off. -/
def execThermalCutOff (l : LaneId) (s : State) : Host.Outcome State Fault Refusal := act (domainLost l.num) s

/-! ### Backplane supply (R646) -/

/-- BACKPLANE_SUPPLY_LOW: event 1. -/
def execBackplaneSupplyLow (mv : Nat) (s : State) : Host.Outcome State Fault Refusal :=
  act (only (fun s => decide (mv < 16800) && !s.pwr.low) (fun s => raise 1 { s with pwr := { s.pwr with mv := mv, low := true, high := false } })) s

/-- BACKPLANE_SUPPLY_HIGH: event 2. -/
def execBackplaneSupplyHigh (mv : Nat) (s : State) : Host.Outcome State Fault Refusal :=
  act (only (fun s => decide (137500 < mv) && !s.pwr.high) (fun s => raise 2 { s with pwr := { s.pwr with mv := mv, high := true, low := false } })) s

/-- BACKPLANE_SUPPLY_RESTORED: event 3 after event 1 or 2. -/
def execBackplaneSupplyRestored (mv : Nat) (s : State) : Host.Outcome State Fault Refusal :=
  act (only (fun s => decide (16800 ≤ mv ∧ mv ≤ 137500) && (s.pwr.low || s.pwr.high))
    (fun s => raise 3 { s with pwr := { s.pwr with mv := mv, low := false, high := false } })) s

/-! ### Temperature (R661) -/

/-- The board temperature sampled, with its highest value since the restart. -/
def setTemp (t : Int) (p : Pwr) : Pwr :=
  { p with temp := t, tempMax := some (match p.tempMax with
      | some m => max m t
      | none => t) }

/-- TEMPERATURE_HIGH: above 70 °C, event 25. -/
def execTemperatureHigh (t : Int) (s : State) : Host.Outcome State Fault Refusal :=
  act (only (fun s => decide (700 < t) && !s.pwr.over70) (fun s => raise 25 { s with pwr := { setTemp t s.pwr with over70 := true } })) s

/-- TEMPERATURE_LIMIT: above 85 °C, or above 70 °C for 10 min, event 26. -/
def execTemperatureLimit (t : Int) (s : State) : Host.Outcome State Fault Refusal :=
  act (only (fun s => decide (700 < t) && !s.pwr.limit) (fun s => raise 26 { s with pwr := { setTemp t s.pwr with over70 := true, limit := true } })) s

/-- BOARD_TEMPERATURE_FALL: 70 °C or below ends the conditions of events 25 and 26. -/
def execBoardTemperatureFall (t : Int) (s : State) : Host.Outcome State Fault Refusal :=
  act (only (fun _ => decide (t ≤ 700)) (fun s => { s with pwr := { setTemp t s.pwr with over70 := false, limit := false } })) s

/-! ### Hot plug (R657 to R659) -/

/-- PRESENCE_MATED (R657): the input switch closes and precharge begins. The module need not have power yet. -/
def execPresenceMated (s : State) : Host.Outcome State Fault Refusal :=
  .next { s with emitted := [], pwr := { s.pwr with present := true, inputSwitch := true, precharge := false } }

/-- INSERTION_COMPLETED (R657): precharge ends; event 27, which the power-up that follows records. -/
def execInsertionCompleted (s : State) : Host.Outcome State Fault Refusal :=
  .next (only (fun s => s.pwr.inputSwitch && !s.pwr.precharge) (fun s => raise 27 { s with pwr := { s.pwr with precharge := true } })
    { s with emitted := [] })

/-- EXTRACTION_REQUESTED (R659): event 28, and in RUN a hand-over as by mode request 4, which a SAFE trigger overtakes. -/
def execExtractionRequested (s : State) : Host.Outcome State Fault Refusal :=
  act (only (fun s => !s.pwr.ejectOpen) (fun s =>
    let s := raise 28 { s with pwr := { s.pwr with ejectOpen := true } }
    if s.sys.mode == .run && s.partnerReady && s.par 0x2072 1 == 1 && !s.overtaken then takeHandOver s else s)) s

/-- EJECTOR_CLOSED (R659): nothing under way is withdrawn. -/
def execEjectorClosed (s : State) : Host.Outcome State Fault Refusal :=
  act (fun s => { s with pwr := { s.pwr with ejectOpen := false } }) s

end Sys2Proof.Machine
end

