-- ==== Sys2Proof/Machine/PairRows.lean ====
section
/-!
DEFINITION. The Flint line, the pull, takeover, the checkpoints and the records of the pair link (10_active_standby_pair.md).
-/
namespace Sys2Proof.Machine

/-- The pair interface has power and is in service. -/
def State.pairUp (s : State) : Bool := s.pwr.domains.testBit 6 && !s.fw.frozen.contains 7

/-! ### Synchronised standby (R502) -/

/-- Events 219 and 220 as the condition of R502 comes and goes. -/
def trackSync (s : State) : State :=
  let now := s.pairSync
  if now = s.pair.synced then s
  else raise (if now then 219 else 220) { s with pair := { s.pair with synced := now } }

/-! ### The line (R478 to R483) -/

/-- The module at position 2 gives way in the arbitration of R482. -/
def givesWay (s : State) : Bool :=
  s.sys.mode == .boot && s.pair.hold && s.pair.position == 2 && decide (s.tick ≤ s.pair.holdStart + 4)

/-- The partner's line judged held (R478, R482). -/
def lineHeld (h1 h2 : Bool) (s : State) : State :=
  let s := { s with pair :=
    { s.pair with
      partnerHeld := true, h1 := h1, h2 := h2, heldWhenStarted := s.pair.heldWhenStarted || s.pair.listening.isSome,
      claiming := false, starting := s.pair.starting && s.pair.hold } }
  if givesWay s then
    let s := stopHold s
    endBoot .standby { s with pair := { s.pair with starting := false, gateFrom := none } }
  else s

/-- PARTNER_LINE_HELD (R478). -/
def execPartnerLineHeld (h1 h2 : Bool) (s : State) : Host.Outcome State Fault Refusal :=
  act (only (fun s => s.pairUp && h1 != h2) (lineHeld h1 h2)) s

/-- A standby may take the line (R509, R53): a SAFE trigger goes first. -/
def State.mayTakeOver (s : State) : Bool :=
  s.sys.mode == .standby && s.member && (s.pair.position == 1 || s.pair.position == 2) && decide (2 ≤ s.capacity) && s.sys.safePend.isNone && !s.pair.hold

/-- The line is taken (R509, R491): the hold code starts at the next output commit, and lanes load the snapshot. Without a usable
snapshot nothing is loaded (R511). -/
def takeOver (s : State) : State :=
  let cold := match usableSnapshot s.tick s with
    | .ok _ => false
    | .error _ => true
  let gate := s.tick + boolNat s.frame.committed + 4 * s.par 0x8011 1 + 4
  raise 223
    { s with
      sys := { s.sys with toConfigure := false },
      pair := { s.pair with claiming := true, starting := cold, takeTick := s.tick, gateFrom := some gate, takeovers := add32 s.pair.takeovers 1 } }

/-- The partner's line judged not held (R478, R486, R509). A takeover follows when the line was held before. -/
def lineNotHeld (s : State) : State :=
  let was := s.pair.partnerHeld
  let s := { s with pair :=
    { s.pair with
      partnerHeld := false, pulling := false,
      notHeldAt := if was then some (s.tick + boolNat s.frame.committed) else s.pair.notHeldAt } }
  if was && s.mayTakeOver then takeOver s else s

/-- PARTNER_LINE_NOT_HELD (R478). -/
def execPartnerLineNotHeld (s : State) : Host.Outcome State Fault Refusal := act (only State.pairUp lineNotHeld) s

/-- SNAPSHOT_LOADED (R510): RUN follows at the next vital-cycle boundary. -/
def execSnapshotLoaded (s : State) : Host.Outcome State Fault Refusal :=
  act (only (fun s => s.sys.mode == .standby && (s.pair.claiming || s.pair.hold))
    (fun s => { s with pair := { s.pair with starting := true } })) s

/-- The cable shows another coding (R479). A standby that gains its position while the partner's line is judged not held takes the line
(R509). -/
def presenceLoop (closed : Bool) (pos : Nat) (s : State) : State :=
  let s := { s with pair := { s.pair with closed := closed, cablePos := pos } }
  if s.pairUp && !s.pair.partnerHeld && !s.pair.claiming && s.mayTakeOver then takeOver s else s

/-- PRESENCE_LOOP_CHANGE (R479, R653). `pos` is the coding that the cable shows. -/
def execPresenceLoopChange (closed : Bool) (pos : Nat) (s : State) : Host.Outcome State Fault Refusal :=
  act (presenceLoop closed pos) s

/-! ### Pull (R484 to R486, R489) -/

/-- A pull on both rails (R484). During an output hold it ends the hold (R489). -/
def pullReceived (s : State) : State :=
  let s := raise 226 { s with pair := { s.pair with pullIn := true } }
  let held := s.pair.hold
  let s := releaseOff (closeGates s)
  if s.sys.mode = .boot then (if held then endBoot .standby { s with pair := { s.pair with starting := false, gateFrom := none } } else s)
  else safeTrigger 226 s

/-- PULL_RECEIVED (R484). -/
def execPullReceived (s : State) : Host.Outcome State Fault Refusal := act (only (fun s => !s.voter.lost) pullReceived) s

/-- PULL_RAIL_FAULT (R485). -/
def execPullRailFault (s : State) : Host.Outcome State Fault Refusal :=
  act (only (fun s => !s.voter.lost) (fun s => raise 228 { s with pair := { s.pair with pullRail := true } })) s

/-- PULL_FAILED (R486): the puller keeps pulling. -/
def execPullFailed (s : State) : Host.Outcome State Fault Refusal := act (only (fun s => s.pair.pulling && s.pair.partnerHeld) (raise 227)) s

/-! ### After a release (R488, R490) -/

/-- OUTPUT_HOLD_END (R488). -/
def execOutputHoldEnd (s : State) : Host.Outcome State Fault Refusal :=
  act (only (fun s => match s.pair.outputHold with
    | some t => decide (t ≤ s.tick)
    | none => false) openSwitches) s

/-- TELEGRAM_CONTINUATION_END (R490). -/
def execTelegramContinuationEnd (s : State) : Host.Outcome State Fault Refusal :=
  act (only (fun s => match s.pair.contUntil with
    | some t => decide (t ≤ s.tick)
    | none => false) (fun s =>
      { s with pair := { s.pair with contUntil := none }, can := if s.sys.mode = .standby then canQuiet s.can else s.can })) s

/-! ### Records sent (R495 to R500) -/

/-- A record leaves a pair member. -/
def sendRecord (r : PairRec) (s : State) : State := if s.member && s.pairUp then emit (.pair (writeRecord r)) s else s

/-- The identity block as a payload. -/
def identPayload (ws : List Nat) : List Byte := (ws.map wirePair).flatten

/-- IDENT (R495). -/
def sendIdent (s : State) : State :=
  sendRecord { kind := 1, cycle := s.frame.cycle, tick := s.tick, full := 0, index := 0, payload := identPayload s.identBlock } s

/-- Sessions of the transmit streams as the checkpoint carries them, those of a twin under its lower number (R506). -/
def State.sessionsNow (s : State) : List SessionRec :=
  (s.efl.tx.map (fun t =>
    ({ stream := sessionKey s.efl t.stream, net := 0, session := t.session, base := t.base } : SessionRec))).eraseDups ++
    s.can.tx.map (fun t => { stream := t.stream, net := 1, session := t.session, base := t.base })

/-- Cycle of the full image that records belong to or follow. -/
def Pair.fullOf (p : Pair) : Nat := match p.sending with
  | some x => x.snap.cycle
  | none => p.fullCycle

/-- SESSIONS (R495). -/
def sendSessions (rs : List SessionRec) (s : State) : State :=
  sendRecord { kind := 6, cycle := s.frame.cycle, tick := s.tick, full := s.pair.fullOf, index := rs.length, payload := writeSessions rs } s

/-- One part of a DELTA (R498). -/
def deltaPartRec (o : OwnSnap) (full part : Nat) (last : Bool) (ls : List (Nat × List Byte)) : PairRec :=
  { kind := 5, cycle := o.cycle, tick := o.stamp, full, index := ls.length + part * 2 ^ 16 + (if last then 2 ^ 31 else 0),
    payload := (ls.map (fun l => wirePair l.1 ++ l.2)).flatten }

/-- The parts of a DELTA, of at most 1,024 entries; one without entries when nothing changed. -/
def deltaRecords (o : OwnSnap) (full : Nat) (ls : List (Nat × List Byte)) : List PairRec :=
  let parts := if ls.isEmpty then [[]] else chunks 1024 ls
  let n := parts.length
  ((rangeFrom 0 n).zip parts).map (fun p => deltaPartRec o full p.1 (p.1 + 1 == n) p.2)

/-- Regions of the state set and addresses of the state blocks, for the lines of a snapshot. -/
def State.regions (s : State) : List (Nat × Nat) := stateRegions s.upd.app

/-- The delta of a vital commit (R498, R499), and what the own store keeps of it (R116). -/
def sendDelta (o : OwnSnap) (lines : List Nat) (s : State) : State :=
  if 14563 < lines.length then
    raise 231 { s with pair := { s.pair with brokenChain := true, ready := false, deltaLines := [] } }
  else
    let ls := lines.map (fun n => (n, snapLine s.regions s.blocks o n))
    let s := (deltaRecords o s.pair.fullOf ls).foldl (fun s r => sendRecord r s) s
    { s with pair := { s.pair with
      deltaLines := [],
      shale := if s.pair.ready then { s.pair.shale with own := some o } else s.pair.shale } }

/-- The checkpoint of a vital commit: delta, and sessions when one has started (R495, R498). -/
def checkpoint (s : State) : State :=
  let rs := s.sessionsNow
  let o := s.snap s.identBlock rs
  let old := s.pair.latest.getD o
  let lines := (s.pair.deltaLines ++ changedLines s.regions s.blocks old o).eraseDups
  let s := sendDelta o lines s
  let s := if rs = old.sessions then s else sendSessions rs s
  { s with pair := { s.pair with latest := some o } }

/-- A full image is due (R497, R499, R503). -/
def State.fullDue (s : State) : Bool :=
  s.pair.transferDue || s.pair.brokenChain || (decide (s.pair.fullMark < s.tick / 4000) && !s.lops.checkpoint.live)

/-- A full image starts with the state of the vital commit just made; one in progress continues, and a transfer adopts it (R497, R503). -/
def fullStart (o : OwnSnap) (s : State) : State :=
  let t := s.pair.transferDue
  match s.pair.sending with
  | some x =>
    { s with pair :=
      { s.pair with
        fullMark := s.tick / 4000, transferDue := false, sending := some { x with transfer := x.transfer || t },
        transferCycle := if t then some x.snap.cycle else s.pair.transferCycle } }
  | none =>
    let s := { s with pair :=
      { s.pair with
        sending := some { snap := o, count := stateLines s.upd.app, transfer := t }, fullMark := s.tick / 4000, transferDue := false,
        brokenChain := false, transferCycle := if t then some o.cycle else s.pair.transferCycle } }
    let s := sendRecord { kind := 2, cycle := o.cycle, tick := o.stamp, full := o.cycle, index := 0, payload := identPayload o.ident } s
    sendSessions s.sessionsNow s

/-- FULL_IMAGE_START (R497): at a vital commit. -/
def execFullImageStart (s : State) : Host.Outcome State Fault Refusal :=
  act (fun s => match s.pair.latest with
    | some o => if s.sys.mode == .run && o.stamp == s.tick && s.frame.committed && s.fullDue then fullStart o s else s
    | none => s) s

/-- Progress of a checkpoint transfer in bytes (R503). -/
def transferProgress (lines total : Nat) (s : State) : State :=
  if s.lops.checkpoint.live then
    { s with lops := { s.lops with checkpoint := { s.lops.checkpoint with progress := min total (64 * lines), total := total } } }
  else s

/-- The next record of a full image in progress (R495, R497): up to 1,024 lines, and FULL_END after the last. A suspended transfer holds it. -/
def sendImagePart (s : State) : State := match s.pair.sending with
  | none => s
  | some x =>
    if x.transfer && s.lops.checkpoint.state == .suspended then s
    else
      let n := min 1024 (x.count - x.next)
      let line (i : Nat) : List Byte := snapLine s.regions s.blocks x.snap i
      let rec_ (kind index : Nat) (bs : List Byte) : PairRec :=
        { kind, cycle := x.snap.cycle, tick := x.snap.stamp, full := x.snap.cycle, index, payload := bs }
      let s := sendRecord (rec_ 3 x.next ((rangeFrom x.next n).flatMap line)) s
      let next := x.next + n
      let s := if x.transfer then transferProgress next (64 * x.count) s else s
      if next < x.count then { s with pair := { s.pair with sending := some { x with next := next } } }
      else
        let crc := crcFinal .crc64 ((rangeFrom 0 x.count).foldl (fun reg i => (line i).foldl (crcFeed .crc64) reg) (crcInit .crc64))
        let s := sendRecord (rec_ 4 x.count (toBE 8 crc)) s
        let shale := { s.pair.shale with full := none, deltas := [], broken := false, stale := false, own := s.pair.latest.orElse (fun _ => some x.snap) }
        { s with pair := { s.pair with sending := none, ready := true, shale := shale } }

/-- Output channels with a test pulse in any part of the tick (R362, R364): those whose slot the tick is. -/
def State.pulsed (s : State) : Nat :=
  bitsOf (fun c =>
    s.fieldTests &&
      ((s.inSlot (40 * c + 8) && (nth {} c s.fio.outs).driven) ||
        (s.inSlot (40 * c + 28) && s.par (0x6100 + c) 1 == 1 && !(nth {} c s.fio.outs).driven))) (rangeFrom 0 24)

/-- OUTPUT (R495): after every output commit of the module that holds the line, and during its output hold. -/
def sendOutput (s : State) : State :=
  let f := s.fio
  let w0 := bitsOf (fun c => (nth {} c f.outs).driven) (rangeFrom 0 24) + 2 ^ 24 * bitsOf (fun g => (nth {} g f.groups).driven) (rangeFrom 0 6) +
    bitIf 30 (blanked s.fenv f) + bitIf 31 s.pair.outputHold.isSome
  let cycle := match s.pair.latest with
    | some o => o.cycle
    | none => s.frame.cycle
  sendRecord { kind := 7, cycle, tick := s.tick, full := s.pair.fullOf, index := 0, payload := wirePair w0 ++ wirePair s.pulsed } s

/-- The standby compares (R504); no readback is judged during an output hold of its own (R488). -/
def State.comparing (s : State) : Bool :=
  s.sys.mode == .standby && s.pair.outputHold.isNone && s.member && (s.pair.position == 1 || s.pair.position == 2) && s.pair.linkUp && !s.pair.incompatible

/-- Newest cycle of the snapshot in the store (R495 type 8). -/
def Pair.newestCycle (p : Pair) : Nat := match snapshotOf p.shale with
  | some x => (snapshotEnd x).1
  | none => 0

/-- STATUS (R495): every tick from a module that does not hold the line. -/
def sendStatus (s : State) : State :=
  let w0 := s.sys.mode.code + bitIf 8 s.pair.synced + bitIf 9 s.comparing
  sendRecord { kind := 8, cycle := s.frame.cycle, tick := s.tick, full := 0, index := 0, payload := wirePair w0 ++ wirePair (s.pair.newestCycle % 2 ^ 32) } s

/-! ### Records received (R493 to R502) -/

/-- A valid record: the link is up, and its offset is measured (R493). -/
def linkAlive (rx : PairRx) (s : State) : State :=
  let was := s.pair.linkUp
  let s := { s with pair := { s.pair with linkUp := true, offset := rx.offset, lastRx := s.tick } }
  if was then s else sendIdent (raise 217 s)

/-- An identity block of the partner (R5, R502). -/
def identTaken (ws : List Nat) (s : State) : State :=
  let foreign := nth 0 0 ws % 256 != (if s.ident.development then 2 else 1)
  let was := s.pair.incompatible
  let s := { s with pair := { s.pair with partner := some ws, incompatible := foreign } }
  if foreign && !was then raise 216 s else s

/-- The store takes checkpoints (R501, R5). -/
def State.storing (s : State) : Bool := s.sys.mode == .standby && s.member && !s.pair.incompatible

/-- A change that is Ready and that an identity block names (R628): words 1 to 10 as the change would make them. -/
def State.changedIdent (s : State) (c : Candidate) : List Nat :=
  let ts := c.tables.getD s.tables
  let sf : Nat × Nat := match c.safety with
    | some x => (x.1, x.2.1)
    | none => (s.sfu.version, s.sfu.crc)
  [c.app.version] ++ words64 c.app.crc ++ [ts.version] ++ words64 ts.crc ++ [sf.1] ++ words64 sf.2

/-- A set that an on-line change carries, put into force (R623, R627, R628). Bytes of new sections have been loaded while Preparing. -/
def adoptSet (c : Candidate) (s : State) : State :=
  let ite := match c.tables with
    | some ts => if s.ite.activeBank = 0 then { s.ite with bank1 := some ts, activeBank := 1 } else { s.ite with bank0 := some ts, activeBank := 0 }
    | none => s.ite
  let change (x : Sfu) : Sfu := match c.safety with
    | some d => changeSafety d x
    | none => { x with checkers := carryCheckers x.checkers x.insts }
  let s := keepStreams c.app.iomap s
  { s with
    upd := { s.upd with app := some c.app }, ite := { ite with inactiveOk := if c.tables.isSome then false else ite.inactiveOk },
    sfu := change s.sfu, sfuW := change s.sfuW, voter := { s.voter with stsize := stateLines (some c.app) } }

/-- A FULL_BEGIN that names the set of a Ready change: a standby adopts it without handover (R628). -/
def adoptNamed (ws : List Nat) (s : State) : State := match s.upd.change.state, s.upd.change.cand with
  | .ready, some c =>
    if identWords 1 9 ws = s.changedIdent c then
      let s := adoptSet c s
      { s with upd := { s.upd with change := { s.upd.change with state := .applied, cand := none } } }
    else s
  | _, _ => s

/-- The store after a checkpoint record. -/
def putShale (f : Shale → Shale) (s : State) : State := { s with pair := { s.pair with shale := f s.pair.shale } }

/-- Newest vital commit that the holder is known to have made. -/
def holderAt (cycle : Nat) (s : State) : State := { s with pair := { s.pair with holderCycle := max s.pair.holderCycle cycle } }

/-- A record acted on by its type. -/
def recordTaken (r : PairRec) (rx : PairRx) (s : State) : State :=
  let stamp := ownTick rx r.tick
  let words (n : Nat) : List Nat := (readPairs n 0 r.payload).getD []
  match r.kind with
  | 1 => identTaken (words 16) s
  | 2 =>
    if s.storing then putShale (fullBegin r stamp) (adoptNamed (words 16) { s with pair := { s.pair with holderCycle := max s.pair.holderCycle r.cycle } })
    else s
  | 3 => if s.storing then putShale (fullData r) s else s
  | 4 =>
    if s.storing then
      let was := s.pair.shale.incoming.isSome
      let s := putShale (fullEnd r) s
      match s.pair.shale.full with
      | some f => if was && f.cycle % 2 ^ 32 == r.full then putShale (fun x => { x with own := none, stale := false }) s else s
      | none => s
    else s
  | 5 =>
    if s.storing then
      let (sh, broke) := deltaPart r stamp s.pair.shale
      let s := holderAt r.cycle { s with pair := { s.pair with shale := sh } }
      if broke then raise 231 s else s
    else s
  | 6 => if s.storing then putShale (fun x => { x with sessions := putSessions (readSessions r.index r.payload) x.sessions }) s else s
  | 7 =>
    let s := holderAt r.cycle s
    if s.comparing then { s with pair := keepOutput stamp (nth 0 0 (words 2)) (nth 0 1 (words 2)) s.pair } else s
  | _ =>
    let w0 := nth 0 0 (words 2)
    let w1 := nth 0 1 (words 2)
    let s := { s with pair := { s.pair with partnerMode := w0 % 256, partnerSync := w0.testBit 8, partnerDelta := w1 } }
    match s.pair.transferCycle with
    | some f =>
      if s.lops.checkpoint.live && s.pair.sending.isNone && decide (f % 2 ^ 32 ≤ w1) then
        { s with
          pair := { s.pair with transferCycle := none },
          lops := { s.lops with checkpoint := s.lops.checkpoint.finish .done 0 } }
      else s
    | none => s

/-- A record of a type received (R496): a bad one is discarded with event 230. -/
def receiveRecord (kind : Nat) (rx : PairRx) (s : State) : State :=
  if !s.pairUp || !s.member then s
  else match readRecord rx.bytes with
    | none => raise 230 s
    | some r => if r.kind = kind then trackSync (recordTaken r rx (linkAlive rx s)) else s

/-- IDENT_RECORD (R495, R502). -/
def execIdentRecord (rx : PairRx) (s : State) : Host.Outcome State Fault Refusal := act (receiveRecord 1 rx) s

/-- FULL_BEGIN_RECORD (R501). -/
def execFullBeginRecord (rx : PairRx) (s : State) : Host.Outcome State Fault Refusal := act (receiveRecord 2 rx) s

/-- FULL_DATA_RECORD (R501). -/
def execFullDataRecord (rx : PairRx) (s : State) : Host.Outcome State Fault Refusal := act (receiveRecord 3 rx) s

/-- FULL_END_RECORD (R501). -/
def execFullEndRecord (rx : PairRx) (s : State) : Host.Outcome State Fault Refusal := act (receiveRecord 4 rx) s

/-- DELTA_RECORD (R501). -/
def execDeltaRecord (rx : PairRx) (s : State) : Host.Outcome State Fault Refusal := act (receiveRecord 5 rx) s

/-- SESSIONS_RECORD (R495). -/
def execSessionsRecord (rx : PairRx) (s : State) : Host.Outcome State Fault Refusal := act (receiveRecord 6 rx) s

/-- OUTPUT_RECORD (R504). -/
def execOutputRecord (rx : PairRx) (s : State) : Host.Outcome State Fault Refusal := act (receiveRecord 7 rx) s

/-- STATUS_RECORD (R495, R503). -/
def execStatusRecord (rx : PairRx) (s : State) : Host.Outcome State Fault Refusal := act (receiveRecord 8 rx) s

/-- PAIR_LINK_DOWN (R493). -/
def execPairLinkDown (s : State) : Host.Outcome State Fault Refusal :=
  act (only (fun s => s.pair.linkUp && decide (s.pair.lastRx + 4 ≤ s.tick)) (fun s => trackSync (pairBlockLost s))) s

end Sys2Proof.Machine
end

