-- ==== Sys2Proof/Machine/UpdateRows.lean ====
section
/-!
DEFINITION. Updates (13_update_and_online_change.md): image headers and chunks, firmware activation, on-line change, forces, integrator
keys.
-/
namespace Sys2Proof.Machine

/-! ### Headers and chunks (R604 to R608, R634 to R636) -/

/-- Status of a header against the download target (R604); the recovery ROM takes Dorior classes only (R635). -/
def State.headerCheck (bs : List Byte) (s : State) : Nat :=
  let st := headerStatus s.ident.development s.upd.keys s.upd.target bs
  if s.sys.mode == .recovery && !doriorClass (readHeader bs).cls && st != 0x0701 then 0x0703 else st

/-- A write of 0xA021:03. A header that fails raises event 248. -/
def headerJob (bs : List Byte) (s : State) : Job :=
  let st := s.headerCheck bs
  { right := .rwM,
    bad := [bad (bs.length != 256) 0x0112, bad s.lops.download.live 0x0501, if bs.length = 256 then st else 0],
    refused := fun got s => if st ≠ 0 ∧ got = st then raise 248 s else s,
    eff := fun s => { s with upd := { s.upd with staged := some (readHeader bs) } } }

/-- IMAGE_HEADER (R605). -/
def execImageHeader (r : Req) (bs : List Byte) (s : State) : Host.Outcome State Fault Refusal := act (hostWrite r 0xA021 3 (headerJob bs)) s

/-- The end of a download: BODYHASH, then BODYCRC (R608). -/
def downloadEnd (s : State) : State := match s.upd.dlHeader with
  | none => s
  | some h =>
    let body := s.upd.dlBody
    let st := if sha512 body ≠ h.bodyHash then 0x0602 else if crc64 body ≠ h.bodyCrc then 0x0603 else 0
    let slot : Slot :=
      if st = 0 then { state := .valid, header := some h, body := body } else { state := .invalid, header := none, body := [] }
    let upd := { s.upd.modSlot (rowOf h.cls) s.upd.dlSlot (fun _ => slot) with dlHeader := none, dlBody := [] }
    let s := modLop 0xA020 (LongOp.finish (if st = 0 then .done else .failed) st) { s with upd := upd }
    raise (if st = 0 then 246 else 247) s

/-- A write of 0xA022:01 (R607): an 8-byte body offset, then 1 to 65,536 body bytes. -/
def chunkJob (bs : List Byte) (s : State) : Job :=
  let o := s.lops.download
  let n := bs.length - 8
  { right := .rwM,
    bad :=
      [bad (decide (bs.length < 9 ∨ 65544 < bs.length)) 0x0112, bad (o.state != .running) 0x0202, bad (beAt 0 8 bs != o.progress) 0x0114,
       bad (decide (o.total < beAt 0 8 bs + n)) 0x0705],
    eff := fun s =>
      let s := modLop 0xA020 (fun o => { o with progress := o.progress + n }) { s with upd := { s.upd with dlBody := s.upd.dlBody ++ bs.drop 8 } }
      if s.lops.download.progress = s.lops.download.total then downloadEnd s else s }

/-- Every Dorior class holds a Valid slot. -/
def State.doriorsValid (s : State) : Bool := [0, 1, 2, 3].all (fun row => (s.upd.slot row 1).state == .valid || (s.upd.slot row 2).state == .valid)

/-- A download that ended Done in RECOVERY is accepted when every Dorior class holds a Valid slot: event 254 and BOOT (R636). -/
def recoveryAccepted (before s : State) : State :=
  if s.sys.mode == .recovery && before.lops.download.state == .running && s.lops.download.state == .done && s.doriorsValid then
    enterBoot s.defaultKind (raise 254 s)
  else s

/-- IMAGE_CHUNK (R607, R608, R636). -/
def execImageChunk (r : Req) (bs : List Byte) (s : State) : Host.Outcome State Fault Refusal :=
  act (fun s => recoveryAccepted s (hostWrite r 0xA022 1 (chunkJob bs) s)) s

/-! ### Firmware activation (R612 to R614) -/

/-- Every slot in use (R601). -/
def Upd.usedSlots (u : Upd) : List Slot :=
  (rangeFrom 0 8).flatMap (fun row => ([1, 2].filter (fun w => u.slotCode row w == 4)).map (fun w => u.slot row w))

/-- REQFW of a slot's image. -/
def Slot.reqFw (x : Slot) : Nat := match x.header with
  | some h => h.reqFw
  | none => 0

/-- A REQFW above the firmware version that would run (R612). -/
def State.firmwareTooOld (v : Nat) (s : State) : Bool :=
  let u := s.upd
  let new := ((rangeFrom 0 4).filter v.testBit).map (fun row => u.slot row 2)
  let fw := if v.testBit 0 then (u.slot 0 2).ident.1 else u.fwVersion
  (u.usedSlots ++ new).any (fun x => decide (fw < x.reqFw))

/-- The KIND 2 entries of an activation: slot A's image before, slot B's after (R551, R553). -/
def State.activationLog (v : Nat) (s : State) : List (Nat × Nat × Nat) :=
  ((rangeFrom 0 4).filter v.testBit).map (fun row =>
    let a := (s.upd.slot row 1).ident
    let b := (s.upd.slot row 2).ident
    (2, logImage a.1 a.2, logImage b.1 b.2))

/-- A write of 0xA040:01 (R612, R613): the slot roles are exchanged, and the warm restart follows (ACTIVATION_RESTART). -/
def activationJob (v : Nat) (s : State) : Job :=
  let named := (rangeFrom 0 4).filter v.testBit
  let log := s.activationLog v
  { right := .rwE,
    bad :=
      [bad (decide (v = 0 ∨ 15 < v)) 0x0101,
       bad (s.sys.mode == .boot || s.sys.mode == .recovery || (s.sys.mode == .run && s.pair.linkUp && s.pair.partnerMode == 4)) 0x0201,
       bad (named.any (fun row => (s.upd.slot row 2).state != .valid)) 0x0241, bad (s.firmwareTooOld v) 0x0702,
       bad (s.upd.activating != 0 || s.upd.change.state.pending) 0x0501],
    log := log.head?, more := log.drop 1,
    eff := fun s =>
      let u := named.foldl (fun u row => u.exchange row) s.upd
      { s with upd :=
        { u with
          activating := v, activated := v, activateAtVote := s.sys.mode == .run,
          fromMode := if s.sys.mode = .safe then none else some s.sys.mode } } }

/-- FIRMWARE_ACTIVATION (R612). -/
def execFirmwareActivation (r : Req) (v : Nat) (s : State) : Host.Outcome State Fault Refusal := act (hostWrite r 0xA040 1 (activationJob v)) s

/-- The restart of an activation falls due: in RUN at the commit of the vote tick, else at the next tick (R613). -/
def State.activationDue (s : State) : Bool :=
  s.upd.activating != 0 && (!(s.sys.mode == .run && s.upd.activateAtVote) || (s.frame.committed && s.frame.vitalOk))

/-- ACTIVATION_RESTART (R613): a warm restart; from SAFE one of the kind in 0x2060:01 (R614). -/
def execActivationRestart (s : State) : Host.Outcome State Fault Refusal :=
  act (only State.activationDue (fun s => doRestart (if s.upd.fromMode.isNone then s.defaultKind else .warm) s)) s

/-! ### On-line change (R616 to R628) -/

/-- A write of 0xA050:01. -/
def changeCommandJob (v : Nat) (checks : List Nat) (eff : State → State) : Job := { right := .rwE, bad := checks, log := some (1, 0, v), eff }

/-- A loaded section. -/
def Section.isLoaded (c : Section) : Bool := decide (1 ≤ c.typ ∧ c.typ ≤ 5)

/-- A symbol of an image by its stable ID. -/
def App.symbol (a : App) (id : Nat) : Option Symbol := a.symbols.find? (fun y => y.id == id)

/-- Placement of a candidate beside the running image (R618). -/
def placementOk (old new : App) : Bool :=
  let secs := old.sections.filter Section.isLoaded
  let meets (a n : Nat) : Bool := secs.any (fun c => overlap a n c.load c.length)
  (new.sections.filter (fun c => c.isLoaded && c.typ != 4)).all (fun c => !meets c.load c.length) &&
    new.symbols.all (fun y => match old.symbol y.id with
      | some x => x.addr == y.addr && x.size == y.size
      | none => !meets y.addr y.size)

/-- Kept IDs keep KIND and TYPE (R618). -/
def symbolsKept (old new : App) : Bool :=
  new.symbols.all (fun y => match old.symbol y.id with
    | some x => x.kind == y.kind && x.typ == y.typ
    | none => true)

/-- Activation of a table set alters no locked element and no route in use (R224). -/
def matchAllowed (old new : TableSet) (v : Vital) : Bool :=
  old.elems.all (fun p =>
    let same := match new.elems.lookup p.1 with
      | some d => d.kind == p.2.kind && d.variant == p.2.variant
      | none => false
    same || (elemOf v p.1).lock == 0) &&
  v.routes.all (fun p => p.2.code == rsRELEASED || ((old.routes.lookup p.1).map (·.raw) == (new.routes.lookup p.1).map (·.raw)))

/-- The candidate set that 0xA051 names, with the checks of R618 in their order. -/
def State.candidate (s : State) : Except Nat Candidate := do
  let old := s.app
  let slot (row which : Nat) : Except Nat Slot :=
    let x := s.upd.slot row which
    let st := slotStatus s.ident.development s.upd.keys none x
    if st = 0 then .ok x else .error st
  let na := s.par 0xA051 1
  let ns := s.par 0xA051 2
  let nc := s.par 0xA051 3
  let a ← slot rowApp na
  let app ← checkApp a.ident.1 a.ident.2 a.body
  let safety ←
    if ns = 0 then do
      need (sharingOk app.iomap s.sfu.insts) 0x0743
      need (sfSymbolsOk app.symbols s.sfu.insts) 0x0746
      pure none
    else do
      let x ← slot rowSafety ns
      let sf ← checkSafety app x.body
      pure (some (x, sf))
  let sched ←
    if nc = 0 then pure none
    else do
      let x ← slot rowSched nc
      let t ← checkSchedule app.iomap x.body
      pure (some (x, t))
  let inactive := if s.ite.activeBank = 0 then s.ite.bank1 else s.ite.bank0
  let loaded : Option TableSet := if s.ite.inactiveOk then inactive else none
  let tables := loaded.filter (fun ts => ts.version == app.ref.tableVersion && ts.crc == app.ref.tableCrc)
  let ts := tables.getD s.tables
  let sf : SafetySet := match safety with
    | some x => x.2
    | none => (s.sfu.version, s.sfu.crc, s.sfu.insts)
  need (boundInUse app.iomap ts sf.2.2) 0x0725
  need (canBound s.cenv app.iomap.can) 0x0762
  let reqs := [a.reqFw] ++ (safety.map (fun x => x.1.reqFw)).toList ++ (sched.map (fun x => x.1.reqFw)).toList
  need (reqs.all (fun v => decide (v ≤ s.upd.fwVersion))) 0x0702
  need (ts.version == app.ref.tableVersion && ts.crc == app.ref.tableCrc && sf.1 == app.ref.safetyVersion && sf.2.1 == app.ref.safetyCrc) 0x0702
  need (app.k == old.k) 0x0722
  need (app.fire == old.fire && app.evtInit == old.evtInit) 0x0723
  need (placementOk old app) 0x0723
  need (symbolsKept old app) 0x0724
  need (bindingsOk app.iomap sf.2.2 ts) 0x0735
  need (matchAllowed s.tables ts s.vit) 0x0208
  need (match sched, s.efl.sched with
    | none, _ => true
    | some x, some now => x.2.crc == now.crc
    | some _, none => false) 0x0702
  pure { app, tables, safety := safety.map (·.2), appSlot := na, safetySlot := ns, schedSlot := nc }

/-- Preparing begins: the candidate is checked at once; the first failure ends it Refused with event 250. -/
def prepareStart (s : State) : State := match s.candidate with
  | .ok c => { s with upd := { s.upd with change := { s.upd.change with state := .preparing, result := 0, cand := some c, logged := false, due := false } } }
  | .error st =>
    raise 250 { s with upd := { s.upd with change := { s.upd.change with state := .refused, result := st, cand := none, logged := false, due := false } } }

/-- Command 1 at 0xA050:01 (R617, R633). -/
def prepareJob (s : State) : Job :=
  changeCommandJob 1
    [bad (s.sys.mode != .run && s.sys.mode != .standby) 0x0201, bad s.upd.change.state.pending 0x0501, bad s.upd.change.stopping 0x0503]
    prepareStart

/-- PREPARE (R618). -/
def execPrepareChange (r : Req) (s : State) : Host.Outcome State Fault Refusal := act (hostWrite r 0xA050 1 prepareJob) s

/-- Bytes of an image's section at an address. -/
def App.byteAt (a : App) (x : Nat) : Byte := match a.sections.find? (fun c => c.isLoaded && decide (c.load ≤ x) && decide (x < c.load + c.length)) with
  | some c => nth 0 (x - c.load) c.content
  | none => 0

/-- Memory of a lane with a candidate's sections beside the running image, and RETAIN values of new IDs (R619). -/
def loadCandidate (old new : App) (mem : List (Nat × Byte)) : List (Nat × Byte) :=
  let mem := loadSections (new.sections.filter (fun c => c.typ != 4)) mem
  let retain := new.sections.filter (fun c => c.typ == 4)
  let fresh := new.symbols.filter (fun y => (old.symbol y.id).isNone && retain.any (fun c => decide (c.load ≤ y.addr ∧ y.addr < c.load + c.length)))
  fresh.foldl (fun m y => (rangeFrom y.addr y.size).foldl (fun m x => spSet 0 x (new.byteAt x) m) m) mem

/-- Every Green lane has loaded the candidate (R619). -/
def preparationReady (s : State) : State := match s.upd.change.cand with
  | some c =>
    { s with
      lanes := s.lanes.mapWith (fun _ l => if l.colour = .green then { l with mem := loadCandidate s.app c.app l.mem } else l),
      upd := { s.upd with change := { s.upd.change with state := .ready } } }
  | none => s

/-- PREPARATION_READY (R619). -/
def execPreparationReady (s : State) : Host.Outcome State Fault Refusal := act (only (fun s => s.upd.change.state == .preparing) preparationReady) s

/-- Command 2 at 0xA050:01 (R617, R621). -/
def applyJob (s : State) : Job :=
  changeCommandJob 2 [bad (s.sys.mode != .run) 0x0201, bad (s.upd.change.state != .ready) 0x0202]
    (fun s => { s with upd := { s.upd with change := { s.upd.change with state := .waiting, waitFrom := s.frame.cycle } } })

/-- APPLY (R621). -/
def execApplyChange (r : Req) (s : State) : Host.Outcome State Fault Refusal := act (hostWrite r 0xA050 1 applyJob) s

/-- Command 3 at 0xA050:01 (R617). -/
def cancelJob (s : State) : Job := changeCommandJob 3 [bad (!s.upd.change.state.pending) 0x0202] (cancelChange 0)

/-- CANCEL_CHANGE (R617). -/
def execCancelChange (r : Req) (s : State) : Host.Outcome State Fault Refusal := act (hostWrite r 0xA050 1 cancelJob) s

/-- The KIND 2 entries of a change: the application, and each further image (R622). -/
def State.changeLog (c : Candidate) (s : State) : List (Nat × Nat) :=
  let row (vo co vn cn : Nat) : Nat × Nat := (logImage vo co, logImage vn cn)
  [row s.app.version s.app.crc c.app.version c.app.crc] ++
    (match c.tables with
      | some t => [row s.tables.version s.tables.crc t.version t.crc]
      | none => []) ++
    (match c.safety with
      | some x => [row s.sfu.version s.sfu.crc x.1 x.2.1]
      | none => []) ++
    (if c.schedSlot = 0 then []
    else match s.efl.sched with
      | some x =>
        let n := (s.upd.slot rowSched c.schedSlot).ident
        [row x.version x.crc n.1 n.2]
      | none => [])

/-- A boundary at which a waiting change may take effect (R621). -/
def State.boundaryClear (s : State) : Bool :=
  s.frame.overrun == 0 && s.lanes.count (fun l => l.colour == .amber) == 0 && s.voter.radmStep == .none

/-- The post-commit phase of the vote tick before the boundary (R622). A set that would now alter a locked element is refused (R224). -/
def changeEntries (logOk : Bool) (s : State) : State := match s.upd.change.state, s.upd.change.cand with
  | .waiting, some c =>
    let chg := s.upd.change
    if !s.boundaryClear || chg.logged then s
    else if !matchAllowed s.tables (c.tables.getD s.tables) s.vit then
      raise 250 { s with upd := { s.upd with change := { chg with state := .refused, result := 0x0208, cand := none } } }
    else if !logOk || s.pwr.failing || decide (4096 < s.dict.sinceExport + (s.changeLog c).length) then raise 242 (cancelChange 0x0404 s)
    else
      let s := (s.changeLog c).foldl (fun s e => ownLog 2 0 e.1 e.2 s) s
      { s with upd := { s.upd with change := { s.upd.change with logged := true } } }
  | _, _ => s

/-- Elements across a change of table sets (R223). -/
def matchElems (old new : TableSet) (img : InputImage) (binds : List BitBinding) (v : Vital) : Vital :=
  let kept (slot : Nat) (d : ElemDef) : Bool := match old.elems.lookup slot with
    | some x => x.kind == d.kind && x.variant == d.variant
    | none => false
  let gone := (old.elems.map (·.1)).filter (fun n => (new.elems.lookup n).isNone)
  let v := gone.foldl (fun v n => { v with elems := spSet {} n {} v.elems }) v
  new.elems.foldl (fun v p =>
    if kept p.1 p.2 then v else { v with elems := spSet {} p.1 (coldElem p.2 (detectWord img binds p.2)) v.elems }) v

/-- Edge detectors of new IDs primed, each lane alike (R624). -/
def primeNew (old new : App) (s : State) : State :=
  let ys := new.symbols.filter (fun y => y.kind == 2 && (old.symbol y.id).isNone)
  let vals := ys.foldl (fun (p : List (Nat × Byte) × State) y => primeSymbol y p) ([], s)
  let put (l : Lane) : Lane := if l.colour = .green then { l with mem := vals.1.foldl (fun m p => spSet 0 p.1 p.2 m) l.mem } else l
  { vals.2 with lanes := vals.2.lanes.mapWith (fun _ l => put l) }

/-- Forces across a change (R632): a symbol force stays when its ID is kept and still marked forceable. -/
def judgeForces (old new : App) (s : State) : State :=
  let stays (f : Force) : Bool := match f with
    | .output _ => true
    | .symbol id _ => (old.symbol id).isSome && (match new.symbol id with
      | some y => y.flags.testBit 1 && y.kind != 4
      | none => false)
  let gone := s.upd.forces.filter (fun f => !stays f)
  gone.foldl (fun s f => dropForce f s) { s with upd := { s.upd with forces := s.upd.forces.filter stays } }

/-- Output commands across the handover (R627): a channel in use keeps its command under its new owner, any other is off. -/
def carryOuts (m : Iomap) (o : Outs) : Outs :=
  let on (owner c : Nat) : Bool :=
    (nth {} c m.outs).inUse && (nth {} c m.outs).owner == owner && (o.fast.testBit c || o.vital.testBit c)
  let vital := bitsOf (on 2) (rangeFrom 0 24)
  { o with fast := bitsOf (on 1) (rangeFrom 0 24), vital, vitalW := vital }

/-- A full image of the new set is due at the vital commit of the cycle (R628); one of the old set is given up, a transfer waits for the new. -/
def changeImage (p : Pair) : Pair :=
  let moving := match p.sending with
    | some x => x.transfer
    | none => false
  { p with sending := none, brokenChain := true, transferDue := p.transferDue || moving }

/-- The handover at the input latch of the first tick of cycle b (R623 to R627). -/
def handover (c : Candidate) (s : State) : State :=
  let old := s.app
  let ts := s.tables
  let s := adoptSet c s
  let s := match c.tables with
    | some new =>
      let v := matchElems ts new s.img s.binds s.vitW
      raise 79 (feedV (elemWrites s.vitW v) { s with vitW := v })
    | none => s
  let s := cancelSpeculation (judgeForces old c.app (primeNew old c.app s))
  let b := s.frame.cycle
  raise 251
    { s with
      frame := { s.frame with ctx := { s.frame.ctx with flags := setBit 3 true s.frame.ctx.flags } },
      outs := carryOuts c.app.iomap s.outs, pair := changeImage s.pair,
      upd := { s.upd with change := { s.upd.change with state := .applied, applied := b, cand := none, logged := false, due := false } } }

/-- ONLINE_CHANGE_HANDOVER (R623). -/
def execOnlineChangeHandover (s : State) : Host.Outcome State Fault Refusal :=
  act (only (fun s => s.upd.change.due && s.upd.change.state == .waiting) (fun s => match s.upd.change.cand with
    | some c => handover c s
    | none => s)) s

/-- ONLINE_CHANGE_WAIT_EXPIRY (R621). -/
def execOnlineChangeWaitExpiry (s : State) : Host.Outcome State Fault Refusal :=
  act (only (fun s => s.upd.change.state == .waiting && !s.upd.change.logged && decide (s.upd.change.waitFrom + 1000 ≤ s.frame.cycle))
    (cancelChange 0x0501)) s

/-! ### Forces (R629 to R631) -/

/-- Forces are accepted in CONFIGURE and RUN (R629). -/
def State.forceMode (s : State) : Nat := bad (s.sys.mode != .configure && s.sys.mode != .run) 0x0201

/-- The target of a force: symbol or channel. -/
def Force.sameTarget : Force → Force → Bool
  | .symbol a _, .symbol b _ => a == b
  | .output a, .output b => a == b
  | _, _ => false

/-- A symbol that may be forced (R630). -/
def Symbol.forceable (y : Symbol) : Bool := y.flags.testBit 1 && y.kind != 4 && y.size == 8 && [1, 2, 3, 4, 6, 7, 8, 10].contains y.typ

/-- A 32-bit value within its TYPE (R630). -/
def typeHolds (typ v : Nat) : Bool :=
  let signed (w : Nat) : Bool := decide (v < 2 ^ (w - 1) ∨ 2 ^ 32 - 2 ^ (w - 1) ≤ v)
  match typ with
  | 1 => decide (v < 2)
  | 2 => decide (v < 2 ^ 8)
  | 3 => decide (v < 2 ^ 16)
  | 6 => signed 8
  | 7 => signed 16
  | _ => true

/-- A force set: an earlier one of its target is replaced. KIND 5 and event 252. -/
def forceJob (f : Force) (checks : List Nat) (s : State) : Job :=
  let old := s.upd.forces.find? f.sameTarget
  { right := .rwE,
    bad := checks ++ [s.forceMode, bad (old.isNone && decide (32 ≤ s.upd.forces.length)) 0x0409],
    log := some (5, ((old.map Force.log).getD 0), f.log),
    eff := fun s => raise 252 { s with upd := { s.upd with forces := s.upd.forces.filter (fun x => !f.sameTarget x) ++ [f] } } }

/-- A force removed: KIND 6 and event 253. -/
def unforceJob (f : Force) (range : Nat) (s : State) : Job :=
  let old := s.upd.forces.find? f.sameTarget
  { right := .rwE,
    bad := [range, bad old.isNone 0x0101, s.forceMode],
    log := some (6, ((old.map Force.log).getD 0), 0),
    eff := fun s => raise 253 { s with upd := { s.upd with forces := s.upd.forces.filter (fun x => !f.sameTarget x) } } }

/-- A write of 0xA060:01. -/
def forceSymbolJob (v : Nat) (s : State) : Job :=
  let id := v / 2 ^ 32 % 2 ^ 32
  let value := v % 2 ^ 32
  let checks := match s.app.symbol id with
    | some y => [bad (!y.forceable) 0x0101, bad (!typeHolds y.typ value) 0x0102]
    | none => [0x0101]
  forceJob (.symbol id value) checks s

/-- FORCE_SYMBOL (R630, R631). -/
def execForceSymbol (r : Req) (v : Nat) (s : State) : Host.Outcome State Fault Refusal := act (hostWrite r 0xA060 1 (forceSymbolJob v)) s

/-- A write of 0xA060:02. -/
def forceOutputJob (v : Nat) (s : State) : Job := forceJob (.output v) [bad (decide (23 < v)) 0x0101] s

/-- FORCE_OUTPUT_OFF (R630, R631). -/
def execForceOutputOff (r : Req) (v : Nat) (s : State) : Host.Outcome State Fault Refusal := act (hostWrite r 0xA060 2 (forceOutputJob v)) s

/-- REMOVE_SYMBOL_FORCE (R630, R631). -/
def execRemoveSymbolForce (r : Req) (v : Nat) (s : State) : Host.Outcome State Fault Refusal :=
  act (hostWrite r 0xA060 3 (unforceJob (.symbol v 0) 0)) s

/-- REMOVE_OUTPUT_FORCE (R630, R631). -/
def execRemoveOutputForce (r : Req) (v : Nat) (s : State) : Host.Outcome State Fault Refusal :=
  act (hostWrite r 0xA060 4 (unforceJob (.output v) (bad (decide (23 < v)) 0x0101))) s

/-! ### Integrator keys (R603) -/

/-- A write of 0xA070:01 to :04. -/
def keyJob (sub : Nat) (bs : List Byte) (s : State) : Job :=
  let k := sub - 1
  let inUse := s.upd.usedSlots.any (fun x => match x.header with
    | some h => h.keySet == 3 && h.keySlot == k
    | none => false)
  { right := .rwE, console := true,
    bad := [bad (bs.length != 32) 0x0112, configureOnly s, bad inUse 0x0240],
    log := some (1, crc64 (nth [] k s.upd.keys), crc64 bs),
    eff := fun s => { s with upd := { s.upd with keys := modNth k (fun _ => bs) s.upd.keys } } }

/-- INTEGRATOR_KEY_WRITE (R603). -/
def execIntegratorKeyWrite (r : Req) (sub : Nat) (bs : List Byte) (s : State) : Host.Outcome State Fault Refusal :=
  act (fun s => if 1 ≤ sub ∧ sub ≤ 4 then hostWrite r 0xA070 sub (keyJob sub bs) s else s) s

end Sys2Proof.Machine
end

