-- ==== Sys2Proof/Machine/Apply.lean ====
section
/-!
DEFINITION. Writes of the dictionary: the checks of every writable entry, the parameter set, passwords, and WRITE with its segments and its
application at an input latch (11_object_dictionary.md R520 to R524, R531, R534, R536, R544).
-/
namespace Sys2Proof.Machine

/-! ### Parameters (R58, R123, and their like) -/

/-- A CAN bit timing (R442): nominal at :02, data at :03. The other phase stands as it is. -/
def canTimingStatus (nominal data : Nat) (isData : Bool) : Nat :=
  let nb := 1 + (bits 24 17 nominal + 1) + (bits 16 10 nominal + 1)
  let nbrp := bits 9 5 nominal + 1
  let db := 1 + (bits 27 23 data + 1) + (bits 22 19 data + 1)
  let dbrp := bits 18 14 data + 1
  let reserved := if isData then bits 5 0 data else bits 4 0 nominal
  let range := if isData then false else bits 24 17 nominal < 1 || bits 16 10 nominal < 1
  let wrong :=
    if isData then decide (bits 22 19 data < bits 31 28 data) || (!data.testBit 13 && decide (dbrp ≤ 2))
    else decide (bits 16 10 nominal < bits 31 25 nominal)
  firstStatus
    [bad (reserved != 0) 0x0101, bad range 0x0102,
     bad (wrong || decide (nb * nbrp < 80) || decide (db * dbrp < 10) || decide (nb * nbrp < db * dbrp)) 0x0103]

/-- A message object as a write leaves it (R444, R446). -/
def canObjectStatus (n m sub : Nat) (s : State) : Nat :=
  let o := s.cenv.objCfg n m
  let p (i : Nat) : Nat := s.par (0x7C00 + 256 * n + m) i
  let form := (sub == 2 && bits 30 29 (p 2) != 0) || (sub == 3 && (decide (3 < p 3) || (o.brs && !o.fd)))
  let idBad := !o.ext && decide (0x800 ≤ o.id)
  let binBad := decide (1024 ≤ o.binding) && o.binding != 0xFFFE && o.binding != 0xFFFF
  let streamBad := match s.can.defs.find? (fun d => d.stream == o.binding) with
    | some d => d.ctrl != n || d.transmit != (o.dir == 1) || (d.cls == 1 && (!o.fd || o.len != 16 + d.plen))
    | none => false
  let twin := o.dir == 1 && (s.cenv.objCfgs n).any (fun x => x.num != m && x.dir == 1 && x.ext == o.ext && x.id == o.id)
  firstStatus
    [bad form 0x0101, bad ((sub == 2 && idBad) || (sub == 4 && !canLengthOk o.fd o.len) || (sub == 5 && binBad)) 0x0102,
     bad (o.dir != 0 && streamBad) 0x0104, bad twin 0x0105]

/-- An acceptance rule as a write leaves it (R447, R450). A rule that is off stores nothing. -/
def canRuleStatus (n r : Nat) (s : State) : Nat :=
  let p (i : Nat) : Nat := s.par (0x7900 + 0xC0 * n + r) i
  let width := if (p 2).testBit 0 then 2 ^ 29 else 2 ^ 11
  let on := p 1 != 0
  let wrong :=
    (on && p 3 == 0 && (s.cenv.objCfg n (p 4)).dir != 2) || (p 1 == 1 && decide (p 6 < p 5)) || decide (width ≤ p 5) || decide (width ≤ p 6) ||
      bits 2 1 (p 2) == 3 || decide (8 ≤ p 2)
  let rs := s.cenv.rules n
  let ext := (rs.filter (fun r => r.cls.testBit 0)).length
  firstStatus [bad wrong 0x0106, bad (on && decide (64 < ext ∨ 128 < rs.length - ext)) 0x0408]

/-- A twin entry (R515): two different receive streams of the active schedule table. -/
def twinStatus (v : Nat) (s : State) : Nat :=
  let a := bits 31 16 v
  let b := bits 15 0 v
  let known (n : Nat) : Bool := (s.efl.sched.bind (fun x => x.streamDef n)).isSome && s.app.iomap.rx.contains n
  bad (v != 0xFFFFFFFF && (a == b || !known a || !known b)) 0x0109

/-- Checks of a parameter value beyond type, range and mode, in the state that the write would leave. -/
def parSpecial (index sub v : Nat) (s : State) : Nat :=
  if (index = 0x8011 ∧ sub = 1) ∨ (index = 0x6010 ∧ sub = 3) then bad (decide (s.par 0x6010 3 < s.par 0x8011 1)) 0x0108
  else if 0x8050 ≤ index ∧ index < 0x8090 then twinStatus v s
  else if 0x6200 ≤ index ∧ index < 0x6230 ∧ sub = 3 then
    bad (s.sfu.insts.any (fun p => [p.2.ch1, p.2.ch2, p.2.ch3, p.2.ch4].contains (index - 0x6200))) 0x0220
  else if 0x7820 ≤ index ∧ index < 0x7824 then canTimingStatus (s.par index 2) (s.par index 3) (sub == 3)
  else if 0x7900 ≤ index ∧ index < 0x7C00 then canRuleStatus ((index - 0x7900) / 0xC0) ((index - 0x7900) % 0xC0) s
  else if 0x7C00 ≤ index ∧ index < 0x8000 then canObjectStatus ((index - 0x7C00) / 256) ((index - 0x7C00) % 256) sub s
  else 0

/-- Own checks of a parameter value: type, range (R123), and those of its chapter against the values `ps` that the write leaves. -/
def parChecks (ps : List (Nat × Val)) (index sub v : Nat) (d : ParDef) (s : State) : List Nat :=
  let range := if d.range.has v then 0 else d.range.refusal
  [range, if range = 0 then parSpecial index sub v { s with params := ps } else 0]

/-- Mode and business of a parameter write (R58, R123, R231, R638). -/
def parMode (index : Nat) (d : ParDef) (s : State) : List Nat :=
  [if d.config then configureOnly s else bad (s.sys.mode == .boot || s.sys.mode == .recovery) 0x0201,
   bad (index == 0x4021 && s.lops.tableLoad.live) 0x0501, bad ((index == 0xA030 || index == 0xA051) && s.upd.change.state.pending) 0x0501]

/-- Counting windows of a subsystem whose N or W has changed are cleared (R58). -/
def clearWindows (index sub : Nat) (s : State) : State :=
  if index = 0x3010 then { s with lanes := s.lanes.mapWith (fun _ l => { l with faults := [] }) }
  else if index = 0x6010 ∧ sub < 3 then
    { s with fio :=
      { s.fio with
        ins := s.fio.ins.map (fun x => { x with faults := [] }), outs := s.fio.outs.map (fun x => { x with faults := [] }),
        groups := s.fio.groups.map (fun x => { x with faults := [] }) } }
  else if index = 0x7010 then { s with efl := { s.efl with ports := s.efl.ports.map (fun x => { x with faults := [] }) } }
  else if index = 0x7810 then { s with can := { s.can with ctls := s.can.ctls.map (fun x => { x with faults := [] }) } }
  else s

/-- A parameter value in force. -/
def putPar (index sub v : Nat) (s : State) : State :=
  let changed := s.par index sub != v
  let s := { s with params := parPut s.params index sub v }
  if changed then clearWindows index sub s else s

/-- A write of a parameter. -/
def parJob (index sub v : Nat) (d : ParDef) (s : State) : Job :=
  { right := .rwE,
    bad := parChecks (parPut s.params index sub v) index sub v d s ++ parMode index d s,
    log := some (1, s.par index sub, v),
    eff := putPar index sub v }

/-! ### The parameter set (R524, R558) -/

/-- The records of a parameter set: INDEX, SUB, TYPE, value; none where the bytes are not records. `n` bounds the records. -/
def readRecords : Nat → List Byte → Option (List (Nat × Nat × Nat × List Byte))
  | 0, bs => if bs.isEmpty then some [] else none
  | n + 1, bs =>
    let len := beAt 4 2 bs
    let total := 6 + len + (4 - (6 + len) % 4) % 4
    if bs.length < total then none
    else match readRecords n (bs.drop total) with
      | some rs => if slice (6 + len) (total - 6 - len) bs = zeros (total - 6 - len) then some ((beAt 0 2 bs, beAt 2 1 bs, beAt 3 1 bs, slice 6 len bs) :: rs) else none
      | none => none

/-- Status of a parameter set, and the values that it leaves in force. A set that is malformed or incomplete is refused with 0x0101. -/
def judgeSet (bs : List Byte) (s : State) : Nat × List (Nat × Nat × Nat) :=
  let n := bs.length
  if n < 20 then (0x0101, [])
  else if crc32c (bs.take (n - 4)) ≠ beAt (n - 4) 4 bs then (0x0603, [])
  else if beAt 0 4 bs ≠ 1 ∨ slice 8 8 bs ≠ zeros 8 then (0x0101, [])
  else match readRecords (beAt 4 4 bs) (slice 16 (n - 20) bs) with
    | none => (0x0101, [])
    | some rs =>
      if rs.any (fun r => (parDef r.1 r.2.1).isNone) then (0x0116, [])
      else if rs.map (fun r => (r.1, r.2.1)) ≠ parEntries.map (fun p => (p.1, p.2.1)) then (0x0101, [])
      else
        let vals := rs.map (fun r => (r.1, r.2.1, beNat r.2.2.2))
        let ps := vals.foldl (fun ps v => parPut ps v.1 v.2.1 v.2.2) s.params
        let judge (r : Nat × Nat × Nat × List Byte) : List Nat := match parDef r.1 r.2.1 with
          | some d =>
            if r.2.2.1 ≠ d.typ.code ∨ some r.2.2.2.length ≠ d.typ.size then [0x0112]
            else if s.par r.1 r.2.1 = beNat r.2.2.2 then parChecks ps r.1 r.2.1 (beNat r.2.2.2) d s
            else parChecks ps r.1 r.2.1 (beNat r.2.2.2) d s ++ (parMode r.1 d s).filter (fun c => c != 0x0201)
          | none => [0x0116]
        (firstStatus (rs.flatMap judge), vals)

/-- A write of 0x1100:01: every entry at one input latch, or none. KIND 3 and event 239. -/
def paramSetJob (bs : List Byte) (s : State) : Job :=
  let (st, vals) := judgeSet bs s
  let put (s : State) : State := vals.foldl (fun s v => putPar v.1 v.2.1 v.2.2 s) s
  { right := .rwE, bad := [st, configureOnly s], log := some (3, paramSetCrc s.params, paramSetCrc (put s).params), eff := fun s => raise 239 (put s) }

/-- PARAMETER_SET (R524). -/
def execParameterSet (r : Req) (bs : List Byte) (s : State) : Host.Outcome State Fault Refusal := act (hostWrite r 0x1100 1 (paramSetJob bs)) s

/-- A write of 0x1100:03. -/
def restoreJob (v : Nat) (s : State) : Job :=
  let put (s : State) : State := parEntries.foldl (fun s p => putPar p.1 p.2.1 p.2.2.dflt s) s
  { right := .rwE, bad := [bad (v != 1) 0x0101, configureOnly s], log := some (3, paramSetCrc s.params, paramSetCrc (put s).params), eff := put }

/-- RESTORE_DEFAULTS (R558). -/
def execRestoreDefaults (r : Req) (v : Nat) (s : State) : Host.Outcome State Fault Refusal := act (hostWrite r 0x1100 3 (restoreJob v)) s

/-! ### Passwords (R542, R544, R545) -/

/-- Level whose password an entry of 0x1210 holds. -/
def passwordLevel (sub : Nat) : Nat := if sub = 1 then 2 else 1

/-- Every other session of a level ends (R542). -/
def endSessions (keep level : Nat) (s : State) : State :=
  (indices (fun (x : Session) => x.phase != .free && x.level == level && x.id != keep) s.dict.sessions).foldl
    (fun s k => let was := (s.session k).phase; let s := freeSlot k s; if was = .opened then raise 234 s else s) s

/-- A password stored under a fresh SALT. -/
def putPassword (r : Req) (sub : Nat) (bs : List Byte) (s : State) : State :=
  let (salt, s) := freshBytes 16 s
  let p : Password := { salt, key := sha256 (salt ++ bs) }
  let d := if sub = 1 then { s.dict with engineer := some p } else { s.dict with maintainer := some p }
  endSessions r.session (passwordLevel sub) { s with dict := d }

/-- A write of 0x1210:01 or :02. The first engineer password needs a session of level 0 only. -/
def passwordJob (r : Req) (sub : Nat) (bs : List Byte) (s : State) : Job :=
  { right := .woE, console := true, openFirst := sub == 1 && s.dict.engineer.isNone,
    bad := [bad (decide (bs.length < 8 ∨ 32 < bs.length) || bs.any (fun b => b < 0x21 || 0x7E < b)) 0x0101],
    log := some (4, 0, 0),
    eff := putPassword r sub bs }

/-- PASSWORD_WRITE (R544, R545). -/
def execPasswordWrite (r : Req) (sub : Nat) (bs : List Byte) (s : State) : Host.Outcome State Fault Refusal :=
  act (fun s => if sub = 1 ∨ sub = 2 then hostWrite r 0x1210 sub (passwordJob r sub bs) s else s) s

/-! ### Events, export, records -/

/-- A write of 0x9100+e:01 (R557). -/
def flagJob (e v : Nat) (_ : State) : Job :=
  { right := .rwM, bad := [bad (v != 0) 0x0101],
    eff := fun s => { s with evt := clearFlags (e / 32) (2 ^ (e % 32)) s.evt } }

/-- EVENT_FLAG_CLEAR (R557). -/
def execEventFlagClear (r : Req) (e v : Nat) (s : State) : Host.Outcome State Fault Refusal :=
  act (fun s => if e < 256 then hostWrite r (0x9100 + e) 1 (flagJob e v) s else s) s

/-- A write of 0x9021:02 (R555). -/
def acknowledgeJob (v : Nat) (s : State) : Job :=
  { right := .rwM, bad := [bad (s.lops.logExport.state != .done || v != s.dict.exportLast) 0x0101],
    eff := fun s => { s with dict := { s.dict with sinceExport := 0 } } }

/-- EXPORT_ACKNOWLEDGEMENT (R555). -/
def execExportAcknowledgement (r : Req) (v : Nat) (s : State) : Host.Outcome State Fault Refusal :=
  act (hostWrite r 0x9021 2 (acknowledgeJob v)) s

/-- A write of 0x5F00:02 (R340, R553). -/
def clearDiagJob (v : Nat) (_ : State) : Job :=
  { right := .rwM, bad := [bad (v != 1) 0x0101], log := some (8, 0, 0),
    eff := fun s => { s with sfu := { s.sfu with diag := [] }, sfuW := { s.sfuW with diag := [] } } }

/-- CLEAR_DIAGNOSTIC_RECORDS (R340). -/
def execClearDiagnosticRecords (r : Req) (v : Nat) (s : State) : Host.Outcome State Fault Refusal := act (hostWrite r 0x5F00 2 (clearDiagJob v)) s

/-! ### Efavo and CAN commands -/

/-- A write of 0x7004:01 (R416, R438). -/
def inaugurationJob (v rel : Nat) (s : State) : Job :=
  { right := .woM, bad := [bad (v != 1) 0x0101, bad s.efl.inaug 0x0223],
    eff := doEfl (fun env w => startInaug env (w.e.linkNs + rel) w) }

/-- START_INAUGURATION (R416). -/
def execStartInauguration (r : Req) (v rel : Nat) (s : State) : Host.Outcome State Fault Refusal := act (hostWrite r 0x7004 1 (inaugurationJob v rel)) s

/-- A write of 0x7002:02 (R410, R411). -/
def scheduleModeJob (v : Nat) (s : State) : Job :=
  { right := .rwM, bad := modeRequestChecks s.efl v,
    eff := fun s => doEfl (fun _ w => ({ w with e := modeRequest v w.e.linkNs w.e }).raise 137) (keepValue 0x7002 2 v s) }

/-- SCHEDULE_MODE_REQUEST (R410). -/
def execScheduleModeRequest (r : Req) (v : Nat) (s : State) : Host.Outcome State Fault Refusal := act (hostWrite r 0x7002 2 (scheduleModeJob v)) s

/-- A write of 0x7840+n:01 (R458). -/
def cancelObjectJob (n v : Nat) (stage : CanStage) (s : State) : Job :=
  let x := nth {} n s.can.ctls
  let o : CanObj := spGet {} v x.objs
  { right := .woM,
    bad := [bad (decide (255 < v)) 0x0101, bad ((s.cenv.objCfg n v).dir != 1) 0x0107, bad o.request.isNone 0x0212],
    eff := doCan (fun _ w => cancelRequest n v stage true w) }

/-- CANCEL_OBJECT (R458). -/
def execCancelObject (r : Req) (n v : Nat) (stage : CanStage) (s : State) : Host.Outcome State Fault Refusal :=
  act (fun s => if n < 4 then hostWrite r (0x7840 + n) 1 (cancelObjectJob n v stage) s else s) s

/-! ### Every writable entry -/

/-- Selectors and download target: kept values, refused with the status of their range. -/
def plainJob (right : Right) (range : Nat) (eff : State → State) : Job := { right, bad := [range], eff }

/-- The work of a write of an entry that is no parameter; none for an entry that is read-only. -/
def plainWrite (r : Req) (index sub : Nat) (v : Val) (s : State) : Option Job :=
  let n := v.toNum
  let bs := v.toBytes
  match index, sub with
  | 0x1100, 1 => some (paramSetJob bs s)
  | 0x1100, 3 => some (restoreJob n s)
  | 0x2000, 2 => some (modeJob n s)
  | 0x2000, 4 => some (restartJob n s)
  | 0x3020, 1 => some (powerDownJob n s)
  | 0x3020, 2 => some (regionResetJob n s)
  | 0x3030, 5 => some (selfTestJob n s)
  | 0x4100, 1 => some (plainJob .rw 0 (keepValue 0x4100 1 n))
  | 0x4101, 1 => some (elemJob n s)
  | 0x4110, 1 => some (plainJob .rw (bad (decide (16384 ≤ n)) 0x0102) (keepValue 0x4110 1 n))
  | 0x4120, 1 => some (routeJob n s)
  | 0x5F00, 2 => some (clearDiagJob n s)
  | 0x6020, 1 => some (fieldResetJob n s)
  | 0x7002, 2 => some (scheduleModeJob n s)
  | 0x7004, 1 => some (inaugurationJob n 0 s)
  | 0x9021, 2 => some (acknowledgeJob n s)
  | 0xA021, 1 => some (plainJob .rwM (bad (classRow n).isNone 0x0101) (fun s => { s with upd := { s.upd with target := n } }))
  | 0xA021, 2 => some (plainJob .rwM (bad (n != 1 && n != 2) 0x0101) (fun s => { s with upd := { s.upd with targetSlot := n } }))
  | 0xA021, 3 => some (headerJob bs s)
  | 0xA022, 1 => some (chunkJob bs s)
  | 0xA040, 1 => some (activationJob n s)
  | 0xA050, 1 =>
    some (if n = 1 then prepareJob s else if n = 2 then applyJob s else if n = 3 then cancelJob s else changeCommandJob n [0x0101] id)
  | 0xA060, 1 => some (forceSymbolJob n s)
  | 0xA060, 2 => some (forceOutputJob n s)
  | 0xA060, 3 => some (unforceJob (.symbol n 0) 0 s)
  | 0xA060, 4 => some (unforceJob (.output n) (bad (decide (23 < n)) 0x0101) s)
  | _, _ =>
    if index = 0x1210 ∧ (sub = 1 ∨ sub = 2) then some (passwordJob r sub bs s)
    else if lopIndexes.contains index ∧ sub = 1 then
      some (if n = 1 then
          (if index = 0x4020 then tableLoadJob s else if index = 0x8020 then checkpointJob s else if index = 0x9020 then exportJob s else downloadJob s)
        else if 2 ≤ n ∧ n ≤ 4 then lopCommand index n s
        else lopJob index n [0x0101] id)
    else if 0x7840 ≤ index ∧ index < 0x7844 ∧ sub = 1 then some (cancelObjectJob (index - 0x7840) n .pending s)
    else if 0x9100 ≤ index ∧ index < 0x9200 ∧ sub = 1 then some (flagJob (index - 0x9100) n s)
    else if index = 0xA070 ∧ 1 ≤ sub ∧ sub ≤ 4 then some (keyJob sub bs s)
    else none

/-- The work of a write of an entry. -/
def jobOf (r : Req) (index sub : Nat) (v : Val) (s : State) : Job :=
  match parDef index sub with
  | some d => parJob index sub v.toNum d s
  | none => (plainWrite r index sub v s).getD { right := .ro, eff := id }

/-! ### WRITE (R520, R522, R531, R534, R536) -/

/-- A write judged and carried out: status and state after it. -/
def applyWrite (q : Staged) (s : State) : Nat × State :=
  let access := writeAccess q.req .rw false true s
  match entryInfo s q.index q.sub with
  | none => (firstStatus (0x0110 :: access), s)
  | some e =>
    let fits : Bool := q.typ == e.typ.code && (match e.typ.size with
      | some n => q.data.length == n
      | none => e.typ != .string || decide (q.data.length ≤ 255))
    if !fits then (firstStatus (0x0112 :: access), s)
    else
      let v : Val := if e.typ = .domain ∨ e.typ = .string then .bytes q.data else .num (beNat q.data)
      if e.typ = .bool ∧ 1 < v.toNum then (firstStatus (0x0101 :: access), s)
      else runJob q.req q.index q.sub (jobOf q.req q.index q.sub v s) s

/-- Segments of a DOMAIN write that are forgotten. -/
def dropSegments (k : Option Nat) (s : State) : State := match k with
  | some k => modSession k (fun x => { x with segments := none }) s
  | none => s

/-- A whole value waits for the input latch; a full queue drops the request without response (R536). -/
def stage (q : Staged) (s : State) : State :=
  if 32 ≤ s.dict.staged.length then { s with dict := { s.dict with dropped := add32 s.dict.dropped 1 } }
  else
    let s := { s with dict := { s.dict with staged := s.dict.staged ++ [q] } }
    match findSlot q.req.session s.dict with
    | some k => modSession k (fun x => { x with busy := true, segments := none, lastUsed := s.tick }) s
    | none => s

/-- A WRITE received. -/
def writeFrame (f : DictFrame) (s : State) : State :=
  received 2 f (fun r s =>
    let b := f.body
    if b.length < 12 then answer r 2 0x0115 [] s
    else
      let index := beAt 0 2 b
      let sub := beAt 2 1 b
      let typ := beAt 3 1 b
      let offset := beAt 4 4 b
      let last := (beAt 8 1 b) % 2 == 1
      let data := b.drop 12
      let k := findSlot r.session s.dict
      let held := match k with
        | some k => (s.session k).segments
        | none => none
      if 1 < beAt 8 1 b ∨ beAt 9 3 b ≠ 0 then answer r 2 0x0101 [] (dropSegments k s)
      else if typ ≠ 0x0C then
        (if offset ≠ 0 ∨ !last then answer r 2 0x0115 [] (dropSegments k s)
        else stage { req := r, index, sub, typ, offset, data } s)
      else
        let before : List Byte := match held with
          | some h => if h.index = index ∧ h.sub = sub ∧ offset ≠ 0 then h.data else []
          | none => []
        if offset ≠ before.length then answer r 2 0x0114 [] (dropSegments k s)
        else if last then stage { req := r, index, sub, typ, offset, data := before ++ data } s
        else
          let open_ := writeAccess r .rw false true s
          if firstStatus open_ ≠ 0 then answer r 2 (firstStatus open_) [] s
          else
            let keep (k : Nat) : State := modSession k (fun x => { x with segments := some { index, sub, data := before ++ data } }) s
            answer r 2 0 [] (match k with
              | some k => keep k
              | none => s)) s

/-- WRITE (R520, R534). -/
def execWriteEntry (f : DictFrame) (s : State) : Host.Outcome State Fault Refusal := act (writeFrame f) s

/-- The staged writes applied at an input latch in their order of receipt, and answered (R520, R522); a mode request waits (R53). -/
def applyStaged (s : State) : State :=
  let qs := s.dict.staged
  qs.foldl (fun s q =>
    let before := s
    if q.index = 0x2000 ∧ q.sub = 2 ∧ q.typ = DType.u8.code ∧ q.data.length = 1 then askMode q.req (beNat q.data) s
    else
      let (st, s) := applyWrite q s
      recoveryAccepted before (answer q.req 2 st [] s)) { s with dict := { s.dict with staged := [] } }

/-! ### CAN segments (R527) -/

/-- A protocol frame read from its bytes; none where they are too few. -/
def readDictFrame (carrier : Carrier) (peer : Nat) (bs : List Byte) : Option DictFrame :=
  let len := beAt 14 2 bs
  if bs.length < 36 + len ∨ bs.length < 36 then none
  else some
    { carrier, peer, magic := beAt 0 2 bs, version := beAt 2 1 bs, op := beAt 3 1 bs, session := beAt 4 4 bs, seq := beAt 8 4 bs, status := beAt 12 2 bs,
      len, body := slice 16 len bs, tag := slice (16 + len) 16 bs, crc := beAt (32 + len) 4 bs }

/-- A frame handed to its operation (R529). -/
def serveFrame (f : DictFrame) (s : State) : State :=
  match f.op with
  | 0x01 => readFrame f s
  | 0x02 => writeFrame f s
  | 0x03 => openFrame f s
  | 0x04 => proveFrame f s
  | 0x05 => closeFrame f s
  | 0x06 => pingFrame f s
  | 0x11 => subscribeFrame f s
  | _ => unknownFrame f s

/-- The frame in reassembly on a controller. -/
def putReassembly (n : Nat) (x : Option Reassembly) (s : State) : State :=
  { s with dict := { s.dict with reassembly := (s.dict.reassembly.filter (fun p => p.1 != n)) ++ (x.map (fun x => (n, x))).toList } }

/-- A segment received on controller `n`: the frame goes on, is complete, or is discarded. -/
def canSegment (n : Nat) (seg : List Byte) (s : State) : State :=
  let head := beAt 0 1 seg
  let first := head.testBit 7
  let x : Option Reassembly := if first then some { next := 0, data := [] } else s.dict.reassembly.lookup n
  match x with
  | none => s
  | some x =>
    if head % 64 ≠ x.next % 64 then putReassembly n none s
    else
      let data := x.data ++ seg.drop 1
      if head.testBit 6 then
        let s := putReassembly n none s
        match readDictFrame .can n data with
        | some f => serveFrame f s
        | none => { s with dict := { s.dict with discarded := add32 s.dict.discarded 1 } }
      else putReassembly n (some { next := x.next + 1, data }) s

/-- CAN_SEGMENT (R527). -/
def execCanSegment (n : Nat) (seg : List Byte) (s : State) : Host.Outcome State Fault Refusal :=
  act (only (fun s => s.serverUp .can && decide (n < 4) && seg.length == 64) (canSegment n seg)) s

/-! ### Power fail (R647 to R649) -/

/-- A staged write whose change-log entry has not been written is refused (R648). -/
def refuseStaged (q : Staged) (s : State) : State :=
  let s := { s with pwr := { s.pwr with failing := true } }
  let (st, t) := applyWrite q s
  if st = 0x0404 then answer q.req 2 st [] t else s

/-- A waiting mode request, whose change-log entry has not been written either, is refused (R648). -/
def refuseAsked (r : Req) (s : State) : State := if s.serverUp r.carrier then answer r 2 0x0404 [] (raise 242 s) else s

/-- The power-fail sequence: the hold code stops, every switch opens, changes not yet logged are refused, and every domain except PD-AON is
held in reset until the supply returns. -/
def powerFail (s : State) : State :=
  let s := releaseOff (closeGates s)
  let s := s.dict.staged.foldl (fun s q => refuseStaged q s) { s with pwr := { s.pwr with failing := true } }
  let s := s.dict.asked.foldl (fun s q => refuseAsked q.1 s) s
  { s with dead := true, dict := { s.dict with staged := [], asked := [] }, pwr := { s.pwr with domains := s.pwr.domains / 256 * 256 } }

/-- POWER_FAIL_SEQUENCE (R648). -/
def execPowerFailSequence (s : State) : Host.Outcome State Fault Refusal := act powerFail s

end Sys2Proof.Machine
end

