-- ==== Sys2Proof/Machine/Comms.lean ====
section
/-!
DEFINITION. The commands of the Efavo link and of the CAN controllers that need no dictionary request (08, 09).
-/
namespace Sys2Proof.Machine

/-- The link's own time at an instant given in ns after the last input latch. -/
def State.linkAt (s : State) (rel : Nat) : Nat := s.efl.linkNs + rel

/-- Whether the comms controllers have power and run (R25, R443, R670). -/
def State.commsUp (s : State) : Bool := commsRun s.sys.mode && !s.pwr.lost.testBit 4

/-- PORT_LINK_CHANGE (R416). -/
def execPortLinkChange (p rel : Nat) (up phyMaster : Bool) (s : State) : Host.Outcome State Fault Refusal :=
  act (fun s => doEfl (fun env w => portLink env p up phyMaster (s.linkAt rel) w) s) s

/-- CYCLE_FRAME (R395). -/
def execCycleFrame (rx : EfRx) (s : State) : Host.Outcome State Fault Refusal :=
  act (only State.commsUp (doEfl (fun env w => cycleFrame env rx w))) s

/-- POLL_FRAME (R404). -/
def execPollFrame (rx : EfRx) (s : State) : Host.Outcome State Fault Refusal :=
  act (only State.commsUp (doEfl (fun env w => pollFrame env rx w))) s

/-- RESPONSE_FRAME (R429). -/
def execResponseFrame (rx : EfRx) (s : State) : Host.Outcome State Fault Refusal :=
  act (only State.commsUp (doEfl (fun env w => responseFrame env rx w))) s

/-- MESSAGE_FRAME (R431). -/
def execMessageFrame (rx : EfRx) (s : State) : Host.Outcome State Fault Refusal :=
  act (only State.commsUp (doEfl (fun env w => messageFrame env rx w))) s

/-- DELAY_REQ (R392). -/
def execDelayReq (rx : EfRx) (s : State) : Host.Outcome State Fault Refusal :=
  act (only State.commsUp (doEfl (fun env w => delayReq env rx w))) s

/-- DELAY_RESP (R393). -/
def execDelayResp (rx : EfRx) (s : State) : Host.Outcome State Fault Refusal :=
  act (only State.commsUp (doEfl (fun env w => delayRespFrame env rx w))) s

/-- CLAIM (R419). -/
def execClaim (rx : EfRx) (s : State) : Host.Outcome State Fault Refusal :=
  act (only State.commsUp (doEfl (fun env w => claimFrameReceived env rx w))) s

/-- TOPO_REQ (R418). -/
def execTopoReq (rx : EfRx) (s : State) : Host.Outcome State Fault Refusal :=
  act (only State.commsUp (doEfl (fun env w => topoReqFrame env rx w))) s

/-- TOPO_RESP (R420). -/
def execTopoResp (rx : EfRx) (s : State) : Host.Outcome State Fault Refusal :=
  act (only State.commsUp (doEfl (fun env w => topoRespFrame env rx w))) s

/-- TOPO (R420). -/
def execTopo (rx : EfRx) (s : State) : Host.Outcome State Fault Refusal :=
  act (only State.commsUp (doEfl (fun env w => topoFrame env rx w))) s

/-- SEND_CYCLE_FRAME (R403). -/
def execSendCycleFrame (skew : Int) (s : State) : Host.Outcome State Fault Refusal :=
  act (only State.commsUp (doEfl (fun env w => sendCycle env skew w))) s

/-- SEND_POLL (R404). -/
def execSendPoll (slot : Nat) (skew : Int) (s : State) : Host.Outcome State Fault Refusal :=
  act (only State.commsUp (doEfl (fun env w => sendPoll env slot skew w))) s

/-- Whether transmit streams are sent: in RUN, and during telegram continuation (R428, R490). -/
def State.serves (s : State) : Bool :=
  s.sys.mode == .run || (match s.pair.contUntil with
    | some t => decide (s.tick < t)
    | none => false)

/-- SEND_RESPONSE (R404). -/
def execSendResponse (slot : Nat) (skew : Int) (s : State) : Host.Outcome State Fault Refusal :=
  act (only State.commsUp (fun s => doEfl (fun env w => sendResponse env s.serves slot skew w) s)) s

/-- SEND_MESSAGE (R405). -/
def execSendMessage (slot : Nat) (skew : Int) (s : State) : Host.Outcome State Fault Refusal :=
  act (only State.commsUp (doEfl (fun env w => sendMessage env slot skew w))) s

/-- HOP_DELAY_MEASUREMENT (R394). -/
def execHopDelayMeasurement (rel : Nat) (s : State) : Host.Outcome State Fault Refusal :=
  act (only State.commsUp (fun s => doEfl (fun _ w => measureHops (s.linkAt rel) w) s)) s

/-- MASTER_LOST (R409). -/
def execMasterLost (rel : Nat) (s : State) : Host.Outcome State Fault Refusal :=
  act (only State.commsUp (fun s => doEfl (fun env w => masterLost env (s.linkAt rel) w) s)) s

/-- INAUGURATION_START (R416). -/
def execInaugurationStart (rel : Nat) (s : State) : Host.Outcome State Fault Refusal :=
  act (only State.commsUp (fun s => doEfl (fun env w => startInaug env (s.linkAt rel) w) s)) s

/-- CLAIM_SEND (R418). -/
def execClaimSend (rel : Nat) (s : State) : Host.Outcome State Fault Refusal :=
  act (only State.commsUp (fun s => doEfl (fun env w => claimSend env (s.linkAt rel) w) s)) s

/-- BACKOFF_END (R419). -/
def execBackoffEnd (rel : Nat) (s : State) : Host.Outcome State Fault Refusal :=
  act (only State.commsUp (fun s => doEfl (fun env w => backoffEnd env (s.linkAt rel) w) s)) s

/-- CLAIM_WINDOW_END (R418). -/
def execClaimWindowEnd (rel : Nat) (s : State) : Host.Outcome State Fault Refusal :=
  act (only State.commsUp (fun s => doEfl (fun env w => claimWindowEnd env (s.linkAt rel) w) s)) s

/-- TOPO_RESP_SEND (R418). -/
def execTopoRespSend (resid : Nat) (s : State) : Host.Outcome State Fault Refusal :=
  act (only State.commsUp (doEfl (fun env w => topoRespSend env resid w))) s

/-- TOPO_PUBLISH (R420). -/
def execTopoPublish (resid rel : Nat) (s : State) : Host.Outcome State Fault Refusal :=
  act (only State.commsUp (fun s => doEfl (fun env w => topoPublish env resid (s.linkAt rel) w) s)) s

/-- LOCK_RETRY_EXPIRY (R435). -/
def execLockRetryExpiry (rel : Nat) (s : State) : Host.Outcome State Fault Refusal :=
  act (only State.commsUp (fun s => doEfl (fun _ w => lockExpiry (s.linkAt rel) w) s)) s

/-- OVERLOAD_CLEARED (R433). -/
def execOverloadCleared (s : State) : Host.Outcome State Fault Refusal :=
  act (doEfl (fun env w => overloadCleared env.tick w)) s

/-- CAN_FRAME_RECEIVED (R449). -/
def execCanFrameReceived (n rel tec rcv : Nat) (f : CanFrame) (s : State) : Host.Outcome State Fault Refusal :=
  act (only State.commsUp (doCan (fun env w => canReceived env n rel tec rcv f w))) s

/-- CAN_FRAME_TRANSMITTED (R456). -/
def execCanFrameTransmitted (n m tec rcv : Nat) (r : CanResult) (s : State) : Host.Outcome State Fault Refusal :=
  act (only State.commsUp (doCan (fun env w => canTransmitted env n m tec rcv r w))) s

/-- REFERENCE_MESSAGE (R461). -/
def execReferenceMessage (n rel idx k time : Nat) (s : State) : Host.Outcome State Fault Refusal :=
  act (only State.commsUp (doCan (fun env w => canReference env n rel idx k time w))) s

/-- SEND_REFERENCE_MESSAGE (R460). -/
def execSendReferenceMessage (n rel : Nat) (s : State) : Host.Outcome State Fault Refusal :=
  act (only State.commsUp (fun s =>
    if (nth {} n s.can.ctls).refLatch.isSome then doCan (fun env w => canSendReference env n rel 0 w) s
    else
      let (v, s) := fresh 48 s
      doCan (fun env w => canSendReference env n rel v w) s)) s

/-- TIME_MASTER_TAKEOVER (R463). -/
def execTimeMasterTakeover (n : Nat) (s : State) : Host.Outcome State Fault Refusal :=
  act (only State.commsUp (doCan (fun env w => canTakeover env n w))) s

/-- TIME_SYNC_LOST (R462). -/
def execTimeSyncLost (n : Nat) (s : State) : Host.Outcome State Fault Refusal :=
  act (only State.commsUp (doCan (fun env w => canSyncLost env n w))) s

/-- ERROR_PASSIVE_ENTRY (R470). -/
def execErrorPassiveEntry (n : Nat) (s : State) : Host.Outcome State Fault Refusal :=
  act (only State.commsUp (doCan (fun env w => canPassive env.tick n w))) s

/-- BUS_OFF (R470). -/
def execBusOff (n : Nat) (s : State) : Host.Outcome State Fault Refusal :=
  act (only State.commsUp (doCan (fun env w => canBusOff env n w))) s

/-- CAN_FAULT_RETRY_END (R470). -/
def execCanFaultRetryEnd (n : Nat) (s : State) : Host.Outcome State Fault Refusal :=
  act (only State.commsUp (doCan (fun env w => canRetryEnd env n w))) s

/-- BUS_OFF_RECOVERY (R470). -/
def execBusOffRecovery (n : Nat) (s : State) : Host.Outcome State Fault Refusal :=
  act (only State.commsUp (doCan (fun env w => canRecovered env.tick n w))) s

/-- PROTOCOL_ERROR (R440). -/
def execProtocolError (n code : Nat) (dph : Bool) (tec rcv : Nat) (s : State) : Host.Outcome State Fault Refusal :=
  act (only State.commsUp (doCan (fun _ w => canError n code dph tec rcv w))) s

/-- REMOTE_FRAME_RECEIVED (R440). -/
def execRemoteFrameReceived (n : Nat) (s : State) : Host.Outcome State Fault Refusal :=
  act (only State.commsUp (doCan (fun _ w => canRemote n w))) s

end Sys2Proof.Machine
end

