-- ==== Sys2Proof/Machine/SfuRows.lean ====
section
/-!
DEFINITION. Expiries of the machine-safety functions that are commands of their own (06_machine_safety_functions.md): a jammed reset
actuator and the timers of the instance types. Each acts on the block of the tick in work; the fast task then leaves that block.
-/
namespace Sys2Proof.Machine

/-- Safety rows act where the fast task runs, in RUN and in SAFE (R112). -/
def State.sfuRuns (s : State) : Bool := s.sys.mode == .run || s.sys.mode == .safe

/-- An expiry of the instances of some types. -/
def sfuExpiry (typs : List Nat) (i : Nat) (f : SfInst → SfState → Option SfState) (s : State) : State :=
  if s.sfuRuns then { s with sfuW := expireInst s.senv typs f i s.sfuW } else s

/-- RESET_JAMMED (R311): a press of 12,000 ticks or more makes its channel jammed until it reads 0; a record of kind 5. -/
def resetJammed (j : Nat) (s : State) : State :=
  match s.sfuW.checkers[j]? with
  | none => s
  | some k =>
    if s.sfuRuns && k.pressing && k.filt.st && !k.jammed && decide (12000 ≤ s.tick - k.r) then
      let sf := { s.sfuW with checkers := setNth j { k with jammed := true, jams := add32 k.jams 1 } s.sfuW.checkers }
      { s with sfuW := addDiag (diagRecord s.tick (0x80 + j) 5 0 0) sf }
    else s

/-- RESET_JAMMED. -/
def execResetJammed (k : Nat) (s : State) : Host.Outcome State Fault Refusal := act (resetJammed k) s

/-- DISCREPANCY_EXPIRY (R307, R308): fault 1 of a demand window, 2 of a return window. -/
def discrepancyExpiry (i : Nat) (s : State) : State :=
  sfuExpiry [1, 2, 3, 5] i
    (fun c x => if x.state != sfFAULT && tmDue x.d c.disc then some (enterFault c s.tick (if x.kind = .demand then 1 else 2) x) else none) s

/-- DISCREPANCY_EXPIRY. -/
def execDiscrepancyExpiry (i : Nat) (s : State) : Host.Outcome State Fault Refusal := act (discrepancyExpiry i) s

/-- TWO_HAND_CONTACT_EXPIRY (R324): fault 8. -/
def twoHandContactExpiry (i : Nat) (s : State) : State :=
  sfuExpiry [4] i
    (fun c x => if x.state != sfFAULT && (tmDue x.d c.disc || tmDue x.f1 c.disc) then
        some { enterFault c s.tick 8 x with aux := 0 } else none) s

/-- TWO_HAND_CONTACT_EXPIRY. -/
def execTwoHandContactExpiry (i : Nat) (s : State) : Host.Outcome State Fault Refusal := act (twoHandContactExpiry i) s

/-- SYNCHRONISATION_WINDOW_EXPIRY (R325): 2,000 ticks; WAIT_RELEASE. -/
def synchronisationWindowExpiry (i : Nat) (s : State) : State :=
  sfuExpiry [4] i
    (fun c x => if x.state = sfARMED && tmDue x.p 2000 then
        some { enterState c s.tick sfWAIT x with p := tmStop, aux := 0 } else none) s

/-- SYNCHRONISATION_WINDOW_EXPIRY. -/
def execSynchronisationWindowExpiry (i : Nat) (s : State) : Host.Outcome State Fault Refusal :=
  act (synchronisationWindowExpiry i) s

/-- PAIR_WINDOW_EXPIRY (R321): fault 9 where the second sensor of pair A has not come. -/
def pairWindowExpiry (i : Nat) (s : State) : State :=
  sfuExpiry [6] i
    (fun c x => if x.state = sfARMED && tmDue x.d c.p1 && !(x.c1.st && x.c2.st) then some (enterFault c s.tick 9 x) else none) s

/-- PAIR_WINDOW_EXPIRY. -/
def execPairWindowExpiry (i : Nat) (s : State) : Host.Outcome State Fault Refusal := act (pairWindowExpiry i) s

/-- MUTING_LIMIT_EXPIRY (R321): fault 10; the curtain is no longer muted. -/
def mutingLimitExpiry (i : Nat) (s : State) : State :=
  let s' := sfuExpiry [6] i
    (fun c x => if x.state = sfMUTED && tmDue x.p c.p2 then some (enterFault c s.tick 10 x) else none) s
  match s'.sfuW.insts.lookup i with
  | some c =>
    if c.typ = 6 && (sfOf s.sfuW i).state = sfMUTED && (sfOf s'.sfuW i).state = sfFAULT then
      { s' with sfuW := setMuted c.link false s'.sfuW }
    else s'
  | none => s'

/-- MUTING_LIMIT_EXPIRY. -/
def execMutingLimitExpiry (i : Nat) (s : State) : Host.Outcome State Fault Refusal := act (mutingLimitExpiry i) s

/-- CLEAR_TIME_EXPIRY (R326): AUX bit 0, and the timer stops; the rows after it in the table still follow in the tick. -/
def clearTimeExpiry (i : Nat) (s : State) : State :=
  match s.sfuW.insts.lookup i with
  | some c =>
    let x := sfOf s.sfuW i
    if s.sfuRuns && !x.done && c.typ == 5 && x.state == sfOBSTRUCTED && tmDue x.p c.p1 then
      { s with sfuW := sfPut i { x with p := tmStop, aux := setBit 0 true x.aux } s.sfuW }
    else s
  | none => s

/-- CLEAR_TIME_EXPIRY. -/
def execClearTimeExpiry (i : Nat) (s : State) : Host.Outcome State Fault Refusal := act (clearTimeExpiry i) s

/-- A safe stop output goes off: TRIPPED, REQ cleared, switch-off windows open (R328, R331). -/
def stopOff (c : SfInst) (tick : Nat) (x : SfState) : SfState :=
  settleWindows true (startWindows c { enterState c tick sfTRIPPED x with req := false, p := tmStop })

/-- STOP_DELAY_EXPIRY (R328). -/
def stopDelayExpiry (i : Nat) (s : State) : State :=
  sfuExpiry [7] i (fun c x => if x.state = sfSTOPPING && tmDue x.p c.p1 then some (stopOff c s.tick x) else none) s

/-- STOP_DELAY_EXPIRY. -/
def execStopDelayExpiry (i : Nat) (s : State) : Host.Outcome State Fault Refusal := act (stopDelayExpiry i) s

/-- A feedback window that has run out without its level (R330, R331). -/
def windowMissed (c : SfInst) (x : SfState) : Bool :=
  monitored c && ((named c.fb1 && tmDue x.f1 c.p3 && !x.seen1) || (named c.fb2 && tmDue x.f2 c.p3 && !x.seen2))

/-- FAULT of a safe stop output: the cause is judged at once (R328). -/
def stopFault (env : SfEnv) (c : SfInst) (code : Nat) (x : SfState) : SfState :=
  { enterFault c env.tick code x with goneSince := if causeGone env c x then some env.tick else none }

/-- SWITCH_ON_WINDOW_EXPIRY (R330): fault 6. -/
def switchOnWindowExpiry (i : Nat) (s : State) : State :=
  sfuExpiry [7] i
    (fun c x => if (x.state = sfACTIVE || x.state = sfSTOPPING) && windowMissed c x then some (stopFault s.senv c 6 x) else none) s

/-- SWITCH_ON_WINDOW_EXPIRY. -/
def execSwitchOnWindowExpiry (i : Nat) (s : State) : Host.Outcome State Fault Refusal := act (switchOnWindowExpiry i) s

/-- SWITCH_OFF_WINDOW_EXPIRY (R331): fault 7. -/
def switchOffWindowExpiry (i : Nat) (s : State) : State :=
  sfuExpiry [7] i (fun c x => if x.state = sfTRIPPED && windowMissed c x then some (stopFault s.senv c 7 x) else none) s

/-- SWITCH_OFF_WINDOW_EXPIRY. -/
def execSwitchOffWindowExpiry (i : Nat) (s : State) : Host.Outcome State Fault Refusal := act (switchOffWindowExpiry i) s

end Sys2Proof.Machine
end

