-- ==== Sys2Proof/Machine/Time.lean ====
section
/-!
DEFINITION. The tick's time base (02 R70 to R74) and the station time-reference input (14 R655, R656).
-/
namespace Sys2Proof.Machine

/-! ### Steering of the tick (R72, R73) -/

/-- Offset of the own grid to the reference in use, in ns: positive when the own tick starts late. Efavo gives it at every tick from link
time, the station input at its edges. -/
def State.refOffset (s : State) : Int := match s.frame.ref with
  | .own => 0
  | .efavo =>
    let p : Int := (s.efl.linkNs % 250000 : Nat)
    if 125000 ≤ p then p - 250000 else p
  | .station => s.frame.offsetNs

/-- Length in ns of the tick that starts, and the offset that it leaves: slewed by at most 25 ns in RUN and SAFE, and outside them in one
step by lengthening the tick (R73). -/
def steer (m : Mode) (o : Int) : Nat × Int :=
  if m = .run ∨ m = .safe ∨ (-25 ≤ o ∧ o ≤ 25) then
    let c : Int := if o < -25 then -25 else if 25 < o then 25 else o
    ((250000 - c).toNat, o - c)
  else ((if o < 0 then 250000 - o else 500000 - o).toNat, 0)

/-- The tick that starts is steered towards the reference in use. -/
def steerTick (s : State) : State :=
  let o := s.refOffset
  let (len, left) := steer s.sys.mode o
  { s with frame := { s.frame with tickLenNs := len, offsetNs := if s.frame.ref = .station then left else o } }

/-! ### Station time-reference input (R655, R656) -/

/-- A change of the station input; the reference order of R71 moves on with it. -/
def modStation (f : Station → Station) (s : State) : State :=
  trackRef { s with pwr := { s.pwr with station := f s.pwr.station } }

/-- A telegram that is missing or fails its checks; the third in a row ends validity. -/
def stationMiss (x : Station) : Station :=
  let x := { x with missing := x.missing + 1, run := 0 }
  if 3 ≤ x.missing then { x with valid := false } else x

/-- A rising edge of PPS (R656): the last edge without a telegram is one missing, and an edge off by more than 100 µs ends validity. -/
def ppsEdge (tick gap : Nat) (x : Station) : Station :=
  let x := if x.anyEdge && !x.named then stationMiss x else x
  let good := x.anyEdge && decide (999900000 ≤ gap ∧ gap ≤ 1000100000)
  let x := { x with edgeOk := good, named := false, anyEdge := true, edgeTick := tick }
  if good then x else { x with valid := false, run := 0 }

/-- PPS_EDGE (R656). `gap` is the time in ns since the edge before, `phase` how late the own tick nearest to the edge starts (R72). -/
def execPpsEdge (gap : Nat) (phase : Int) (s : State) : Host.Outcome State Fault Refusal :=
  act (fun s =>
    let s := modStation (ppsEdge s.tick gap) s
    if s.frame.ref = .station then { s with frame := { s.frame with offsetNs := phase } } else s) s

/-- Checks of a telegram (R655): its start, SYNC, VERSION, reserved flags, CRC. -/
def todSound (start : Nat) (bs : List Byte) : Bool :=
  decide (100000000 ≤ start ∧ start < 800000000) && bs.length == 16 && beAt 0 2 bs == 0xAA55 && beAt 2 1 bs == 1 && decide (beAt 3 1 bs < 4) &&
    crcOf .crc16 (bs.take 14) == beAt 14 2 bs

/-- A telegram received (R656). It names the edge before it when its checks hold, its source is locked and SECONDS follows the telegram
before; the fourth good edge in a row makes the input valid. -/
def todTelegram (start : Nat) (bs : List Byte) (x : Station) : Station :=
  if !x.anyEdge || x.named then x
  else
    let x := { x with named := true }
    if !todSound start bs then stationMiss x
    else
      let secs := beAt 4 8 bs
      let follows := (beAt 3 1 bs).testBit 0 && x.seconds == some (secs - 1) && decide (0 < secs)
      let x := { x with seconds := some secs }
      if !follows then stationMiss x
      else
        let n := if x.edgeOk then min 4 (x.run + 1) else 0
        { x with missing := 0, run := n, valid := x.valid || n == 4, tai := secs, utcOff := beAt 12 2 bs }

/-- TOD_TELEGRAM (R655). `start` is the time in ns from the edge to its first bit. -/
def execTodTelegram (start : Nat) (bs : List Byte) (s : State) : Host.Outcome State Fault Refusal :=
  act (modStation (todTelegram start bs)) s

/-- STATION_INPUT_TIMEOUT (R656): no edge for 1.5 s. -/
def execStationInputTimeout (s : State) : Host.Outcome State Fault Refusal :=
  act (only (fun s => s.pwr.station.anyEdge && decide (s.pwr.station.edgeTick + 6000 ≤ s.tick))
    (modStation (fun x => { x with valid := false, run := 0, edgeOk := false }))) s

end Sys2Proof.Machine
end

