-- ==== Sys2Proof/Machine/TickRows.lean ====
section
/-!
DEFINITION. Phases 1 and 2 of the tick (02_frame_and_vital_cycle.md, R70 to R84): the input latch, the fast task with its watchdog, and the
return of the vital task.
-/
namespace Sys2Proof.Machine

/-! ### Forces (R631) -/

/-- Words that hold forced symbols at their values. -/
def State.forcedWords (s : State) : List (Nat × Nat) :=
  s.upd.forces.filterMap (fun f => match f with
    | .symbol id v => (s.app.symbol id).map (fun y => (y.addr, pairWord v))
    | .output _ => none)

/-- Forced symbols written in the lanes that run tasks. -/
def forceMemory (s : State) : State :=
  let ws := s.forcedWords
  { s with lanes := s.lanes.mapWith (fun id l => if s.laneWorks id then { l with mem := storeWrites ws l.mem } else l) }

/-! ### Modes at the input latch -/

/-- What stands against a mode other than SAFE (R25, R48 to R50), with the number of its event. -/
def State.lostCause (s : State) : Option Nat :=
  if s.capacity < 2 then some 60
  else if s.voter.lost then some (if s.pwr.lost.testBit 3 then 7 else if s.lanes.count (fun l => l.gateFault) != 0 then 57 else 56)
  else if s.fio.lost then some 11
  else none

/-- Lanes that a fault has marked since the start test of this BOOT (R129). -/
def bootLanes (s : State) : State :=
  laneIds.foldl (fun s l => if (s.lane l).bootFail && (s.lane l).colour != .slate then laneDown l true s else s) s

/-- The former holder leaves RUN at the boundary after its release (R512); a SAFE trigger goes first (R53). -/
def leaveHolder (s : State) : State := match s.sys.safePend with
  | some c => goSafe [] c s
  | none =>
    let s := enterMode [] .standby (closeGates s)
    { s with sys := { s.sys with toStandby := false }, pair := { s.pair with handOver := false } }

/-- Mode transitions that an input latch takes, but for the entry to RUN (R48 to R53). -/
def latchModes (s : State) : State :=
  match s.sys.mode with
  | .boot =>
    if s.fw.lock then
      let s := bootLanes s
      match s.lostCause with
      | some c => goSafe [] c s
      | none => s
    else s
  | .configure | .standby =>
    match s.sys.safePend.orElse (fun _ => s.lostCause) with
    | some c => goSafe [] c s
    | none =>
      if s.sys.toConfigure then enterMode [] .configure { s with sys := { s.sys with toConfigure := false } } else s
  | .run => if s.sys.toStandby && !s.frame.cycleOpen then leaveHolder s else s
  | .recovery | .safe => s

/-- RUN begins at this input latch: the line is held, loading is done, and the tick is a vital-cycle boundary (R122, R510). -/
def State.entersRun (s : State) : Bool :=
  s.pair.starting && s.pair.hold && ((s.sys.mode == .boot && s.fw.lock) || s.sys.mode == .standby) && s.tick % s.frame.k == 0

/-- RUN entered, with the blanking of R377. -/
def enterRun (s : State) : State :=
  let s := enterMode [] .run s
  { s with fio := { s.fio with blank := true, blankUntil := s.tick + 4 * s.par 0x6010 3 } }

/-! ### The input image (R23, R76, R593) -/

/-- Receive streams with a telegram accepted since the last input latch. -/
def newPayloads (old new : List RxStream) : List RxStream :=
  new.filter (fun x => match old.find? (fun y => y.stream == x.stream) with
    | some y => y.countOk != x.countOk
    | none => x.countOk != 0)

/-- Check units bound to receive streams check each new payload (R593). -/
def checkStreams (s : State) : State :=
  let xs := (newPayloads s.frozen.efl.rx s.efl.rx).map (fun x => (0, x)) ++ (newPayloads s.frozen.can.rx s.can.rx).map (fun x => (1, x))
  xs.foldl (fun s p => { s with lanes := s.lanes.mapWith (fun _ l => (checkReceive p.1 p.2.stream p.2.payload l).1) }) s

/-- The payload of a stream has failed its check unit in two lanes. -/
def State.streamBad (s : State) (net stream : Nat) : Bool :=
  decide (2 ≤ s.lanes.count (fun l => l.chk.any (fun u => u.src == 1 && u.net == net && u.stream == stream && u.valid && u.bad)))

/-- The input image of the tick. -/
def State.inputImage (s : State) : InputImage :=
  let c := fieldImage s.fio
  let one (can : Bool) (x : RxStream) : StreamImage :=
    { can, num := x.stream, valid := x.fresh && !s.streamBad (boolNat can) x.stream, payload := x.payload }
  { chans := c.1, valid := c.2, streams := s.efl.rx.map (one false) ++ s.can.rx.map (one true) }

/-! ### The vital cycle opens (R81, R82, R88) -/

/-- Last tick of a cycle: the tick before the first multiple of k after its first tick (R83, R88). -/
def lastTickOf (k first : Nat) : Nat := (first / k + 1) * k - 1

/-- A vital cycle opens in this tick; `first` when lanes have just begun to execute logic, which set its number. -/
def openCycle (first : Bool) (s : State) : State :=
  let f := s.frame
  let dt := if first then 0 else s.tick - f.firstTick
  { s with
    frame := { f with
      cycle := if first then f.cycle else f.cycle + 1, firstTick := f.tick, lastTick := lastTickOf f.k f.tick, cycleOpen := true,
      vitalDue := true, passDue := false, overrun := 0 },
    vin := s.img, vitW := ageVital dt s.vit,
    lanes := s.lanes.mapWith (fun _ l =>
      { l with accV := {}, accE := {}, vitalRun := false, vitalDone := false, vitalSig := none, vitalWrites := [] }),
    upd := { s.upd with change := { s.upd.change with
      due := s.upd.change.state == .waiting && s.upd.change.logged && s.boundaryClear } } }

/-- Logic begins, or goes on, in this tick. -/
def latchLogic (entering warm : Bool) (trigger : Nat) (s : State) : State :=
  let s := if entering then startRun warm trigger s else s
  let ages := (s.sys.mode == .run && !entering) || s.sys.mode == .safe
  let s := if ages then { s with sfuW := ageSfu 1 s.sfu } else s
  if s.sys.mode == .run && (entering || !s.frame.cycleOpen) then openCycle entering s else s

/-! ### What is frozen for the tick (R43, R111, R113) -/

/-- FLAGS of the context block. -/
def State.flagsNow (s : State) : Nat :=
  s.frame.ctxPend % 4 + bitIf 2 (decide (0 < s.frame.overrun)) + bitIf 4 s.voter.dual + bitIf 5 s.frame.holdover

/-- Events, blocks and the context block frozen for the tick. -/
def freezeTick (s : State) : State :=
  let s := { s with
    evt := { s.evt with frozen := s.evt.working, working := 0 },
    frame := { s.frame with
      ctx := { tick := s.tick, cycle := s.frame.cycle, flags := s.flagsNow, mode := s.sys.mode.code }, ctxPend := 0 } }
  { s with frozen := s.blocksNow, pair := { s.pair with pullIn := false } }

/-! ### INPUT_LATCH -/

/-- The tick counter and the clocks advance (R70 to R74): link time and network times by the length of the tick that ends; the receive
streams are judged by them (R430, R469). -/
def advanceTick (s : State) : State :=
  let len := s.frame.tickLenNs
  let hour := (s.frame.tick + 1) % 14400000 == 0
  let s := { s with
    frame := { s.frame with tick := s.frame.tick + 1, fastOk := false, vitalOk := false, committed := false },
    evt := { s.evt with thisTick := 0 },
    upd := { s.upd with change := { s.upd.change with stopping := false } },
    pwr := { s.pwr with hours := if hour then add32 s.pwr.hours 1 else s.pwr.hours },
    lanes := s.lanes.mapWith (fun _ l =>
      { l with accF := {}, fastRun := false, fastDone := false, fastSig := none, enaOff := false, fastWrites := [] }) }
  steerTick (doCan (fun _ w => canLatch len w) (doEfl (fun _ w => eflLatch len w) s))

/-- Field inputs sampled and judged, and the input image written (R348 to R351, R359 to R361). -/
def latchImage (fs : FieldSamples) (s : State) : State :=
  let s := checkStreams (doField (fun env w => fieldLatch env s.sfu.insts fs w) s)
  { s with img := s.inputImage }

/-- DMA ends and check mismatches on which two Green lanes agree (R583, R593). -/
def latchAgreement (s : State) : State :=
  let x := dmaAgreement s.lanes
  raiseAll x.2 { s with lanes := x.1 }

/-- The standby's output comparison (R504, R505). -/
def latchComparison (fs : FieldSamples) (s : State) : State :=
  doPair (outputComparison s.comparing (s.par 0x8012 1) s.fenv.settle s.tick fs.rbk) s

/-- Records that go out at the start of a tick (R495). -/
def latchRecords (s : State) : State :=
  let s := if s.pair.hold then s else sendStatus s
  if s.tick % 4000 = 0 then sendIdent s else s

/-- The input latch of a tick (R43, R75, R76, R520). -/
def inputLatch (fs : FieldSamples) (s : State) : State :=
  let s := latchModes (applyStaged (advanceTick s))
  let entering := s.entersRun
  let warm := s.sys.mode == .standby || s.sys.bootKind == .warm
  let trigger := if s.sys.mode == .standby then s.pair.takeTick else s.sys.restartTick
  let s := if entering then enterRun s else s
  let s := latchComparison fs (latchAgreement (latchImage fs s))
  let s := forceMemory (latchLogic entering warm trigger s)
  freezeTick (latchRecords (trackSync s))

/-- INPUT_LATCH (R75). -/
def execInputLatch (fs : FieldSamples) (s : State) : Host.Outcome State Fault Refusal := act (inputLatch fs) s

/-! ### The fast task (R78 to R80, R112, R162, R584) -/

/-- The fast cores run: the fast task in RUN and SAFE, the runtime's lane check in CONFIGURE and STANDBY. -/
def State.fastRuns (s : State) : Bool := match s.sys.mode with
  | .run | .safe | .configure | .standby => true
  | .boot | .recovery => false

/-- Writes that enter a signature: those into a window carrying P (R132, R136). -/
def signedWrites (ws : List Window) (xs : List (Nat × Nat)) : List (Nat × Nat) := xs.filter (fun x => ws.any (fun w => w.p && w.holds x.1))

/-- Lane address of the DMA end table (R584). -/
def endTable : Nat := 0x00FFE000
/-- Lane address of the check end table (R595). -/
def chkTable : Nat := 0x00FFE100

/-- Entries of the end tables that a lane's runtime writes in a tick, from its own channels and units (R584, R595). -/
def endWrites (events : BitVec 256) (l : Lane) : List (Nat × Nat) :=
  let two (a : Nat) (e : Nat × Nat) : List (Nat × Nat) := [(a, pairWord e.1), (a + 8, pairWord e.2)]
  let ended (c : Nat) : Bool := events.getLsbD (192 + c)
  let chans := ((rangeFrom 0 16).filter ended).flatMap (fun c => two (endTable + 16 * c) (endEntry (nth {} c l.dma)))
  let served (u : Nat) : Bool := match (nth {} u l.chk).lastChan with
    | some c => ended c
    | none => false
  let units := ((rangeFrom 0 8).filter (fun u => events.getLsbD (208 + u) || served u)).flatMap (fun u =>
    two (chkTable + 16 * u) (chkEntry (nth {} u l.chk)))
  chans ++ units

/-- Words of state blocks that the SFU changes. -/
def blockWrites (blocks : List (Nat × Nat)) (old new : Sfu) : List (Nat × Nat) :=
  blocks.flatMap (fun b => changedWords (fun i => b.2 + 8 * i) 0 (sfWords (sfOf old b.1)) (sfWords (sfOf new b.1)))

/-- The safety functions and the application code of a tick (R286, R287, R326, R328), with the commands of the channels that the fast task
owns. -/
def fastLogic (t : TaskIn) (s : State) : State :=
  let front := sfuFront s.senv s.sfuW
  let s := { s with outs := { s.outs with demands := putAll t.demands s.outs.demands } }
  let sf := passOutputs s.senv front
  let m := s.app.iomap
  let mask := ownedOuts 1 m t.outs ((sfuCommands sf).foldl (fun n x => setBit x.1 x.2 n) s.outs.fast)
  { s with sfuW := sf, outs := { s.outs with fast := mask, pay := ownedPays 1 m t.payloads s.outs.pay } }

/-- The fast task starts in every lane that runs tasks (R78); in CONFIGURE and STANDBY it is the lane check (R162). -/
def fastStart (t : TaskIn) (s : State) : State :=
  let logic := s.sys.mode == .run || s.sys.mode == .safe
  let old := s.sfu
  let s := if logic then fastLogic t s else s
  let ws := if logic then allowedWrites s.app.fire.fast t.writes else []
  let bs := if logic then blockWrites s.blocks old s.sfuW else []
  let start (id : LaneId) (l : Lane) : Lane :=
    if s.laneWorks id then
      let es := if logic then endWrites s.evt.frozen l else []
      { l with
        fastRun := true, fastDone := false, fastWrites := es ++ ws,
        accF := (l.accF.feedAll 0x20 (es ++ bs)).feedAll 0x20 (signedWrites s.app.fire.fast ws) }
    else l
  { s with lanes := s.lanes.mapWith start }

/-- FAST_TASK_START (R78, R112, R162). -/
def execFastTaskStart (t : TaskIn) (s : State) : Host.Outcome State Fault Refusal := act (only State.fastRuns (fastStart t)) s

/-- Transmit streams in which a task owns a field. -/
def ownedStreams (owner : Nat) (m : Iomap) : List (Nat × Nat) :=
  ((m.fields.filter (fun f => f.own.inUse && f.own.owner == owner)).map (fun f => (boolNat f.can, f.stream))).eraseDups

/-- Check units bound to transmit streams compute when the owning task returns (R594): the lane, and the payloads with their check values. -/
def checkPayloads (streams : List (Nat × Nat)) (l : Lane) (pay : List (Nat × Nat × List Byte)) : Lane × List (Nat × Nat × List Byte) :=
  streams.foldl (fun p x =>
    let (l, bs) := checkTransmit x.1 x.2 (getPay x.1 x.2 p.2) p.1
    (l, if bs = getPay x.1 x.2 p.2 then p.2 else putPay x.1 x.2 bs p.2)) (l, pay)

/-- A lane's fast task returns (R78). `dev` lists writes in which the lane differs from the others. -/
def fastReturn (l : LaneId) (ns : Nat) (dev : List (Nat × Nat)) (s : State) : State :=
  let logic := s.sys.mode == .run || s.sys.mode == .safe
  let ds := if logic then allowedWrites s.app.fire.fast dev else dev
  let signed := if logic then signedWrites s.app.fire.fast ds else ds
  let (x, pay) := checkPayloads (if logic then ownedStreams 1 s.app.iomap else []) (s.lane l) s.outs.pay
  let x := { x with
    fastRun := false, fastDone := true, fastWrites := (if logic then x.fastWrites ++ ds ++ s.forcedWords else []), accF := x.accF.feedAll 0x20 signed }
  { modLane l (fun _ => x) s with
    outs := { s.outs with pay := pay }, frame := { s.frame with longestFastNs := max s.frame.longestFastNs ns } }

/-- FAST_TASK_RETURN (R78, R594, R631). -/
def execFastTaskReturn (l : LaneId) (ns : Nat) (dev : List (Nat × Nat)) (s : State) : Host.Outcome State Fault Refusal :=
  act (only (fun s => s.fastRuns && (s.lane l).fastRun) (fastReturn l ns dev)) s

/-- A lane's fast task has not returned at T+0 + 150 µs (R79): it stops, its enables are off for the tick, and the miss is a counted lane
fault. -/
def fastMissed (l : LaneId) (s : State) : State :=
  let s := modLane l (fun x => { x with fastRun := false, fastDone := false, fastWrites := [], enaOff := true }) s
  laneFault l (raise 48 s)

/-- FAST_TASK_WATCHDOG (R79, R80). -/
def execFastTaskWatchdog (l : LaneId) (s : State) : Host.Outcome State Fault Refusal :=
  act (only (fun s => s.fastRuns && (s.lane l).fastRun) (fastMissed l)) s

/-! ### The vital task returns (R83, R139) -/

/-- Transmit streams that vital results fill: those with fields of the vital task, with command bits of elements, and with responses. -/
def vitalStreams (m : Iomap) : List (Nat × Nat) :=
  (ownedStreams 2 m ++ (m.binds.filter (fun b => !b.receive)).map (fun b => (boolNat b.can, b.stream)) ++
    m.responses.map (fun r => (boolNat r.2.can, r.2.stream))).eraseDups

/-- A lane's vital task returns: its window closes, and the signature waits for the vote. -/
def vitalReturn (l : LaneId) (ns : Nat) (dev : List (Nat × Nat)) (s : State) : State :=
  let ds := allowedWrites s.app.fire.vital dev
  let (x, payW) := checkPayloads (ownedStreams 2 s.app.iomap) (s.lane l) s.outs.payW
  let accV := x.accV.feedAll 0x20 (signedWrites s.app.fire.vital (x.vitalWrites ++ ds))
  let x := { x with
    vitalRun := false, vitalDone := true, vitalWrites := x.vitalWrites ++ ds ++ s.forcedWords, accV := accV,
    vitalSig := some (closeWindow 0x11 s.frame.cycle accV x.accE) }
  { modLane l (fun _ => x) s with
    outs := { s.outs with payW := payW }, frame := { s.frame with longestVitalNs := max s.frame.longestVitalNs ns } }

/-- VITAL_TASK_RETURN (R83, R139, R594): after the pass of the cycle (R233). -/
def execVitalTaskReturn (l : LaneId) (ns : Nat) (dev : List (Nat × Nat)) (s : State) : Host.Outcome State Fault Refusal :=
  act (only (fun s => s.sys.mode == .run && (s.lane l).vitalRun && !s.frame.passDue) (vitalReturn l ns dev)) s

end Sys2Proof.Machine
end

