-- ==== Sys2Proof/Machine/VoteRows.lean ====
section
/-!
DEFINITION. Phases 3 and 4 of the tick (02_frame_and_vital_cycle.md, 03_triple_lane_voting.md): the vote, the enable path, and the output
commit with what follows it.
-/
namespace Sys2Proof.Machine

/-! ### The output image of the coming commit (R84, R135, R146, R354) -/

/-- Command of a channel in the coming commit; `vital` when the commit takes the vital results. -/
def State.commandOn (s : State) (vital : Bool) (c : Nat) : Bool :=
  s.outs.fast.testBit c || (if vital then s.outs.vitalW else s.outs.vital).testBit c

/-- The 24 channel commands as paired words. -/
def State.comingWords (s : State) (vital : Bool) : List Nat :=
  (rangeFrom 0 24).map (fun c => pairWord (if s.commandOn vital c then cmdOn else cmdOff))

/-- Payloads of the transmit streams in the coming commit. -/
def State.comingPay (s : State) (vital : Bool) : List (Nat × Nat × List Byte) :=
  if vital then
    (vitalStreams s.app.iomap).foldl (fun l x => putPay x.1 x.2 (getPay x.1 x.2 s.outs.payW) l) s.outs.pay
  else s.outs.pay

/-- An output that a force holds off (R631). -/
def State.forcedOutput (s : State) (c : Nat) : Bool :=
  s.upd.forces.any (fun f => match f with
    | .output n => n == c
    | .symbol _ _ => false)

/-- The enable lines that a lane presents for the coming commit (R354): high-side enables, and a return enable for each group with one. -/
def State.enableVector (s : State) (vital : Bool) (l : LaneId) : Nat :=
  if s.sys.mode == .run && s.laneWorks l && !(s.lane l).enaOff then
    let on (c : Nat) : Bool := s.commandOn vital c && s.fio.record.outOk.testBit c && !s.forcedOutput c
    bitsOf on (rangeFrom 0 24) + 2 ^ 24 * bitsOf (fun g => (outsOf g).any on) (rangeFrom 0 6)
  else 0

/-- Transmit fields that the tasks own, by rising lane address, as 64-bit words (R134, R135). -/
def State.txFields (s : State) (vital : Bool) : List (Nat × Nat) :=
  let pay := s.comingPay vital
  let all := (s.app.iomap.fields.filter (fun f => f.own.inUse)).foldl
    (fun l f => spSet none f.addr (some (beAt f.offset 8 (getPay (boolNat f.can) f.stream pay))) l) []
  all.filterMap (fun p => p.2.map (fun d => (p.1, d)))

/-- The vector fixed and the fast window closed in a lane whose fast task has returned (R138). -/
def closeFast (vital : Bool) (words : List Nat) (fields : List (Nat × Nat)) (s : State) (id : LaneId) (l : Lane) : Lane :=
  let v := s.enableVector vital id
  let rets := (rangeFrom 0 6).map (fun g => pairWord (if v.testBit (24 + g) then cmdOn else cmdOff))
  let sig := if l.fastDone then some (closeWindow 0x01 s.tick l.accF (outputAcc words rets fields v)) else none
  { l with vector := v, fastSig := sig, shownFast := sig, accF := {} }

/-- The fast windows of every lane closed. -/
def closeFastAll (vital : Bool) (s : State) : State :=
  let words := s.comingWords vital
  let fields := s.txFields vital
  { s with lanes := s.lanes.mapWith (closeFast vital words fields s), voter := { s.voter with fastWindow := s.tick } }

/-! ### The vital vote (R83, R85 to R90, R140 to R143) -/

/-- What phase 3 finds of the vital window. -/
inductive VitalCase where
  | notDue
  | overrun
  | vote
  deriving DecidableEq, Repr

/-- The vital window at phase 3 of a tick. -/
def State.vitalCase (s : State) : VitalCase :=
  if !(s.sys.mode == .run && s.frame.cycleOpen && decide (s.frame.lastTick ≤ s.tick)) || decide (s.capacity < 2) then .notDue
  else
    let gs := s.greens
    let back := gs.filter (fun l => (s.lane l).vitalDone)
    if back.length < 2 then .overrun
    else if back.length = gs.length then .vote
    else if ((back.map (fun l => (s.lane l).vitalSig)).eraseDups).length < 2 then .vote
    else .overrun

/-- An overrun begins or goes on (R86, R91, R143); beyond the tolerance it leads to SAFE (R89). -/
def overrunTick (s : State) : State :=
  let s := if s.frame.overrun = 0 then raise 46 s else s
  let s := { s with frame := { s.frame with overrun := s.frame.overrun + 1 } }
  if s.frame.lastTick + s.par 0x2031 1 ≤ s.tick then safeTrigger 47 (raise 47 s) else s

/-- The span of R90 in ticks. -/
def overrunSpan : Nat := 14400000

/-- An overrun of `j` ticks that ends within the tolerance is counted (R90): whether the count has reached L + 1 within the span. -/
def countOverrun (j : Nat) (s : State) : State × Bool :=
  if j = 0 then (s, false)
  else
    let (l, limit) := countOccurrence (s.par 0x2031 2 + 1) overrunSpan s.tick s.frame.overruns
    ({ s with frame := { s.frame with overruns := l, longestOverrun := max s.frame.longestOverrun j } }, limit)

/-- Signatures of the Green lanes. -/
def State.sigsOf (s : State) (f : Lane → Option Nat) : List (LaneId × Option Nat) := s.greens.map (fun l => (l, f (s.lane l)))

/-- A compare has a majority. -/
def Compare.good (c : Compare) : Bool := c.code == 1 || c.code == 2 || c.code == 3

/-- The vital compare is taken. `vitalOk` tells whether the coming commit takes the vital results. -/
def vitalVote (s : State) : State :=
  let late := s.greens.filter (fun l => !(s.lane l).vitalDone)
  let c := compareSigs (s.sigsOf (·.vitalSig))
  let s := { s with
    voter := { s.voter with vres := c.code, vdis := laneBits c.bad, vitalWindow := s.frame.cycle },
    lanes := s.lanes.mapWith (fun _ l => { l with shownVital := l.vitalSig }) }
  let s := afterCompare 42 44 c (raiseAll (late.map (fun _ => 49)) s)
  let s := match s.voter.radmLane with
    | some l => if s.voter.radmStep = .trial then compareTrial l (s.lane l).vitalSig c s else s
    | none => s
  let (s, limit) := countOverrun (s.tick - s.frame.lastTick) s
  let s := if limit then safeTrigger 47 (raise 47 s) else s
  { s with frame := { s.frame with overrun := 0, vitalOk := c.good && !limit } }

/-- The vital window at phase 3. -/
def vitalPhase (s : State) : State := match s.vitalCase with
  | .notDue => s
  | .overrun => overrunTick s
  | .vote => vitalVote s

/-! ### The fast vote (R140 to R145, R162) -/

/-- A lane-check signature of a lane in the matching ticks of R162: the 40th that matches turns it Green. -/
def laneCheckMatch (l : LaneId) (c : Compare) (s : State) : State :=
  if s.voter.radmStep = .matching && c.sig.isSome && (s.lane l).fastSig == c.sig then
    let n := (s.lane l).checks + 1
    let s := modLane l (fun x => { x with checks := n }) s
    if 40 ≤ n then laneGreen l s else s
  else s

/-- The fast compare. Without a majority nothing commits. -/
def fastPhase (s : State) : State :=
  let s := closeFastAll s.frame.vitalOk s
  let c := compareSigs (s.sigsOf (·.fastSig))
  let s : State := { s with voter := { s.voter with fres := c.code, fdis := laneBits c.bad } }
  let s : State := afterCompare 41 43 c s
  let s : State := match s.voter.radmLane with
    | some l =>
      if s.voter.radmStep == .trial || s.voter.radmStep == .matching then laneCheckMatch l c (compareTrial l (s.lane l).fastSig c s) else s
    | none => s
  { s with frame := { s.frame with fastOk := c.good, vitalOk := s.frame.vitalOk && c.good } }

/-- The trial cycle has passed (R155 step 6). -/
def trialPassed (s : State) : State := match s.voter.radmLane with
  | some l =>
    if s.voter.radmStep = .trial && s.frame.vitalOk && !s.voter.trialBad && (s.lane l).pend.isNone then laneGreen l s else s
  | none => s

/-- Gates that are due open while their lane is Green, in RUN (R149). -/
def openGates (s : State) : State :=
  if s.sys.mode = .run && !s.voter.lost then
    { s with lanes := s.lanes.mapWith (fun _ l =>
      if l.colour = .green then { l with gateOpen := l.gateOpen || (l.gateNext && !l.gateFault), gateNext := false } else l) }
  else s

/-- Lines that the lanes present to their gates (R146, R173). -/
def presentLines (s : State) : State := { s with lanes := s.lanes.mapWith (fun _ l => { l with lines := l.vector }) }

/-- Phase 3 (R75, R129, R138 to R145). -/
def voteTick (s : State) : State :=
  presentLines (trialPassed (takeLanes (openGates (fastPhase (vitalPhase s)))))

/-- SIGNATURE_CLOSE_AND_VOTE (R141). -/
def execSignatureCloseAndVote (s : State) : Host.Outcome State Fault Refusal := act (only State.fastRuns voteTick) s

/-! ### The enable path (R150) -/

/-- A lane whose presented lines differ from its vector: its gate closes at once, and the fault counts as a disagreement. -/
def enableFault (dev : Tri Nat) (l : LaneId) (s : State) : State :=
  let s := modLane l (fun x => { x with gateOpen := false, gateNext := false, lines := x.lines ^^^ dev.get l % 2 ^ 30 }) (raise 53 s)
  takeLanes (laneFault l (countDisagreements [l] s))

/-- The lines that the Green lanes present compared with their vectors; `dev` holds the lines in which a lane differs. -/
def enablePathCheck (dev : Tri Nat) (s : State) : State :=
  let bad := s.greens.filter (fun l => dev.get l % 2 ^ 30 != 0)
  let s := if s.capacity = 2 && !bad.isEmpty then safeTrigger 45 (raise 45 s) else s
  bad.foldl (fun s l => enableFault dev l s) s

/-- ENABLE_PATH_CHECK (R150). -/
def execEnablePathCheck (dev : Tri Nat) (s : State) : Host.Outcome State Fault Refusal :=
  act (only (fun s => s.sys.mode == .run) (enablePathCheck dev)) s

/-! ### The hold code (R477, R480, R482, R509) -/

/-- A standby that has taken the line starts its hold code (R509), unless R481 forbids it by now. -/
def startHold (s : State) : State :=
  if !s.pair.claiming then s
  else if s.pair.partnerHeld || s.pair.position = 0 then { s with pair := { s.pair with claiming := false, starting := false } }
  else raise 221 { s with pair := { s.pair with claiming := false, hold := true, holdStart := s.tick } }

/-- A Flint rail fault (R480): SAFE with outputs off at the next output commit. -/
def railFault (s : State) : State :=
  let s := raise 228 { s with pair := { s.pair with holdRail := true } }
  if s.sys.mode = .boot then goSafe [] 228 s else safeTrigger 228 s

/-- The inversion of HOLD1 and HOLD2 at an output commit, with what Garnet senses (R477, R480). An alone module has no cable to judge
(R475). -/
def invertHold (rail1 rail2 : Bool) (s : State) : State :=
  if !s.pair.hold then s
  else
    let s := { s with pair := { s.pair with holdLevel := !s.pair.holdLevel } }
    if !s.member || s.pair.holdRail then s
    else
      let off := !rail1 && !rail2 && !s.pair.closed
      let held := s.pair.partnerHeld && decide (s.pair.holdStart + 8 < s.tick)
      if held || rail1 != rail2 || (!rail1 && s.pair.closed) then railFault s
      else
        let s := if off && !s.pair.railsOff then raise 229 s else s
        { s with pair := { s.pair with railsOff := off } }

/-! ### What a commit takes (R77, R84, R116, R134, R148, R155) -/

/-- Lanes take the writes of a task: those that run tasks their own, the lane under re-admission those of the source lane (R155 step 2). -/
def commitWrites (f : Lane → List (Nat × Nat)) (s : State) : State :=
  let src := f (s.lane s.sourceLane)
  let mirror (id : LaneId) : Bool :=
    s.voter.radmLane == some id && (s.voter.radmStep == .quarantine || s.voter.radmStep == .copy || s.voter.radmStep == .waitJoin)
  let lines := (src.filterMap (fun w => addrLine s.regions w.1)).eraseDups
  { s with
    lanes := s.lanes.mapWith (fun id l => if s.laneWorks id then { l with mem := storeWrites (f l) l.mem }
      else if mirror id then { l with mem := storeWrites src l.mem } else l),
    pair := { s.pair with deltaLines := (s.pair.deltaLines ++ lines).eraseDups } }

/-- The results of the fast task and the output image. -/
def commitFast (s : State) : State :=
  let vital := s.frame.vitalOk
  let s := commitWrites (·.fastWrites) { s with outs := { s.outs with words := s.comingWords vital, pay := s.comingPay vital }, sfu := s.sfuW }
  { s with voter := { s.voter with radmStep := if s.voter.radmStep = .quarantine then .copy else s.voter.radmStep } }

/-- The vital results of the cycle, all of them or none (R84). -/
def commitVital (s : State) : State :=
  if !s.frame.vitalOk then s
  else
    let o := s.outs
    let s := commitWrites (·.vitalWrites) s
    { s with
      vit := s.vitW, outs := { o with vital := o.vitalW, generic := o.genericW, demands := putAll o.demandsW o.demands },
      frame := { s.frame with cycleOpen := false } }

/-- Hardware majority of three sets of lines (R147). -/
def majority (x y z : Nat) : Nat := (x &&& y) ||| (y &&& z) ||| (x &&& z)

/-- The latch of the Field region (R148, R491): the majority of the lines, with every switch kept open until the first commit at which a new
holder may drive. -/
def latchField (s : State) : State :=
  let m := majority s.lanes.a.presented s.lanes.b.presented s.lanes.c.presented
  let wait : Bool := match s.pair.gateFrom with
    | some t => decide (s.tick < t)
    | none => false
  let s := { s with
    voter := { s.voter with enMaj := m }, pair := { s.pair with gateFrom := if wait then s.pair.gateFrom else none } }
  doField (fun env w => fieldCommit env (if wait then 0 else m) s.outs.words w) s

/-- Payloads of one network. -/
def payOf (net : Nat) (l : List (Nat × Nat × List Byte)) : List (Nat × List Byte) := (l.filter (fun x => x.1 == net)).map (·.2)

/-- Comms transmit images copied (R77), messages of the application queued (R431), CAN send objects triggered (R453). -/
def commitComms (o : CommitIn) (s : State) : State :=
  let s := { s with efl := copyTransmit (payOf 0 s.outs.pay) s.efl }
  let s := doEfl (fun env w => o.messages.foldl (fun w m => egressPut env.tick m w) w) s
  doCan (fun env w => canCommit env true true (payOf 1 s.outs.pay) o.stages w) s

/-- Telegram continuation on CAN (R490): triggers go on from the copy of the last commit. -/
def continueCan (o : CommitIn) (s : State) : State := if s.serves then doCan (fun env w => canCommit env true false [] o.stages w) s else s

/-- The release of a hand-over (R512), at the commit of a vote tick whose vote has succeeded. -/
def handOverRelease (s : State) : State :=
  if s.pair.handOver && s.frame.vitalOk && s.pair.hold then
    let s := releaseHeld s
    { s with sys := { s.sys with toStandby := true }, pair := { s.pair with handOver := false } }
  else s

/-- After the commit of a vote tick: the checkpoint (R498), and the log entries of a change that waits (R622). -/
def afterVital (logOk : Bool) (s : State) : State := if s.frame.vitalOk then changeEntries logOk (checkpoint s) else s

/-- An output commit in RUN without a SAFE trigger. -/
def commitRun (o : CommitIn) (s : State) : State :=
  let s := invertHold o.rail1 o.rail2 s
  let s := if s.frame.fastOk then commitComms o (latchField (commitVital (commitFast s))) else s
  afterVital o.logOk (handOverRelease s)

/-- An output commit outside RUN. Switches keep their state during an output hold (R488), else they stay open (R46). -/
def commitOther (o : CommitIn) (s : State) : State :=
  let s := invertHold o.rail1 o.rail2 (startHold s)
  let s := if s.sys.mode = .safe && s.frame.fastOk then commitFast s else s
  let s := { s with voter := { s.voter with enMaj := 0 } }
  let s := if s.pair.outputHold.isNone && s.fastRuns then doField (fun env w => fieldCommit env 0 s.outs.words w) s else s
  continueCan o s

/-- Records of the pair link after a commit (R495, R497). -/
def commitRecords (s : State) : State :=
  let s := if s.pair.hold || s.pair.outputHold.isSome then sendOutput s else s
  if s.sys.mode = .run then sendImagePart s else s

/-- The output commit of a tick, with the answers to the mode requests that waited for it (R53). -/
def outputCommit (o : CommitIn) (s : State) : State :=
  let s := { s with frame := { s.frame with committed := true } }
  let s := match s.sys.mode, s.sys.safePend with
    | .run, some c =>
      let s := continueCan o (goSafe o.stages c s)
      { s with voter := { s.voter with enMaj := 0 } }
    | .run, none => commitRun o s
    | _, _ => commitOther o s
  answerModes (commitRecords s)

/-- OUTPUT_COMMIT (R75). -/
def execOutputCommit (o : CommitIn) (s : State) : Host.Outcome State Fault Refusal := act (outputCommit o) s

end Sys2Proof.Machine
end

