-- ==== Sys2Proof/Machine/Dispatch.lean ====
section
/-!
DEFINITION. The dispatch: one arm per command, each one call of its meaning.
-/
namespace Sys2Proof.Machine

/-- The effect of a command on everything but the queue. -/
def exec (i : Instr) (s : State) : Host.Outcome State Fault Refusal :=
  match i with
  | .powerUp => Sys2Proof.Machine.execPowerUp s
  | .domainPowerGoodLost domain => Sys2Proof.Machine.execDomainPowerGoodLost domain s
  | .domainPowerGoodTimeout domain => Sys2Proof.Machine.execDomainPowerGoodTimeout domain s
  | .fieldDomainLost supply => Sys2Proof.Machine.execFieldDomainLost supply s
  | .fieldDomainReturn supply => Sys2Proof.Machine.execFieldDomainReturn supply s
  | .backplaneSupplyLow mv => Sys2Proof.Machine.execBackplaneSupplyLow mv s
  | .backplaneSupplyHigh mv => Sys2Proof.Machine.execBackplaneSupplyHigh mv s
  | .backplaneSupplyRestored mv => Sys2Proof.Machine.execBackplaneSupplyRestored mv s
  | .powerFailSequence => Sys2Proof.Machine.execPowerFailSequence s
  | .presenceMated => Sys2Proof.Machine.execPresenceMated s
  | .insertionCompleted => Sys2Proof.Machine.execInsertionCompleted s
  | .extractionRequested => Sys2Proof.Machine.execExtractionRequested s
  | .temperatureHigh t => Sys2Proof.Machine.execTemperatureHigh t s
  | .temperatureLimit t => Sys2Proof.Machine.execTemperatureLimit t s
  | .thermalCutOff l => Sys2Proof.Machine.execThermalCutOff l s
  | .supervisorWatchdogExpiry => Sys2Proof.Machine.execSupervisorWatchdogExpiry s
  | .restart => Sys2Proof.Machine.execRestart s
  | .bootEnd r => Sys2Proof.Machine.execBootEnd r s
  | .flintListenEnd => Sys2Proof.Machine.execFlintListenEnd s
  | .ppsEdge gap phase => Sys2Proof.Machine.execPpsEdge gap phase s
  | .todTelegram start bs => Sys2Proof.Machine.execTodTelegram start bs s
  | .stationInputTimeout => Sys2Proof.Machine.execStationInputTimeout s
  | .inputLatch fs => Sys2Proof.Machine.execInputLatch fs s
  | .recoveryPressJammed g => Sys2Proof.Machine.execRecoveryPressJammed g s
  | .fastTaskStart t => Sys2Proof.Machine.execFastTaskStart t s
  | .resetJammed k => Sys2Proof.Machine.execResetJammed k s
  | .discrepancyExpiry n => Sys2Proof.Machine.execDiscrepancyExpiry n s
  | .twoHandContactExpiry n => Sys2Proof.Machine.execTwoHandContactExpiry n s
  | .synchronisationWindowExpiry n => Sys2Proof.Machine.execSynchronisationWindowExpiry n s
  | .pairWindowExpiry n => Sys2Proof.Machine.execPairWindowExpiry n s
  | .mutingLimitExpiry n => Sys2Proof.Machine.execMutingLimitExpiry n s
  | .clearTimeExpiry n => Sys2Proof.Machine.execClearTimeExpiry n s
  | .stopDelayExpiry n => Sys2Proof.Machine.execStopDelayExpiry n s
  | .switchOnWindowExpiry n => Sys2Proof.Machine.execSwitchOnWindowExpiry n s
  | .switchOffWindowExpiry n => Sys2Proof.Machine.execSwitchOffWindowExpiry n s
  | .fastTaskReturn l ns dev => Sys2Proof.Machine.execFastTaskReturn l ns dev s
  | .fastTaskWatchdog l => Sys2Proof.Machine.execFastTaskWatchdog l s
  | .signatureCloseAndVote => Sys2Proof.Machine.execSignatureCloseAndVote s
  | .vitalTaskReturn l ns dev => Sys2Proof.Machine.execVitalTaskReturn l ns dev s
  | .enablePathCheck dev => Sys2Proof.Machine.execEnablePathCheck dev s
  | .outputCommit o => Sys2Proof.Machine.execOutputCommit o s
  | .gateSelfClose l => Sys2Proof.Machine.execGateSelfClose l s
  | .vitalCycleStart t => Sys2Proof.Machine.execVitalCycleStart t s
  | .routeEnginePass clk => Sys2Proof.Machine.execRouteEnginePass clk s
  | .setRequestExpired => Sys2Proof.Machine.execSetRequestExpired s
  | .settingSupervision r => Sys2Proof.Machine.execSettingSupervision r s
  | .trelExpiry r => Sys2Proof.Machine.execTrelExpiry r s
  | .tovlExpiry r => Sys2Proof.Machine.execTovlExpiry r s
  | .runAhead => Sys2Proof.Machine.execRunAhead s
  | .spcan l => Sys2Proof.Machine.execSpcan l s
  | .setRequest o => Sys2Proof.Machine.execSetRequest o s
  | .releaseRequest o => Sys2Proof.Machine.execReleaseRequest o s
  | .emergencyCancel o => Sys2Proof.Machine.execEmergencyCancel o s
  | .movePoint o => Sys2Proof.Machine.execMovePoint o s
  | .block o => Sys2Proof.Machine.execBlock o s
  | .unblock o => Sys2Proof.Machine.execUnblock o s
  | .proveClear o => Sys2Proof.Machine.execProveClear o s
  | .closeCrossing o => Sys2Proof.Machine.execCloseCrossing o s
  | .openCrossing o => Sys2Proof.Machine.execOpenCrossing o s
  | .releaseDoors o => Sys2Proof.Machine.execReleaseDoors o s
  | .closeDoors o => Sys2Proof.Machine.execCloseDoors o s
  | .keyReleaseRequest o => Sys2Proof.Machine.execKeyReleaseRequest o s
  | .keyReleaseCancel o => Sys2Proof.Machine.execKeyReleaseCancel o s
  | .throwTimeExpiry slot => Sys2Proof.Machine.execThrowTimeExpiry slot s
  | .provingTimeExpiry slot => Sys2Proof.Machine.execProvingTimeExpiry slot s
  | .clearDelayExpiry slot => Sys2Proof.Machine.execClearDelayExpiry slot s
  | .warningTimeExpiry slot => Sys2Proof.Machine.execWarningTimeExpiry slot s
  | .movementLimitExpiry slot => Sys2Proof.Machine.execMovementLimitExpiry slot s
  | .closingLimitExpiry slot => Sys2Proof.Machine.execClosingLimitExpiry slot s
  | .releaseWindowExpiry slot => Sys2Proof.Machine.execReleaseWindowExpiry slot s
  | .restartReleaseTimeExpiry => Sys2Proof.Machine.execRestartReleaseTimeExpiry s
  | .darkPulse c sample => Sys2Proof.Machine.execDarkPulse c sample s
  | .groupTest g sample => Sys2Proof.Machine.execGroupTest g sample s
  | .lightPulse c sample => Sys2Proof.Machine.execLightPulse c sample s
  | .outputHoldExpiry c => Sys2Proof.Machine.execOutputHoldExpiry c s
  | .channelOverload c => Sys2Proof.Machine.execChannelOverload c s
  | .groupOverload g => Sys2Proof.Machine.execGroupOverload g s
  | .openLoad c => Sys2Proof.Machine.execOpenLoad c s
  | .couplerFault k => Sys2Proof.Machine.execCouplerFault k s
  | .fieldSupplyOutOfRange supply code => Sys2Proof.Machine.execFieldSupplyOutOfRange supply code s
  | .fieldSupplyInRange supply => Sys2Proof.Machine.execFieldSupplyInRange supply s
  | .blankingEnd => Sys2Proof.Machine.execBlankingEnd s
  | .fieldRegionReset r v => Sys2Proof.Machine.execFieldRegionReset r v s
  | .fieldRegionResetCompleted badIns badOuts badReturns => Sys2Proof.Machine.execFieldRegionResetCompleted badIns badOuts badReturns s
  | .quarantine => Sys2Proof.Machine.execQuarantine s
  | .bulkCopyEnd r => Sys2Proof.Machine.execBulkCopyEnd r s
  | .joinLane => Sys2Proof.Machine.execJoinLane s
  | .readmissionFailed => Sys2Proof.Machine.execReadmissionFailed s
  | .selfTestStart => Sys2Proof.Machine.execSelfTestStart s
  | .selfTestInjection detected => Sys2Proof.Machine.execSelfTestInjection detected s
  | .startSelfTestNow r v => Sys2Proof.Machine.execStartSelfTestNow r v s
  | .lanePowerDown r v => Sys2Proof.Machine.execLanePowerDown r v s
  | .lanePowerDownCompleted l => Sys2Proof.Machine.execLanePowerDownCompleted l s
  | .laneRegionReset r v => Sys2Proof.Machine.execLaneRegionReset r v s
  | .laneRegionResetEnd l passed => Sys2Proof.Machine.execLaneRegionResetEnd l passed s
  | .modeRequestConfigure r => Sys2Proof.Machine.execModeRequestConfigure r s
  | .modeRequestStandby r => Sys2Proof.Machine.execModeRequestStandby r s
  | .warmRestartCommand r => Sys2Proof.Machine.execWarmRestartCommand r s
  | .coldRestartCommand r => Sys2Proof.Machine.execColdRestartCommand r s
  | .recoveryRestartCommand r => Sys2Proof.Machine.execRecoveryRestartCommand r s
  | .firewallViolation a => Sys2Proof.Machine.execFirewallViolation a s
  | .moduleWideWrite w => Sys2Proof.Machine.execModuleWideWrite w s
  | .evtFlagClear n vals => Sys2Proof.Machine.execEvtFlagClear n vals s
  | .registerWrite l addr v => Sys2Proof.Machine.execRegisterWrite l addr v s
  | .tableLoadStart r => Sys2Proof.Machine.execTableLoadStart r s
  | .tableLoadComplete => Sys2Proof.Machine.execTableLoadComplete s
  | .checkpointTransferStart r => Sys2Proof.Machine.execCheckpointTransferStart r s
  | .changeLogExportStart r => Sys2Proof.Machine.execChangeLogExportStart r s
  | .changeLogExportDone => Sys2Proof.Machine.execChangeLogExportDone s
  | .imageDownloadStart r => Sys2Proof.Machine.execImageDownloadStart r s
  | .longOperationSuspend r index => Sys2Proof.Machine.execLongOperationSuspend r index s
  | .longOperationResume r index => Sys2Proof.Machine.execLongOperationResume r index s
  | .longOperationCancel r index => Sys2Proof.Machine.execLongOperationCancel r index s
  | .suspendLimitExpiry index => Sys2Proof.Machine.execSuspendLimitExpiry index s
  | .partnerLineNotHeld => Sys2Proof.Machine.execPartnerLineNotHeld s
  | .snapshotLoaded => Sys2Proof.Machine.execSnapshotLoaded s
  | .pullReceived => Sys2Proof.Machine.execPullReceived s
  | .pullRailFault => Sys2Proof.Machine.execPullRailFault s
  | .pullFailed => Sys2Proof.Machine.execPullFailed s
  | .outputHoldEnd => Sys2Proof.Machine.execOutputHoldEnd s
  | .telegramContinuationEnd => Sys2Proof.Machine.execTelegramContinuationEnd s
  | .fullImageStart => Sys2Proof.Machine.execFullImageStart s
  | .identRecord rx => Sys2Proof.Machine.execIdentRecord rx s
  | .fullBeginRecord rx => Sys2Proof.Machine.execFullBeginRecord rx s
  | .fullDataRecord rx => Sys2Proof.Machine.execFullDataRecord rx s
  | .fullEndRecord rx => Sys2Proof.Machine.execFullEndRecord rx s
  | .deltaRecord rx => Sys2Proof.Machine.execDeltaRecord rx s
  | .sessionsRecord rx => Sys2Proof.Machine.execSessionsRecord rx s
  | .outputRecord rx => Sys2Proof.Machine.execOutputRecord rx s
  | .statusRecord rx => Sys2Proof.Machine.execStatusRecord rx s
  | .pairLinkDown => Sys2Proof.Machine.execPairLinkDown s
  | .portLinkChange p rel up phyMaster => Sys2Proof.Machine.execPortLinkChange p rel up phyMaster s
  | .cycleFrame rx => Sys2Proof.Machine.execCycleFrame rx s
  | .pollFrame rx => Sys2Proof.Machine.execPollFrame rx s
  | .responseFrame rx => Sys2Proof.Machine.execResponseFrame rx s
  | .messageFrame rx => Sys2Proof.Machine.execMessageFrame rx s
  | .delayReq rx => Sys2Proof.Machine.execDelayReq rx s
  | .delayResp rx => Sys2Proof.Machine.execDelayResp rx s
  | .claim rx => Sys2Proof.Machine.execClaim rx s
  | .topoReq rx => Sys2Proof.Machine.execTopoReq rx s
  | .topoResp rx => Sys2Proof.Machine.execTopoResp rx s
  | .topo rx => Sys2Proof.Machine.execTopo rx s
  | .sendCycleFrame skew => Sys2Proof.Machine.execSendCycleFrame skew s
  | .sendPoll slot skew => Sys2Proof.Machine.execSendPoll slot skew s
  | .sendResponse slot skew => Sys2Proof.Machine.execSendResponse slot skew s
  | .sendMessage slot skew => Sys2Proof.Machine.execSendMessage slot skew s
  | .hopDelayMeasurement rel => Sys2Proof.Machine.execHopDelayMeasurement rel s
  | .masterLost rel => Sys2Proof.Machine.execMasterLost rel s
  | .inaugurationStart rel => Sys2Proof.Machine.execInaugurationStart rel s
  | .startInauguration r v rel => Sys2Proof.Machine.execStartInauguration r v rel s
  | .claimSend rel => Sys2Proof.Machine.execClaimSend rel s
  | .backoffEnd rel => Sys2Proof.Machine.execBackoffEnd rel s
  | .claimWindowEnd rel => Sys2Proof.Machine.execClaimWindowEnd rel s
  | .topoRespSend resid => Sys2Proof.Machine.execTopoRespSend resid s
  | .topoPublish resid rel => Sys2Proof.Machine.execTopoPublish resid rel s
  | .lockRetryExpiry rel => Sys2Proof.Machine.execLockRetryExpiry rel s
  | .overloadCleared => Sys2Proof.Machine.execOverloadCleared s
  | .scheduleModeRequest r v => Sys2Proof.Machine.execScheduleModeRequest r v s
  | .canFrameReceived n rel tec rcv f => Sys2Proof.Machine.execCanFrameReceived n rel tec rcv f s
  | .canFrameTransmitted n m tec rcv r => Sys2Proof.Machine.execCanFrameTransmitted n m tec rcv r s
  | .referenceMessage n rel idx k time => Sys2Proof.Machine.execReferenceMessage n rel idx k time s
  | .sendReferenceMessage n rel => Sys2Proof.Machine.execSendReferenceMessage n rel s
  | .timeMasterTakeover n => Sys2Proof.Machine.execTimeMasterTakeover n s
  | .timeSyncLost n => Sys2Proof.Machine.execTimeSyncLost n s
  | .errorPassiveEntry n => Sys2Proof.Machine.execErrorPassiveEntry n s
  | .busOff n => Sys2Proof.Machine.execBusOff n s
  | .canFaultRetryEnd n => Sys2Proof.Machine.execCanFaultRetryEnd n s
  | .cancelObject r n v stage => Sys2Proof.Machine.execCancelObject r n v stage s
  | .readEntry f => Sys2Proof.Machine.execReadEntry f s
  | .writeEntry f => Sys2Proof.Machine.execWriteEntry f s
  | .openSession f => Sys2Proof.Machine.execOpenSession f s
  | .proveSession f => Sys2Proof.Machine.execProveSession f s
  | .closeSession f => Sys2Proof.Machine.execCloseSession f s
  | .ping f => Sys2Proof.Machine.execPing f s
  | .subscribe f => Sys2Proof.Machine.execSubscribe f s
  | .notify slot e => Sys2Proof.Machine.execNotify slot e s
  | .canSegment n seg => Sys2Proof.Machine.execCanSegment n seg s
  | .sessionExpired slot => Sys2Proof.Machine.execSessionExpired slot s
  | .loginLockoutEnd carrier => Sys2Proof.Machine.execLoginLockoutEnd carrier s
  | .parameterSet r bs => Sys2Proof.Machine.execParameterSet r bs s
  | .restoreDefaults r v => Sys2Proof.Machine.execRestoreDefaults r v s
  | .passwordWrite r sub bs => Sys2Proof.Machine.execPasswordWrite r sub bs s
  | .eventFlagClear r e v => Sys2Proof.Machine.execEventFlagClear r e v s
  | .exportAcknowledgement r v => Sys2Proof.Machine.execExportAcknowledgement r v s
  | .clearDiagnosticRecords r v => Sys2Proof.Machine.execClearDiagnosticRecords r v s
  | .integratorKeyWrite r sub bs => Sys2Proof.Machine.execIntegratorKeyWrite r sub bs s
  | .imageHeader r bs => Sys2Proof.Machine.execImageHeader r bs s
  | .imageChunk r bs => Sys2Proof.Machine.execImageChunk r bs s
  | .firmwareActivation r v => Sys2Proof.Machine.execFirmwareActivation r v s
  | .activationRestart => Sys2Proof.Machine.execActivationRestart s
  | .prepareChange r => Sys2Proof.Machine.execPrepareChange r s
  | .preparationReady => Sys2Proof.Machine.execPreparationReady s
  | .applyChange r => Sys2Proof.Machine.execApplyChange r s
  | .cancelChange r => Sys2Proof.Machine.execCancelChange r s
  | .onlineChangeHandover => Sys2Proof.Machine.execOnlineChangeHandover s
  | .onlineChangeWaitExpiry => Sys2Proof.Machine.execOnlineChangeWaitExpiry s
  | .forceSymbol r v => Sys2Proof.Machine.execForceSymbol r v s
  | .forceOutputOff r v => Sys2Proof.Machine.execForceOutputOff r v s
  | .removeSymbolForce r v => Sys2Proof.Machine.execRemoveSymbolForce r v s
  | .removeOutputForce r v => Sys2Proof.Machine.execRemoveOutputForce r v s
  | .dmaStart l c word => Sys2Proof.Machine.execDmaStart l c word s
  | .dmaStop l c word => Sys2Proof.Machine.execDmaStop l c word s
  | .descriptorFetch l c => Sys2Proof.Machine.execDescriptorFetch l c s
  | .dmaBeatResponse l c ok => Sys2Proof.Machine.execDmaBeatResponse l c ok s
  | .dmaBusTimeout l c => Sys2Proof.Machine.execDmaBusTimeout l c s
  | .completionRecordWrite l c => Sys2Proof.Machine.execCompletionRecordWrite l c s
  | .ringTailAdvance l v => Sys2Proof.Machine.execRingTailAdvance l v s
  | .checkUnitConfigure l u v => Sys2Proof.Machine.execCheckUnitConfigure l u v s
  | .partnerLineHeld h1 h2 => Sys2Proof.Machine.execPartnerLineHeld h1 h2 s
  | .presenceLoopChange closed pos => Sys2Proof.Machine.execPresenceLoopChange closed pos s
  | .lockstepMismatch => Sys2Proof.Machine.execLockstepMismatch s
  | .readmissionStartTestEnd passed => Sys2Proof.Machine.execReadmissionStartTestEnd passed s
  | .busOffRecovery n => Sys2Proof.Machine.execBusOffRecovery n s
  | .protocolError n code dph tec rcv => Sys2Proof.Machine.execProtocolError n code dph tec rcv s
  | .remoteFrameReceived n => Sys2Proof.Machine.execRemoteFrameReceived n s
  | .openLoadCleared c => Sys2Proof.Machine.execOpenLoadCleared c s
  | .ejectorClosed => Sys2Proof.Machine.execEjectorClosed s
  | .boardTemperatureFall t => Sys2Proof.Machine.execBoardTemperatureFall t s
  | .icmpEchoRequest port bs => Sys2Proof.Machine.execIcmpEchoRequest port bs s
  | .arpRequest port ip => Sys2Proof.Machine.execArpRequest port ip s
  | .unknownOperation f => Sys2Proof.Machine.execUnknownOperation f s
  | .slotErased => Sys2Proof.Machine.execSlotErased s

end Sys2Proof.Machine
end

