-- ==== Sys2Proof/Safety.lean ====
section
/-!
DEFINITION. The terms that claims use: parts of the state that a command keeps, what an event leaves, outputs off, and the canonical form of
lane memory.
-/
namespace Sys2Proof
open Machine

/-! ### What a command keeps -/

/-- Parts of the state. `notices` are the sessions of the dictionary server with their queues of notifications, `dict` the rest of it,
`frozenEvents` the EVENTS bitmap of the tick, `sent` what the last command sent, `free` the count of free values drawn. -/
inductive Part where
  | dead | ident | sys | frame | evt | frozenEvents | fw | params | lanes | voter | ite | vit | vitW | sfu | sfuW | img | vin | outs | fio | efl
  | can | pair | notices | dict | lops | upd | pwr | totals | frozen | sent | free
  deriving DecidableEq, Repr

/-- The dictionary server without its sessions. -/
def dictRest (d : Dict) : Dict := { d with sessions := [] }

/-- Two states agree in a part. -/
def samePart (s t : State) : Part → Prop
  | .dead => t.dead = s.dead
  | .ident => t.ident = s.ident
  | .sys => t.sys = s.sys
  | .frame => t.frame = s.frame
  | .evt => t.evt = s.evt
  | .frozenEvents => t.evt.frozen = s.evt.frozen
  | .fw => t.fw = s.fw
  | .params => t.params = s.params
  | .lanes => t.lanes = s.lanes
  | .voter => t.voter = s.voter
  | .ite => t.ite = s.ite
  | .vit => t.vit = s.vit
  | .vitW => t.vitW = s.vitW
  | .sfu => t.sfu = s.sfu
  | .sfuW => t.sfuW = s.sfuW
  | .img => t.img = s.img
  | .vin => t.vin = s.vin
  | .outs => t.outs = s.outs
  | .fio => t.fio = s.fio
  | .efl => t.efl = s.efl
  | .can => t.can = s.can
  | .pair => t.pair = s.pair
  | .notices => t.dict.sessions = s.dict.sessions
  | .dict => dictRest t.dict = dictRest s.dict
  | .lops => t.lops = s.lops
  | .upd => t.upd = s.upd
  | .pwr => t.pwr = s.pwr
  | .totals => t.totals = s.totals
  | .frozen => t.frozen = s.frozen
  | .sent => t.emitted = s.emitted
  | .free => t.freeCtr = s.freeCtr

/-- `t` differs from `s` in the listed parts at most; the queue is the same. -/
def keeps (but : List Part) (s t : State) : Prop := t.pending = s.pending ∧ ∀ p, p ∈ but ∨ samePart s t p

/-- Parts that an event touches (R66, R67, R547), and what a command sends. -/
def noted : List Part := [.evt, .notices, .sent]

/-- Parts that a reply over a carrier may touch besides: its session, and the queues of the link that carries it (R525). -/
def replyParts : Carrier → List Part
  | .eth0 | .eth1 | .console => [.notices, .sent]
  | .efavo => [.notices, .sent, .efl, .evt, .totals, .frame, .pair]
  | .can => [.notices, .sent, .can, .evt, .totals, .pair]

/-- Every byte of lane memory reads the same in every lane. -/
def sameMemory (s t : State) : Prop := ∀ l a, laneByte t l a = laneByte s l a

/-! ### Host writes (R14, R16, R519, R532, R533, R665) -/

/-- A reply to a request has left the module, with a status. -/
def replied (r : Req) (op status : Nat) (t : State) : Prop :=
  ∃ rep : DictReply, Output.dict rep ∈ t.emitted ∧ rep.carrier = r.carrier ∧ rep.op = op + 0x80 ∧ rep.session = r.session ∧
    rep.seq = r.seq ∧ rep.status = status

/-- A live module's server takes the request up: an open session with nothing under way, and the next SEQ. -/
def takesUp (r : Req) (s : State) (x : Session) : Prop :=
  s.dead = false ∧ s.serverUp r.carrier = true ∧ r.session ≠ 0 ∧ s.sessionOf r.session = some x ∧ x.phase = .opened ∧ x.busy = false ∧
    r.seq = add32 x.lastSeq 1 ∧ r.seq ≠ x.lastSeq

/-- The session may write an entry that needs a level. -/
def mayWrite (r : Req) (level : Nat) (s : State) : Prop :=
  ∃ x, takesUp r s x ∧ level ≤ x.level ∧ passwordSet level s.dict = true

/-- The change log has room for some entries, and the power holds. -/
def mayLog (n : Nat) (s : State) : Prop := s.dict.sinceExport + n ≤ 4096 ∧ s.pwr.failing = false

/-- The last entry of the change log is this request's (R550, R553). -/
def logged (r : Req) (kind index sub old new : Nat) (s t : State) : Prop :=
  ∃ e : LogEntry, t.dict.log.getLast? = some e ∧ e.kind = kind ∧ e.index = index ∧ e.sub = sub ∧ e.old = old ∧ e.new = new ∧
    e.carrier = r.carrier.num ∧ e.tick = s.frame.tick ∧ e.seqNo = s.dict.logNext

/-! ### Events (R66, R67) -/

/-- Event `n` has occurred between `s` and `t`: its sticky flag is set, and its newest tick is the tick of `s`. -/
def occurred (n : Nat) (s t : State) : Prop :=
  t.evt.flags.getLsbD n = true ∧ (0 < s.frame.tick → spGet 0 n t.evt.lastTick = s.frame.tick)

/-! ### Safety functions, elements and routes -/

/-- An instance of the safety configuration, of one of some types, whose block no row of its own has moved in the tick (R94, R112). -/
def sfuReady (s : State) (i : Nat) (typs : List Nat) (c : SfInst) : Prop :=
  s.dead = false ∧ s.sfuRuns = true ∧ s.sfuW.insts.lookup i = some c ∧ c.typ ∈ typs ∧ (sfOf s.sfuW i).done = false

/-- The block of an instance is in FAULT with a code: no permit and no request, timers stopped, recorded for diagnosis (R305, R339);
the other blocks are as they were. -/
def sfuFaulted (s t : State) (i code : Nat) : Prop :=
  (sfOf t.sfuW i).state = sfFAULT ∧ (sfOf t.sfuW i).fault = code ∧ (sfOf t.sfuW i).permit = false ∧ (sfOf t.sfuW i).req = false ∧
    (sfOf t.sfuW i).d = tmStop ∧ (sfOf t.sfuW i).p = tmStop ∧ (sfOf t.sfuW i).stamp = s.frame.tick % 2 ^ 32 ∧
    t.sfuW.diag.head? = some (diagRecord s.frame.tick i 2 sfFAULT code)

/-- The blocks of other instances are as they were. -/
def sfuOthers (s t : State) (i : Nat) : Prop := ∀ j, j ≠ i → sfOf t.sfuW j = sfOf s.sfuW j

/-- The record of an element after its detection step in the open cycle (R185). -/
def detectedElem (s : State) (slot : Nat) : Elem :=
  (detectElem s.tables s.vin s.binds s.outs.generic s.frame.cycle s.vitW slot (defOf s.tables slot)).elem

/-- The timer of an element of a kind has run out at a vital-cycle boundary of RUN, in one of some states (R94, R184, R185). -/
def timerDue (s : State) (slot kind : Nat) (states : List Nat) : Prop :=
  s.dead = false ∧ s.sys.mode = .run ∧ s.frame.vitalDue = true ∧ (defOf s.tables slot).kind = kind ∧ slot ∉ s.vitW.handled ∧
    (elemOf s.vitW slot).state ∈ states ∧ (detectedElem s slot).state ∈ states ∧ (detectedElem s slot).running = true ∧
    timerLimit (defOf s.tables slot) (detectedElem s slot) ≤ (detectedElem s slot).timer

/-- The element has taken a state, stamped with the cycle, and no other record has changed. -/
def elemTook (s t : State) (slot st : Nat) : Prop :=
  (elemOf t.vitW slot).state = st ∧ (elemOf t.vitW slot).stamp = s.frame.cycle % 2 ^ 32 ∧ slot ∈ t.vitW.handled ∧
    (∀ k, k ≠ slot → elemOf t.vitW k = elemOf s.vitW k) ∧ t.vitW.routes = s.vitW.routes

/-! ### Invariants -/

/-- The memory of every lane is in its canonical form: addresses strictly rising, no byte that reads as an unlisted one (R41). -/
def laneMemoryWf (s : State) : Prop := ∀ l, spWf 0 (s.lanes.get l).mem = true

/-- Outside RUN every lane gate is closed, so no enable passes (R46, R146). -/
def gatesShutOutsideRun (s : State) : Prop := s.sys.mode ≠ .run → ∀ l, (s.lanes.get l).gateOpen = false

/-- Every high-side switch and every group return switch is open. -/
def outputsOff (s : State) : Prop :=
  (∀ c, c < 24 → (nth {} c s.fio.outs).driven = false) ∧ (∀ g, g < 6 → (nth {} g s.fio.groups).driven = false)

end Sys2Proof
end

