-- ==== Sys2Proof/Certificates/Slice0/Obligations.lean ====
section
/-!
DEFINITION. The statements about the module, for the provers. Each answers, for the commands that it names, with the next state and what it
holds, under hypotheses on the state and the operands alone, and with what the command leaves as it was.
-/
open Sys2Proof Sys2Proof.Machine

/-! ### 14 Power, temperature, hot plug -/

/-- POWER_UP (R640, R70), POWER_FAIL_SEQUENCE (R648, R487), SUPERVISOR_WATCHDOG_EXPIRY (R645), RESTART (R644). -/
def Obligations.PowerAndRestart : Prop := ∀ s : State,
  (∃ t, exec .powerUp s = .next t ∧ t.dead = false ∧ t.sys.mode = .boot ∧ t.sys.bootKind = s.defaultKind ∧ t.frame.tick = 0 ∧
    t.evt.flags.getLsbD 0 = true ∧ t.evt.flags.getLsbD 29 = true ∧ (s.pwr.precharge = true → t.evt.flags.getLsbD 27 = true) ∧
    t.lanes = State.reset.lanes ∧ t.voter = State.reset.voter ∧ t.fw = State.reset.fw ∧ t.efl.ports = State.reset.efl.ports ∧
    t.lops = State.reset.lops ∧ t.ident = s.ident ∧ t.pwr.powerUps = add32 s.pwr.powerUps 1 ∧ t.pending = s.pending) ∧
  (s.dead = false → ∃ t, exec .powerFailSequence s = .next t ∧ t.dead = true ∧ outputsOff t ∧ t.pair.hold = false ∧
    (∀ l, (t.lane l).gateOpen = false) ∧ t.dict.staged = []) ∧
  (s.dead = false → ∃ t, exec .supervisorWatchdogExpiry s = .next t ∧ t.sys.mode = .boot ∧ t.sys.bootKind = s.defaultKind ∧
    occurred 15 s t ∧ occurred 29 s t ∧ outputsOff t ∧ t.pair.hold = false ∧ t.frame.tick = s.frame.tick ∧ t.pending = s.pending) ∧
  (s.dead = false → s.sys.safePend = none → ∀ kind, s.sys.restartReq = some kind → ∃ t, exec .restart s = .next t ∧
    t.sys.mode = .boot ∧ t.sys.bootKind = kind ∧ t.sys.restartReq = none ∧ occurred 29 s t ∧ outputsOff t ∧ t.pair.hold = false ∧
    t.frame.tick = s.frame.tick ∧ t.ident = s.ident ∧ t.upd.keys = s.upd.keys ∧ t.upd.forces = [] ∧ t.pending = s.pending)

/-- DOMAIN_POWER_GOOD_LOST, DOMAIN_POWER_GOOD_TIMEOUT (R640, R641), THERMAL_CUT_OFF (R662), with the losses of R25. -/
def Obligations.DomainLost : Prop := ∀ s : State, s.dead = false →
  (∀ d, d < 8 → s.pwr.lost.testBit d = false → ∃ t, exec (.domainPowerGoodLost d) s = .next t ∧ occurred (4 + d) s t ∧
    t.pwr.lost.testBit d = true ∧ t.pwr.domains.testBit d = false ∧ t.frame.tick = s.frame.tick ∧ t.fw = s.fw ∧ t.params = s.params ∧
    t.vit = s.vit ∧ t.sfu = s.sfu ∧ t.outs = s.outs ∧ t.pending = s.pending) ∧
  (∀ d, d < 8 → s.sys.mode = .boot → s.pwr.lost.testBit d = false → ∃ t, exec (.domainPowerGoodTimeout d) s = .next t ∧
    occurred (4 + d) s t ∧ t.pwr.lost.testBit d = true ∧ t.sys.mode = .boot) ∧
  (∀ l : LaneId, s.pwr.lost.testBit l.num = false → ∃ t, exec (.thermalCutOff l) s = .next t ∧ occurred (4 + l.num) s t ∧
    (t.lane l).powered = false ∧ t.pwr.lost.testBit l.num = true ∧
    ((s.sys.mode = .configure ∨ s.sys.mode = .standby ∨ s.sys.mode = .run) → (s.lane l).colour ≠ .slate → (t.lane l).pend = some .slate) ∧
    (∀ k, k ≠ l → t.lane k = s.lane k) ∧ keeps (noted ++ [.lanes, .pwr]) s t) ∧
  (s.pwr.lost.testBit 3 = false → ∃ t, exec (.domainPowerGoodLost 3) s = .next t ∧ t.voter = { s.voter with lost := true } ∧
    keeps (noted ++ [.voter, .pwr, .sys]) s t) ∧
  (s.pwr.lost.testBit 7 = false → ∃ t, exec (.domainPowerGoodLost 7) s = .next t ∧ t.fio.lost = true ∧ t.fio.running = false ∧ outputsOff t ∧
    keeps (noted ++ [.fio, .pwr, .sys]) s t) ∧
  (∃ t, exec (.domainPowerGoodLost 11) s = .next t ∧ t.dead = true ∧ outputsOff t ∧ t.pair.hold = false ∧ t.pwr.aon = false ∧
    (∀ l, (t.lane l).gateOpen = false))

/-- FIELD_DOMAIN_LOST (R643), FIELD_DOMAIN_RETURN (R642), FIELD_SUPPLY_OUT_OF_RANGE (R371), FIELD_SUPPLY_IN_RANGE (R372). -/
def fieldSupplyEvents : Prop := ∀ (s : State) (k : Nat), s.dead = false → k < 3 →
  (s.pwr.lost.testBit (8 + k) = false → ∃ t, exec (.fieldDomainLost k) s = .next t ∧ occurred (12 + k) s t ∧
    t.pwr.lost.testBit (8 + k) = true ∧ (∀ g ∈ groupsOf k, (nth {} g s.fio.groups).inZero = false → ∀ c ∈ outsOf g, (nth {} c t.fio.outs).driven = false) ∧
    keeps (noted ++ [.fio, .pwr, .free]) s t) ∧
  (s.pwr.lost.testBit (8 + k) = true → ∃ t, exec (.fieldDomainReturn k) s = .next t ∧ t.pwr.lost.testBit (8 + k) = false ∧
    keeps (noted ++ [.pwr]) s t) ∧
  (∀ code, s.fieldRuns = true → 1 ≤ code → code ≤ 3 →
    (∀ g ∈ groupsOf k, (nth {} g s.fio.groups).inZero = true ∧ (nth {} g s.fio.groups).back = false) →
    ∃ t, exec (.fieldSupplyOutOfRange k code) s = .next t ∧ t.fio.outs = s.fio.outs ∧ t.fio.ins = s.fio.ins ∧ keeps (noted ++ [.fio]) s t) ∧
  (∀ code, s.fieldRuns = true → 1 ≤ code → code ≤ 3 → s.supplyIsOut k = false → ∃ t, exec (.fieldSupplyOutOfRange k code) s = .next t ∧ occurred (111 + k) s t ∧
    (∀ g ∈ groupsOf k, (nth {} g s.fio.groups).inZero = false → ∀ c ∈ outsOf g, (nth {} c t.fio.outs).driven = false) ∧ keeps (noted ++ [.fio]) s t) ∧
  (s.fieldRuns = true → s.pwr.lost.testBit (8 + k) = false → s.supplyIsOut k = true →
    ∃ t, exec (.fieldSupplyInRange k) s = .next t ∧ occurred (114 + k) s t ∧
      (∀ g ∈ groupsOf k, (nth {} g t.fio.groups).back = (nth {} g s.fio.groups).inZero) ∧
      t.fio.ins = s.fio.ins ∧ t.fio.outs = s.fio.outs ∧ keeps (noted ++ [.fio]) s t)

/-- BACKPLANE_SUPPLY_LOW, _HIGH and _RESTORED (R646): events 1, 2 and 3, each once at the crossing of its threshold. -/
def backplaneSupplyEvents : Prop := ∀ (s : State) (mv : Nat), s.dead = false →
  (mv < 16800 → s.pwr.low = false → ∃ t, exec (.backplaneSupplyLow mv) s = .next t ∧ occurred 1 s t ∧
    t.pwr = { s.pwr with mv := mv, low := true, high := false } ∧ keeps (noted ++ [.pwr]) s t) ∧
  (mv < 16800 → s.pwr.low = true → ∃ t, exec (.backplaneSupplyLow mv) s = .next t ∧ keeps [.sent] s t) ∧
  (137500 < mv → s.pwr.high = false → ∃ t, exec (.backplaneSupplyHigh mv) s = .next t ∧ occurred 2 s t ∧
    t.pwr = { s.pwr with mv := mv, low := false, high := true } ∧ keeps (noted ++ [.pwr]) s t) ∧
  (137500 < mv → s.pwr.high = true → ∃ t, exec (.backplaneSupplyHigh mv) s = .next t ∧ keeps [.sent] s t) ∧
  (16800 ≤ mv → mv ≤ 137500 → (s.pwr.low = true ∨ s.pwr.high = true) →
    ∃ t, exec (.backplaneSupplyRestored mv) s = .next t ∧ occurred 3 s t ∧
      t.pwr = { s.pwr with mv := mv, low := false, high := false } ∧ keeps (noted ++ [.pwr]) s t)

/-- The field supplies (R371, R372, R642, R643) and the backplane supply (R646). -/
def Obligations.SupplyEvents : Prop := fieldSupplyEvents ∧ backplaneSupplyEvents

/-- TEMPERATURE_HIGH, TEMPERATURE_LIMIT, BOARD_TEMPERATURE_FALL (R661), PRESENCE_MATED, INSERTION_COMPLETED (R657), EXTRACTION_REQUESTED and
EJECTOR_CLOSED (R659). -/
def Obligations.TemperatureAndHotPlug : Prop := ∀ s : State,
  (∀ v : Int, s.dead = false → 700 < v → s.pwr.over70 = false → ∃ t, exec (.temperatureHigh v) s = .next t ∧ occurred 25 s t ∧
    t.pwr.over70 = true ∧ t.pwr.temp = v ∧ keeps (noted ++ [.pwr]) s t) ∧
  (∀ v : Int, s.dead = false → 700 < v → s.pwr.limit = false → ∃ t, exec (.temperatureLimit v) s = .next t ∧ occurred 26 s t ∧
    t.pwr.limit = true ∧ t.pwr.temp = v ∧ keeps (noted ++ [.pwr]) s t) ∧
  (∀ v : Int, s.dead = false → v ≤ 700 → ∃ t, exec (.boardTemperatureFall v) s = .next t ∧ t.pwr.over70 = false ∧ t.pwr.limit = false ∧
    t.pwr.temp = v ∧ (∀ m, s.pwr.tempMax = some m → t.pwr.tempMax = some (max m v)) ∧ keeps [.sent, .pwr] s t) ∧
  (∃ t, exec .presenceMated s = .next t ∧ t.pwr = { s.pwr with present := true, inputSwitch := true, precharge := false } ∧
    keeps [.sent, .pwr] s t) ∧
  (s.pwr.inputSwitch = true → s.pwr.precharge = false → ∃ t, exec .insertionCompleted s = .next t ∧ occurred 27 s t ∧
    t.pwr = { s.pwr with precharge := true } ∧ keeps (noted ++ [.pwr]) s t) ∧
  (s.dead = false → s.pwr.ejectOpen = false → ∃ t, exec .extractionRequested s = .next t ∧ occurred 28 s t ∧
    t.pwr = { s.pwr with ejectOpen := true } ∧
    t.pair = { s.pair with handOver := s.pair.handOver || (s.sys.mode == .run && s.partnerReady && s.par 0x2072 1 == 1 && !s.overtaken) } ∧
    keeps (noted ++ [.pwr, .pair]) s t) ∧
  (s.dead = false → ∃ t, exec .ejectorClosed s = .next t ∧ t.pwr = { s.pwr with ejectOpen := false } ∧ keeps [.sent, .pwr] s t)

/-! ### 03 Lanes, voter, self-test -/

/-- QUARANTINE, BULK_COPY_END, JOIN, READMISSION_FAILED (R154 to R158), READMISSION_START_TEST_END (R162). -/
def Obligations.ReadmissionSteps : Prop := ∀ (s : State) (l : LaneId), s.dead = false → s.voter.radmLane = some l →
  (s.sys.mode = .run → s.voter.radmStep = .none → s.copyEngine = true → ∃ t, exec .quarantine s = .next t ∧
    (t.lane l).stopped = true ∧ (t.lane l).fastRun = false ∧ (t.lane l).vitalRun = false ∧ (t.lane l).gateOpen = false ∧
    (t.lane l).mem = (s.lane l).mem ∧ (∀ k, k ≠ l → t.lane k = s.lane k) ∧
    t.voter = { s.voter with radmStep := .quarantine, rcopy := 0, trialBad := false } ∧ t.ite = { s.ite with shadow := [] } ∧
    keeps [.lanes, .voter, .ite, .sent] s t) ∧
  (s.copying = true → s.copyEngine = true →
    (∃ t, exec (.bulkCopyEnd .moved) s = .next t ∧ (t.lane l).mem = (s.lane s.sourceLane).mem ∧ (t.lane l).ring = (s.lane s.sourceLane).ring ∧
      (∀ k, k ≠ l → t.lane k = s.lane k) ∧ t.voter = { s.voter with radmStep := .waitJoin, rcopy := s.voter.stsize } ∧
      keeps [.lanes, .voter, .sent] s t) ∧
    (∃ t, exec (.bulkCopyEnd .differ) s = .next t ∧ occurred 45 s t ∧ (s.sys.safePend = none → t.sys.safePend = some 45) ∧
      keeps (noted ++ [.sys]) s t) ∧
    (∀ g, (s.lane g).colour = .green → ∃ t, exec (.bulkCopyEnd (.brokenPair g)) s = .next t ∧ occurred 52 s t ∧
      (t.lane g).pend ≠ none ∧ (∀ k, k ≠ g → t.lane k = s.lane k) ∧ keeps (noted ++ [.lanes, .totals]) s t)) ∧
  (s.mayJoin = true → ∃ t, exec .joinLane s = .next t ∧ (t.lane l).stopped = false ∧ (t.lane l).mem = zeroWork s.app.sections (s.lane s.sourceLane).mem ∧
    (t.lane l).accF = {} ∧ (t.lane l).accV = {} ∧ (t.lane l).accE = {} ∧ (∀ k, k ≠ l → t.lane k = s.lane k) ∧
    t.voter = { s.voter with radmStep := .trial, trialBad := false } ∧ keeps [.lanes, .voter, .sent] s t) ∧
  (s.sys.mode = .run → s.frame.vitalDue = true → s.voter.radmStep ≠ .trial → s.voter.amberCycle + 3 ≤ s.frame.cycle →
    ∃ t, exec .readmissionFailed s = .next t ∧ occurred 54 s t ∧ t.lane l = { s.lane l with pend := some .slate } ∧
      (∀ k, k ≠ l → t.lane k = s.lane k) ∧ keeps (noted ++ [.lanes]) s t) ∧
  ((s.sys.mode = .configure ∨ s.sys.mode = .standby) → (s.voter.radmStep = .none ∨ s.voter.radmStep = .startTest) →
    (∃ t, exec (.readmissionStartTestEnd true) s = .next t ∧ t.lane l = { s.lane l with checks := 0, stopped := false } ∧
      (∀ k, k ≠ l → t.lane k = s.lane k) ∧ t.voter = { s.voter with radmStep := .matching, trialBad := false } ∧
      keeps [.lanes, .voter, .sent] s t) ∧
    ((s.lane l).colour = .amber → ∃ t, exec (.readmissionStartTestEnd false) s = .next t ∧
      t.lane l = { s.lane l with pend := some .slate } ∧ (∀ k, k ≠ l → t.lane k = s.lane k) ∧ keeps [.lanes, .sent] s t))

/-- SELF_TEST_START, SELF_TEST_INJECTION (R167 to R170), START_SELF_TEST_NOW (R172). -/
def Obligations.SelfTestSteps : Prop := ∀ s : State,
  (s.dead = false → (s.sys.mode = .run ∨ s.sys.mode = .configure ∨ s.sys.mode = .standby) → s.selfTestDue = true →
    ∃ t, exec .selfTestStart s = .next t ∧
      t.voter = { s.voter with stRunning := true, stFail := false, stDone := 0, stStart := s.frame.tick } ∧ keeps [.voter, .sent] s t) ∧
  (s.dead = false → s.voter.stRunning = true → s.voter.lost = false →
    (s.voter.stDone + 1 < 441 → ∃ t, exec (.selfTestInjection true) s = .next t ∧
      t.voter = { s.voter with stDone := s.voter.stDone + 1 } ∧ keeps [.voter, .sent] s t) ∧
    (s.voter.stDone + 1 = 441 → ∃ t, exec (.selfTestInjection true) s = .next t ∧ occurred 55 s t ∧ t.voter.stRunning = false ∧
      t.voter.stResult = 0 ∧ t.voter.stLastStart = s.voter.stStart ∧ t.voter.stCompleted = add32 s.voter.stCompleted 1 ∧
      t.voter.lost = false ∧ keeps (noted ++ [.voter]) s t) ∧
    (∃ t, exec (.selfTestInjection false) s = .next t ∧ occurred 56 s t ∧ t.voter.stRunning = false ∧ t.voter.lost = true ∧
      t.voter.stResult = 1 + s.voter.stDone ∧ (s.sys.mode = .run → s.sys.safePend = none → t.sys.safePend = some 56) ∧
      keeps (noted ++ [.voter, .sys]) s t)) ∧
  (∀ (r : Req) (v : Nat), mayWrite r 1 s → s.sys.mode ≠ .boot → s.sys.mode ≠ .recovery →
    (v = 1 → s.voter.stRunning = false → ∃ t, exec (.startSelfTestNow r v) s = .next t ∧ replied r 2 0 t ∧
      t.voter = { s.voter with stRunning := true, stFail := false, stDone := 0, stStart := s.frame.tick } ∧
      keeps (replyParts r.carrier ++ [.voter]) s t) ∧
    (v ≠ 1 → ∃ t, exec (.startSelfTestNow r v) s = .next t ∧ replied r 2 0x0101 t ∧ keeps (replyParts r.carrier) s t) ∧
    (v = 1 → s.voter.stRunning = true → ∃ t, exec (.startSelfTestNow r v) s = .next t ∧ replied r 2 0x0501 t ∧
      keeps (replyParts r.carrier) s t))

/-- LANE_POWER_DOWN, LANE_POWER_DOWN_COMPLETED (R164), LANE_REGION_RESET, LANE_REGION_RESET_END (R165, R166), GATE_SELF_CLOSE (R151). -/
def Obligations.LanePowerAndReset : Prop := ∀ s : State,
  (∀ (r : Req) (v : Nat), mayWrite r 1 s → 1 ≤ v → v ≤ 3 → (s.sys.mode = .configure ∨ s.sys.mode = .standby ∨ s.sys.mode = .run) →
    (s.capacity = 3 → ∃ t, exec (.lanePowerDown r v) s = .next t ∧ replied r 2 0 t ∧
      t.lane (laneNamed v) = { s.lane (laneNamed v) with pend := some .slate, work := .poweringDown } ∧
      (∀ k, k ≠ laneNamed v → t.lane k = s.lane k) ∧ keeps (replyParts r.carrier ++ [.lanes, .params]) s t) ∧
    ((s.lane (laneNamed v)).colour = .slate → s.lanes.count (fun x => x.colour == .amber) = 0 →
      s.lanes.count (fun x => x.work == .resetting) = 0 → (s.lane (laneNamed v)).work ≠ .poweringDown →
      ∃ t, exec (.laneRegionReset r v) s = .next t ∧ replied r 2 0 t ∧
        t.lane (laneNamed v) = { s.lane (laneNamed v) with work := .resetting, powered := true, faults := [] } ∧
        (∀ k, k ≠ laneNamed v → t.lane k = s.lane k) ∧ (∀ m ∈ laneMasters (laneNamed v), m ∉ t.fw.frozen) ∧
        t.pwr.lost.testBit (laneNamed v).num = false ∧ keeps (replyParts r.carrier ++ [.lanes, .params, .pwr, .fw]) s t)) ∧
  (∀ l : LaneId, s.dead = false → (s.lane l).work = .poweringDown → (s.lane l).colour = .slate →
    ∃ t, exec (.lanePowerDownCompleted l) s = .next t ∧ occurred 58 s t ∧ t.lane l = { s.lane l with work := .none, powered := false } ∧
      t.pwr.domains.testBit l.num = false ∧ (∀ k, k ≠ l → t.lane k = s.lane k) ∧ keeps (noted ++ [.lanes, .pwr]) s t) ∧
  (∀ l : LaneId, s.dead = false → (s.lane l).work = .resetting →
    (∃ t, exec (.laneRegionResetEnd l false) s = .next t ∧ occurred 54 s t ∧ t.lane l = { s.lane l with work := .none } ∧
      (∀ k, k ≠ l → t.lane k = s.lane k) ∧ keeps (noted ++ [.lanes]) s t) ∧
    ((s.sys.mode = .configure ∨ s.sys.mode = .standby ∨ s.sys.mode = .run) → ∃ t, exec (.laneRegionResetEnd l true) s = .next t ∧
      occurred (32 + l.num) s t ∧ (t.lane l).colour = .amber ∧ (t.lane l).mem = s.loadedMem ∧ (t.lane l).gateOpen = false ∧
      t.voter.radmLane = some l ∧ (∀ k, k ≠ l → t.lane k = s.lane k) ∧ keeps (noted ++ [.lanes, .voter]) s t) ∧
    ((s.sys.mode = .boot ∨ s.sys.mode = .recovery ∨ s.sys.mode = .safe) → ∃ t, exec (.laneRegionResetEnd l true) s = .next t ∧
      t.lane l = { s.lane l with work := .none } ∧ keeps [.lanes, .sent] s t)) ∧
  (∀ l : LaneId, s.dead = false → (s.lane l).gateOpen = true → ∃ t, exec (.gateSelfClose l) s = .next t ∧ occurred 57 s t ∧
    t.lane l = { s.lane l with gateOpen := false, gateNext := false, gateFault := true } ∧ t.voter = { s.voter with lost := true } ∧
    (s.sys.mode = .run → s.sys.safePend = none → t.sys.safePend = some 57) ∧ (∀ k, k ≠ l → t.lane k = s.lane k) ∧
    keeps (noted ++ [.lanes, .voter, .sys]) s t)

/-! ### 07 The field controller -/

/-- DARK_PULSE (R362), GROUP_TEST (R363), LIGHT_PULSE (R364), with R365 and R366. -/
def Obligations.FieldPulses : Prop := ∀ s : State, s.dead = false → s.fieldTests = true →
  (∀ c, c < s.fio.outs.length → s.inSlot (40 * c + 8) = true → (nth {} c s.fio.outs).driven = true →
    (∀ b, ∃ t, exec (.darkPulse c (some b)) s = .next t ∧
      nth {} c t.fio.outs = { nth {} c s.fio.outs with pulse := true, pulseHigh := b } ∧
      (∀ d, d ≠ c → nth {} d t.fio.outs = nth {} d s.fio.outs) ∧ t.fio.ins = s.fio.ins ∧ t.fio.groups = s.fio.groups ∧
      keeps [.fio, .sent] s t) ∧
    (∃ t, exec (.darkPulse c none) s = .next t ∧ t.fio = { s.fio with pcnt := satAdd 0xFFFFFFFF s.fio.pcnt 1 } ∧ keeps [.fio, .sent] s t)) ∧
  (∀ g, g < s.fio.groups.length → s.inSlot (970 + 8 * g) = true → (nth {} g s.fio.groups).driven = true →
    (∀ b, ∃ t, exec (.groupTest g (some b)) s = .next t ∧
      nth {} g t.fio.groups = { nth {} g s.fio.groups with test := true, testClosed := b } ∧
      (∀ d, d ≠ g → nth {} d t.fio.groups = nth {} d s.fio.groups) ∧ t.fio.ins = s.fio.ins ∧ t.fio.outs = s.fio.outs ∧
      keeps [.fio, .sent] s t) ∧
    (∃ t, exec (.groupTest g none) s = .next t ∧ t.fio = { s.fio with pcnt := satAdd 0xFFFFFFFF s.fio.pcnt 1 } ∧ keeps [.fio, .sent] s t)) ∧
  (∀ c, c < s.fio.outs.length → s.inSlot (40 * c + 28) = true → s.par (0x6100 + c) 1 = 1 → (nth {} c s.fio.outs).driven = false →
    outHeld (nth {} c s.fio.outs) (nth {} (groupOfOut c) s.fio.groups) = false →
    ((nth {} c s.fio.outs).lightRetry = none → ∃ t, exec (.lightPulse c (some true)) s = .next t ∧ t.fio = s.fio ∧ keeps [.sent] s t) ∧
    ((nth {} c s.fio.outs).lightRetry = none → ∃ t, exec (.lightPulse c (some false)) s = .next t ∧ occurred 99 s t ∧
      (nth {} c t.fio.outs).lightRetry = some s.frame.tick ∧ t.fio.lastFault = some (4, .output, c) ∧ keeps (noted ++ [.fio]) s t) ∧
    ((nth {} c s.fio.outs).lightRetry ≠ none → (nth {} c s.fio.outs).retired = false → ∃ t, exec (.lightPulse c (some false)) s = .next t ∧
      occurred 106 s t ∧ (nth {} c t.fio.outs).retired = true ∧ keeps (noted ++ [.fio]) s t) ∧
    (∃ t, exec (.lightPulse c none) s = .next t ∧ t.fio = { s.fio with pcnt := satAdd 0xFFFFFFFF s.fio.pcnt 1 } ∧ keeps [.fio, .sent] s t))

/-- CHANNEL_OVERLOAD, GROUP_OVERLOAD, OPEN_LOAD (R366, R368), OPEN_LOAD_CLEARED (R379), COUPLER_FAULT (R343, R346), OUTPUT_HOLD_EXPIRY (R368). -/
def Obligations.FieldFaults : Prop := ∀ s : State, s.dead = false →
  (∀ c, s.fieldRuns = true → (nth {} c s.fio.outs).driven = true → (nth {} c s.fio.outs).retired = false →
    ((nth {} c s.fio.outs).onRetry = none → ∃ t, exec (.channelOverload c) s = .next t ∧ occurred 101 s t ∧
      (nth {} c t.fio.outs).driven = false ∧ (nth {} c t.fio.outs).hold = some (s.frame.tick + 400) ∧ (nth {} c t.fio.outs).overload = true ∧
      t.fio.ins = s.fio.ins ∧ t.fio.groups = s.fio.groups ∧ (∀ d, d ≠ c → nth {} d t.fio.outs = nth {} d s.fio.outs) ∧
      keeps (noted ++ [.fio]) s t) ∧
    ((nth {} c s.fio.outs).onRetry ≠ none → (nth {} c s.fio.outs).hold = none → ∃ t, exec (.channelOverload c) s = .next t ∧
      occurred 106 s t ∧ (nth {} c t.fio.outs).retired = true ∧ keeps (noted ++ [.fio]) s t)) ∧
  (∀ g, s.fieldRuns = true → (nth {} g s.fio.groups).driven = true → (nth {} g s.fio.groups).retired = false →
    (nth {} g s.fio.groups).onRetry = none → ∃ t, exec (.groupOverload g) s = .next t ∧ occurred 102 s t ∧
      (nth {} g t.fio.groups).driven = false ∧ (nth {} g t.fio.groups).hold = some (s.frame.tick + 400) ∧
      (∀ c ∈ outsOf g, (nth {} c t.fio.outs).driven = false) ∧ t.fio.ins = s.fio.ins ∧ keeps (noted ++ [.fio]) s t) ∧
  (∀ c, s.fieldRuns = true → (nth {} c s.fio.outs).driven = true → (nth {} c s.fio.outs).openLoad = false →
    ∃ t, exec (.openLoad c) s = .next t ∧ occurred 103 s t ∧ nth {} c t.fio.outs = { nth {} c s.fio.outs with openLoad := true } ∧
      (∀ d, d ≠ c → nth {} d t.fio.outs = nth {} d s.fio.outs) ∧ t.fio.ins = s.fio.ins ∧ t.fio.groups = s.fio.groups ∧
      keeps (noted ++ [.fio]) s t) ∧
  (∀ c, ∃ t, exec (.openLoadCleared c) s = .next t ∧ (nth {} c t.fio.outs).openLoad = false ∧
    (∀ d, d ≠ c → nth {} d t.fio.outs = nth {} d s.fio.outs) ∧ t.fio.ins = s.fio.ins ∧ t.fio.groups = s.fio.groups ∧
    keeps [.fio, .sent] s t) ∧
  (∀ i, i < s.fio.ins.length → s.fieldRuns = true → (nth {} i s.fio.ins).retired = false →
    ((nth {} i s.fio.ins).coupler = none → ∃ t, exec (.couplerFault (.input i)) s = .next t ∧ occurred 100 s t ∧
      (nth {} i t.fio.ins).valid = false ∧ (nth {} i t.fio.ins).data = false ∧ (nth {} i t.fio.ins).coupler = some s.couplerTick ∧
      (if s.frame.committed then t.img = s.img else t.img.valid.testBit i = false ∧ t.img.chans.testBit i = false) ∧ t.fio.outs = s.fio.outs ∧ keeps (noted ++ [.fio, .img]) s t) ∧
    ((nth {} i s.fio.ins).coupler = some (s.couplerTick - 1) → 0 < s.couplerTick → ∃ t, exec (.couplerFault (.input i)) s = .next t ∧
      occurred 105 s t ∧ (nth {} i t.fio.ins).retired = true ∧ keeps (noted ++ [.fio, .img]) s t)) ∧
  (∀ c, s.fieldRuns = true → (nth {} c s.fio.outs).retired = false → (nth {} c s.fio.outs).coupler = none →
    ∃ t, exec (.couplerFault (.output c)) s = .next t ∧ occurred 100 s t ∧
    (nth {} c t.fio.outs).driven = false ∧ t.img = s.img ∧ keeps (noted ++ [.fio]) s t) ∧
  (∀ g, s.fieldRuns = true → (nth {} g s.fio.groups).retired = false → (nth {} g s.fio.groups).coupler = none →
    ∃ t, exec (.couplerFault (.ret g)) s = .next t ∧ occurred 100 s t ∧
    (nth {} g t.fio.groups).driven = false ∧ t.img = s.img ∧ keeps (noted ++ [.fio]) s t) ∧
  (∀ c, c < s.fio.outs.length → ∃ t, exec (.outputHoldExpiry c) s = .next t ∧
    nth {} c t.fio.outs = { nth {} c s.fio.outs with hold := endHold s.frame.tick (nth {} c s.fio.outs).hold } ∧
    (∀ d, d ≠ c → nth {} d t.fio.outs = nth {} d s.fio.outs) ∧ t.fio.ins = s.fio.ins ∧ t.fio.groups = s.fio.groups ∧ keeps [.fio, .sent] s t)

/-- RECOVERY_PRESS_JAMMED (R372), BLANKING_END (R377), FIELD_REGION_RESET and its completion (R378), LOCKSTEP_MISMATCH (R344). -/
def Obligations.FieldRegion : Prop := ∀ s : State, s.dead = false →
  (∀ g p, g < s.fio.groups.length → (nth {} g s.fio.groups).filt.st = true → (nth {} g s.fio.groups).jam = false →
    (nth {} g s.fio.groups).pend ≠ none → (nth {} g s.fio.groups).press = some p → p + 12000 ≤ s.frame.tick →
    ∃ t, exec (.recoveryPressJammed g) s = .next t ∧ occurred 118 s t ∧ nth {} g t.fio.groups = { nth {} g s.fio.groups with jam := true } ∧
      (∀ d, d ≠ g → nth {} d t.fio.groups = nth {} d s.fio.groups) ∧ t.fio.ins = s.fio.ins ∧ t.fio.outs = s.fio.outs ∧
      keeps (noted ++ [.fio]) s t) ∧
  (s.fio.blank = true → s.fio.blankUntil ≤ s.frame.tick → ∃ t, exec .blankingEnd s = .next t ∧ t.fio = { s.fio with blank := false } ∧
    keeps [.fio, .sent] s t) ∧
  (∀ (r : Req), mayWrite r 1 s → (s.sys.mode = .configure ∨ s.sys.mode = .standby) → s.fio.reset ≠ .running →
    ∃ t, exec (.fieldRegionReset r 1) s = .next t ∧ replied r 2 0 t ∧ t.fio.reset = .running ∧ outputsOff t ∧
      (∀ x ∈ t.fio.ins, x.valid = false ∧ x.data = false) ∧ keeps (replyParts r.carrier ++ [.fio, .evt]) s t) ∧
  (∀ bi bo br, s.fio.reset = .running → ∃ t, exec (.fieldRegionResetCompleted bi bo br) s = .next t ∧ occurred 120 s t ∧
    t.fio.reset = .done ∧ keeps (noted ++ [.fio]) s t) ∧
  (∃ t, exec .lockstepMismatch s = .next t ∧ t.fio.lost = true ∧ t.fio.running = false ∧ outputsOff t ∧
    ((s.sys.mode = .run ∨ s.sys.mode = .configure ∨ s.sys.mode = .standby) → s.sys.safePend = none → t.sys.safePend ≠ none) ∧
    keeps (noted ++ [.fio, .sys, .free]) s t)

/-! ### 06 Machine-safety functions -/

/-- DISCREPANCY_EXPIRY (R307, R308), TWO_HAND_CONTACT_EXPIRY (R324), PAIR_WINDOW_EXPIRY and MUTING_LIMIT_EXPIRY (R321). -/
def Obligations.SafetyFaultExpiries : Prop := ∀ (s : State) (i : Nat) (c : SfInst),
  (sfuReady s i [1, 2, 3, 5] c → (sfOf s.sfuW i).state ≠ sfFAULT → tmDue (sfOf s.sfuW i).d c.disc = true →
    ∃ t, exec (.discrepancyExpiry i) s = .next t ∧ sfuFaulted s t i ((faultAhead s.senv c).getD (if (sfOf s.sfuW i).kind = .demand then 1 else 2)) ∧ sfuOthers s t i ∧
      keeps [.sfuW, .sent] s t) ∧
  (sfuReady s i [4] c → (sfOf s.sfuW i).state ≠ sfFAULT →
    (tmDue (sfOf s.sfuW i).d c.disc = true ∨ tmDue (sfOf s.sfuW i).f1 c.disc = true) →
    ∃ t, exec (.twoHandContactExpiry i) s = .next t ∧ sfuFaulted s t i ((faultAhead s.senv c).getD 8) ∧ (faultAhead s.senv c = none → (sfOf t.sfuW i).aux = 0) ∧ sfuOthers s t i ∧
      keeps [.sfuW, .sent] s t) ∧
  (sfuReady s i [6] c → (sfOf s.sfuW i).state = sfARMED → tmDue (sfOf s.sfuW i).d c.p1 = true →
    ((sfOf s.sfuW i).c1.st = false ∨ (sfOf s.sfuW i).c2.st = false) →
    ∃ t, exec (.pairWindowExpiry i) s = .next t ∧ sfuFaulted s t i ((faultAhead s.senv c).getD 9) ∧ sfuOthers s t i ∧ keeps [.sfuW, .sent] s t) ∧
  (sfuReady s i [6] c → (sfOf s.sfuW i).state = sfMUTED → tmDue (sfOf s.sfuW i).p c.p2 = true → spWf {} s.sfuW.states = true →
    ∃ t, exec (.mutingLimitExpiry i) s = .next t ∧ sfuFaulted s t i ((faultAhead s.senv c).getD 10) ∧ (sfOf t.sfuW c.link).muted = false ∧
      (∀ j, j ≠ i → j ≠ c.link → sfOf t.sfuW j = sfOf s.sfuW j) ∧ keeps [.sfuW, .sent] s t)

/-- SYNCHRONISATION_WINDOW_EXPIRY (R325), CLEAR_TIME_EXPIRY (R326), STOP_DELAY_EXPIRY (R328), SWITCH_ON_WINDOW_EXPIRY (R330),
SWITCH_OFF_WINDOW_EXPIRY (R331), RESET_JAMMED (R311). -/
def Obligations.SafetyTimerExpiries : Prop := ∀ (s : State) (i : Nat) (c : SfInst),
  (sfuReady s i [4] c → (sfOf s.sfuW i).state = sfARMED → tmDue (sfOf s.sfuW i).p 2000 = true →
    ∃ t, exec (.synchronisationWindowExpiry i) s = .next t ∧
      (faultAhead s.senv c = none → (sfOf t.sfuW i).state = sfWAIT ∧ (sfOf t.sfuW i).permit = false ∧
        (sfOf t.sfuW i).p = tmStop ∧ (sfOf t.sfuW i).aux = 0) ∧
      (∀ code, faultAhead s.senv c = some code → sfuFaulted s t i code) ∧ sfuOthers s t i ∧ keeps [.sfuW, .sent] s t) ∧
  (sfuReady s i [5] c → (sfOf s.sfuW i).state = sfOBSTRUCTED → tmDue (sfOf s.sfuW i).p c.p1 = true →
    ∃ t, exec (.clearTimeExpiry i) s = .next t ∧
      sfOf t.sfuW i = { sfOf s.sfuW i with p := tmStop, aux := setBit 0 true (sfOf s.sfuW i).aux } ∧ sfuOthers s t i ∧
      t.sfuW.diag = s.sfuW.diag ∧ keeps [.sfuW, .sent] s t) ∧
  (sfuReady s i [7] c → (sfOf s.sfuW i).state = sfSTOPPING → tmDue (sfOf s.sfuW i).p c.p1 = true →
    ∃ t, exec (.stopDelayExpiry i) s = .next t ∧
      (faultAhead s.senv c = none → (sfOf t.sfuW i).state = sfTRIPPED ∧ (sfOf t.sfuW i).req = false ∧ (sfOf t.sfuW i).p = tmStop) ∧
      (∀ code, faultAhead s.senv c = some code → sfuFaulted s t i code) ∧ sfuOthers s t i ∧ keeps [.sfuW, .sent] s t) ∧
  (sfuReady s i [7] c → ((sfOf s.sfuW i).state = sfACTIVE ∨ (sfOf s.sfuW i).state = sfSTOPPING) → windowMissed c (sfOf s.sfuW i) = true →
    ∃ t, exec (.switchOnWindowExpiry i) s = .next t ∧ sfuFaulted s t i ((faultAhead s.senv c).getD 6) ∧ sfuOthers s t i ∧ keeps [.sfuW, .sent] s t) ∧
  (sfuReady s i [7] c → (sfOf s.sfuW i).state = sfTRIPPED → windowMissed c (sfOf s.sfuW i) = true →
    ∃ t, exec (.switchOffWindowExpiry i) s = .next t ∧ sfuFaulted s t i ((faultAhead s.senv c).getD 7) ∧ sfuOthers s t i ∧ keeps [.sfuW, .sent] s t) ∧
  (∀ k, s.dead = false → s.sfuRuns = true → s.sfuW.checkers[i]? = some k → k.pressing = true → k.filt.st = true → k.jammed = false →
    k.r + 12000 ≤ s.frame.tick → ∃ t, exec (.resetJammed i) s = .next t ∧
      t.sfuW.checkers[i]? = some { k with jammed := true, jams := add32 k.jams 1 } ∧ t.sfuW.states = s.sfuW.states ∧
      t.sfuW.diag.head? = some (diagRecord s.frame.tick (0x80 + i) 5 0 0) ∧ keeps [.sfuW, .sent] s t)

/-! ### 04 Station elements -/

/-- THROW_TIME_EXPIRY (R186), PROVING_TIME_EXPIRY (R190), CLEAR_DELAY_EXPIRY (R191), WARNING_TIME_EXPIRY and MOVEMENT_LIMIT_EXPIRY (R194),
CLOSING_LIMIT_EXPIRY (R196), RELEASE_WINDOW_EXPIRY (R198). -/
def Obligations.ElementTimers : Prop := ∀ (s : State) (slot : Nat),
  (timerDue s slot 1 [3, 4] → ∃ t, exec (.throwTimeExpiry slot) s = .next t ∧ elemTook s t slot 6 ∧ occurred 75 s t ∧
    (elemOf t.vitW slot).running = false ∧ (elemOf t.vitW slot).command = (detectedElem s slot).command ∧
    keeps (noted ++ [.vitW, .lanes, .ite]) s t) ∧
  (timerDue s slot 2 [2, 4] → ∃ t, exec (.provingTimeExpiry slot) s = .next t ∧ elemTook s t slot 5 ∧ occurred 75 s t ∧
    (elemOf t.vitW slot).running = false ∧ (elemOf t.vitW slot).command = 0 ∧ keeps (noted ++ [.vitW, .lanes, .ite]) s t) ∧
  (timerDue s slot 3 [2, 5] → reportedClear (detectedElem s slot) = true → ∃ t, exec (.clearDelayExpiry slot) s = .next t ∧
    elemTook s t slot 1 ∧ (elemOf t.vitW slot).running = false ∧ keeps (noted ++ [.vitW, .lanes, .ite]) s t) ∧
  (timerDue s slot 4 [2] → ∃ t, exec (.warningTimeExpiry slot) s = .next t ∧ elemTook s t slot 3 ∧
    (elemOf t.vitW slot).running = true ∧ (elemOf t.vitW slot).timer = 0 ∧ (elemOf t.vitW slot).command = cmdDown ∧
    keeps (noted ++ [.vitW, .lanes, .ite]) s t) ∧
  (timerDue s slot 4 [3, 5] → ∃ t, exec (.movementLimitExpiry slot) s = .next t ∧ elemTook s t slot 6 ∧ occurred 75 s t ∧
    (elemOf t.vitW slot).running = false ∧ (elemOf t.vitW slot).command = cmdDown ∧ keeps (noted ++ [.vitW, .lanes, .ite]) s t) ∧
  (timerDue s slot 5 [4] → ∃ t, exec (.closingLimitExpiry slot) s = .next t ∧ elemTook s t slot 5 ∧ occurred 75 s t ∧
    (elemOf t.vitW slot).running = false ∧ keeps (noted ++ [.vitW, .lanes, .ite]) s t) ∧
  (timerDue s slot 6 [3] → ∃ t, exec (.releaseWindowExpiry slot) s = .next t ∧ elemTook s t slot 1 ∧ (elemOf t.vitW slot).running = false ∧
    (∀ q ∈ keyReqs s.tables (defOf s.tables slot) false, q ∈ t.ite.lockReqs) ∧ keeps (noted ++ [.vitW, .lanes, .ite]) s t)

/-- An element command of a code is taken into the queue of the next vital cycle, from a telegram and from the dictionary. -/
def takesCommand (code : Nat) (i : ElemOp → Instr) : Prop := ∀ (s : State) (o : ElemOp),
  s.sys.mode = .run → commandValid s.tables (elemCmdOf (elemWord code o.slot o.arg) (if o.req = none then o.source else .dictionary)) = true →
  (s.dead = false → o.req = none → s.sourceFresh o.source = true → ∃ t, exec (i o) s = .next t ∧
    t.ite = { s.ite with cmds := s.ite.cmds ++ [elemCmdOf (elemWord code o.slot o.arg) o.source] } ∧ keeps [.ite, .sent] s t) ∧
  (∀ r, o.req = some r → mayWrite r 1 s →
    (s.ite.cmdBusy = false → ∃ t, exec (i o) s = .next t ∧ replied r 2 0 t ∧
      t.ite = { s.ite with cmds := s.ite.cmds ++ [elemCmdOf (elemWord code o.slot o.arg) .dictionary], cmdBusy := true } ∧
      keeps (replyParts r.carrier ++ [.ite, .params]) s t) ∧
    (s.ite.cmdBusy = true → ∃ t, exec (i o) s = .next t ∧ replied r 2 0x0501 t ∧ keeps (replyParts r.carrier) s t))

/-- MOVE_POINT, BLOCK, UNBLOCK, PROVE_CLEAR, CLOSE_CROSSING, OPEN_CROSSING, RELEASE_DOORS, CLOSE_DOORS, KEY_RELEASE_REQUEST and
KEY_RELEASE_CANCEL (R201 to R205). -/
def Obligations.ElementCommands : Prop :=
  takesCommand 0x01 .movePoint ∧ takesCommand 0x10 .block ∧ takesCommand 0x11 .unblock ∧ takesCommand 0x20 .proveClear ∧
  takesCommand 0x30 .closeCrossing ∧ takesCommand 0x31 .openCrossing ∧ takesCommand 0x40 .releaseDoors ∧ takesCommand 0x41 .closeDoors ∧
  takesCommand 0x50 .keyReleaseRequest ∧ takesCommand 0x51 .keyReleaseCancel

/-- The judgement of a command by the handler (R185, R187, R202, R671). -/
def Obligations.CommandJudgement : Prop := ∀ (ts : TableSet) (v : Vital) (c : ElemCmd) (cyc : Nat),
  (c.code = 0x01 → ((elemOf v c.slot).has lockRESTART = true ∨ (elemOf v c.slot).has lockKEY = true ∨
    (elemOf v c.slot).has lockBLOCKED = true ∨ (elemOf v c.slot).holds ≠ 0 ∨ ownClear v (defOf ts c.slot) = false) →
    judgeCommand ts v c cyc = none) ∧
  (c.code = 0x01 → (elemOf v c.slot).has lockRESTART = false → (elemOf v c.slot).has lockKEY = false →
    (elemOf v c.slot).has lockBLOCKED = false → (elemOf v c.slot).holds = 0 → ownClear v (defOf ts c.slot) = true →
    ∃ e, judgeCommand ts v c cyc = some (e, []) ∧ e.command = c.arg ∧ e.lock = (elemOf v c.slot).lock) ∧
  (c.code = 0x30 → ∃ e, judgeCommand ts v c cyc = some (e, []) ∧ e.aux.testBit 0 = true ∧ e.lock = (elemOf v c.slot).lock) ∧
  (c.code = 0x31 → ∃ e, judgeCommand ts v c cyc = some (e, []) ∧ e.aux.testBit 0 = false ∧ e.lock = (elemOf v c.slot).lock) ∧
  (c.code = 0x10 → judgeCommand ts v c cyc = some (elemOf v c.slot, [{ slot := c.slot, bit := lockBLOCKED, set := true }])) ∧
  (c.code = 0x11 → judgeCommand ts v c cyc = some (elemOf v c.slot, [{ slot := c.slot, bit := lockBLOCKED, set := false }]))

/-! ### 05 The route engine -/

/-- SET_REQUEST, RELEASE_REQUEST, EMERGENCY_CANCEL (R236 to R239, R247, R248). -/
def Obligations.RouteRequests : Prop := ∀ (s : State) (o : RouteOp), s.sys.mode = .run →
  (s.dead = false → o.req = none → s.sourceFresh o.source = true →
    (routeStatus (routeWord 1 o.tag o.route) s = 0 → ∃ t, exec (.setRequest o) s = .next t ∧
      t.ite = { s.ite with setQ := insertReq (routeReq (routeWord 1 o.tag o.route) o.source s) s.ite.setQ } ∧ keeps [.ite, .sent] s t) ∧
    (routeStatus (routeWord 2 o.tag o.route) s = 0 → ∃ t, exec (.releaseRequest o) s = .next t ∧
      t.ite = { s.ite with cancelQ := insertReq (routeReq (routeWord 2 o.tag o.route) o.source s) s.ite.cancelQ } ∧ keeps [.ite, .sent] s t) ∧
    (routeStatus (routeWord 3 o.tag o.route) s = 0 → ∃ t, exec (.emergencyCancel o) s = .next t ∧
      t.ite = { s.ite with cancelQ := insertReq (routeReq (routeWord 3 o.tag o.route) o.source s) s.ite.cancelQ } ∧ keeps [.ite, .sent] s t) ∧
    (routeStatus (routeWord 1 o.tag o.route) s = 0x0402 → ∃ t, exec (.setRequest o) s = .next t ∧ occurred 71 s t ∧
      t.ite.setQ = s.ite.setQ ∧ t.ite.cancelQ = s.ite.cancelQ ∧ keeps (noted ++ [.ite, .outs]) s t)) ∧
  (∀ r, o.req = some r → mayWrite r 1 s →
    (routeStatus (routeWord 1 o.tag o.route) s = 0 → s.ite.dictBusy = false → ∃ t, exec (.setRequest o) s = .next t ∧ replied r 2 0 t ∧
      t.ite = { s.ite with
        setQ := insertReq (routeReq (routeWord 1 o.tag o.route) .dictionary s) s.ite.setQ, dictBusy := true } ∧
      keeps (replyParts r.carrier ++ [.ite, .params]) s t) ∧
    (routeStatus (routeWord 1 o.tag o.route) s = 0 → s.ite.dictBusy = true → ∃ t, exec (.setRequest o) s = .next t ∧
      replied r 2 0x0501 t ∧ keeps (replyParts r.carrier) s t))

/-- SET_REQUEST_EXPIRED (R245), SETTING_SUPERVISION (R267), TREL_EXPIRY (R215), TOVL_EXPIRY (R213, R268), RESTART_RELEASE_TIME_EXPIRY (R228). -/
def Obligations.RouteExpiries : Prop := ∀ s : State, s.dead = false → s.sys.mode = .run →
  (s.frame.passDue = true →
    (∃ t, exec .setRequestExpired s = .next t ∧ t.ite.setQ = s.ite.setQ.filter (fun q => !decide (q.latch + s.setLife ≤ s.frame.tick)) ∧
      ((∃ q ∈ s.ite.setQ, q.latch + s.setLife ≤ s.frame.tick) → occurred 70 s t) ∧ t.ite.cancelQ = s.ite.cancelQ ∧
      keeps (noted ++ [.ite, .outs]) s t) ∧
    (∀ r, ((routeOf s.vitW r).code = rsSETTING ∨ (routeOf s.vitW r).code = rsPROVING) → s.setLimit < (routeOf s.vitW r).setTicks →
      (routeOf s.vitW r).setRaised = false → ∃ t, exec (.settingSupervision r) s = .next t ∧ occurred 72 s t ∧
        routeOf t.vitW r = { routeOf s.vitW r with setRaised := true } ∧ (∀ k, k ≠ r → routeOf t.vitW k = routeOf s.vitW k) ∧
        t.vitW.elems = s.vitW.elems ∧ keeps (noted ++ [.vitW, .lanes]) s t) ∧
    (∀ r d, routeDef s.tables r = some d → (routeOf s.vitW r).code = rsTIMERELEASE → (routeOf s.vitW r).running = true →
      d.trel ≤ (routeOf s.vitW r).timer → s1Occupied s.tables s.vitW d = false → spWf {} s.vitW.routes = true →
      ∃ t, exec (.trelExpiry r) s = .next t ∧ occurred 67 s t ∧ routeOf t.vitW r = {} ∧
        (∀ k, k ≠ r → routeOf t.vitW k = routeOf s.vitW k) ∧ keeps (noted ++ [.vitW, .lanes]) s t) ∧
    (∀ r d, routeDef s.tables r = some d → ((routeOf s.vitW r).code = rsINUSE ∨ (routeOf s.vitW r).code = rsOVERLAPHELD) →
      (routeOf s.vitW r).alt ≠ 0 → (routeOf s.vitW r).tovlArmed = true → (routeOf s.vitW r).running = true →
      d.tovl ≤ (routeOf s.vitW r).timer → overlapOccupied s.tables s.vitW d (routeOf s.vitW r).alt = false →
      ∃ t, exec (.tovlExpiry r) s = .next t ∧ (routeOf t.vitW r).alt = 0 ∧ (routeOf t.vitW r).running = false ∧
        (routeOf t.vitW r).code = (routeOf s.vitW r).code ∧ (∀ k, k ≠ r → routeOf t.vitW k = routeOf s.vitW k) ∧
        keeps (noted ++ [.vitW, .lanes]) s t)) ∧
  (s.frame.vitalDue = true → s.vitW.restartRun = true → s.restartLimit ≤ s.vitW.restartTicks →
    ∃ t, exec .restartReleaseTimeExpiry s = .next t ∧ t.vitW.restartRun = false ∧ t.vitW.elems = s.vitW.elems ∧
      (∀ k ∈ restartSlots s.tables, (∀ p ∈ s.vitW.restartLate, p.1 ≠ k) → { slot := k, bit := lockRESTART, set := false } ∈ t.ite.lockReqs) ∧
      keeps [.vitW, .ite, .sent] s t)

/-- VITAL_CYCLE_START (R82), ROUTE_ENGINE_PASS (R233), RUN_AHEAD (R270 to R276), SPCAN (R279). -/
def Obligations.VitalCycle : Prop := ∀ s : State, s.dead = false →
  (∀ i, s.sys.mode = .run → s.frame.vitalDue = true → ∃ t, exec (.vitalCycleStart i) s = .next t ∧
    t.frame = { s.frame with vitalDue := false, passDue := true } ∧ t.ite.cmds = [] ∧
    t.vitW = (elementHandler s.tables s.vin s.binds s.outs.generic s.ite.cmds s.restartLimit s.frame.cycle s.vitW).v ∧
    (∀ l, s.laneWorks l = true → (t.lane l).vitalRun = true ∧ (t.lane l).vitalDone = false) ∧
    (∀ l, (t.lane l).mem = (s.lane l).mem ∧ (t.lane l).gateOpen = (s.lane l).gateOpen) ∧ t.outs.words = s.outs.words ∧
    keeps (noted ++ [.vitW, .ite, .outs, .lanes, .frame]) s t) ∧
  (∀ clk, s.sys.mode = .run → s.frame.passDue = true → ∃ t, exec (.routeEnginePass clk) s = .next t ∧
    t.frame = { s.frame with passDue := false } ∧ t.ite.lockReqs = [] ∧ t.ite.shadow = [] ∧
    t.vitW = (routePass s.tables s.setLimit s.setLife s.frame.cycle s.frame.tick s.ite.lockReqs s.ite s.vitW).pass.v ∧
    (∀ l, (t.lane l).mem = (s.lane l).mem ∧ (t.lane l).gateOpen = (s.lane l).gateOpen) ∧ t.outs.words = s.outs.words ∧
    keeps (noted ++ [.vitW, .ite, .outs, .lanes, .frame]) s t) ∧
  (s.sys.mode = .run → s.frame.cycleOpen = true → s.frame.passDue = false → s.frame.vitalDue = false → s.frame.firstTick < s.frame.tick →
    s.ite.raen = true → s.par 0x4130 2 = 1 → s.ite.raAllowed = true → s.ite.raDone = false → ∃ t, exec .runAhead s = .next t ∧
      t.ite = { s.ite with shadow := t.ite.shadow, projection := t.ite.projection } ∧
      (∃ new, t.ite.shadow = s.ite.shadow ++ new ∧ ∀ x ∈ new, x.req ∈ s.ite.setQ ∧ x.req.eligible ≤ s.frame.cycle + 1) ∧
      keeps [.ite, .sent] s t) ∧
  (∀ l, s.laneRuns l = true → ∃ t, exec (.spcan l) s = .next t ∧ occurred 73 s t ∧ t.ite.shadow = [] ∧ t.ite.setQ = s.ite.setQ ∧
    t.ite.cancelQ = s.ite.cancelQ ∧ keeps (noted ++ [.ite]) s t)

/-! ### 02 and 03 The tick: input latch, tasks, vote, enable path, output commit -/

/-- INPUT_LATCH (R43, R70, R75, R81, R111, R520). -/
def Obligations.InputLatch : Prop := ∀ (s : State) (fs : FieldSamples), s.dead = false → ∃ t, exec (.inputLatch fs) s = .next t ∧
  t.dead = false ∧ t.ident = s.ident ∧ t.pending = s.pending ∧ t.frame.tick = s.frame.tick + 1 ∧ t.dict.staged = [] ∧ t.evt.working = 0 ∧
  t.pair.pullIn = false ∧ t.frame.fastOk = false ∧ t.frame.vitalOk = false ∧ t.frame.committed = false ∧
  t.frame.ctx.tick = t.frame.tick ∧ t.frame.ctx.cycle = t.frame.cycle ∧ t.frame.ctx.mode = t.sys.mode.code ∧
  t.frozen.tick = t.frame.tick ∧ t.frozen.mode = t.sys.mode ∧ t.frozen.cycle = t.frame.cycle ∧ t.frozen.fio = t.fio ∧ t.frozen.voter = t.voter ∧
  (s.sys.mode = .run → s.dict.staged = [] → s.sys.toStandby = false → t.sys.mode = .run ∧ t.vit = s.vit ∧
    (s.frame.cycleOpen = false → t.frame.cycle = s.frame.cycle + 1 ∧ t.frame.firstTick = t.frame.tick ∧ t.frame.cycleOpen = true ∧
      t.frame.vitalDue = true ∧ t.frame.passDue = false ∧ t.frame.overrun = 0 ∧ t.vin = t.img) ∧
    (s.frame.cycleOpen = true → t.frame.cycle = s.frame.cycle ∧ t.frame.firstTick = s.frame.firstTick ∧ t.frame.cycleOpen = true ∧
      t.frame.vitalDue = s.frame.vitalDue ∧ t.vin = s.vin ∧ t.vitW = s.vitW))

/-- FAST_TASK_START, FAST_TASK_RETURN, FAST_TASK_WATCHDOG (R78, R79), VITAL_TASK_RETURN (R83, R139). -/
def Obligations.TaskStartsAndReturns : Prop := ∀ s : State, s.dead = false →
  (∀ i, s.fastRuns = true → ∃ t, exec (.fastTaskStart i) s = .next t ∧
    (∀ l, s.laneWorks l = true → (t.lane l).fastRun = true ∧ (t.lane l).fastDone = false) ∧ (∀ l, s.laneWorks l = false → t.lane l = s.lane l) ∧
    (∀ l, (t.lane l).mem = (s.lane l).mem ∧ (t.lane l).gateOpen = (s.lane l).gateOpen ∧ (t.lane l).colour = (s.lane l).colour) ∧
    t.outs.words = s.outs.words ∧ t.outs.vital = s.outs.vital ∧ keeps [.lanes, .outs, .sfuW, .sent] s t) ∧
  (∀ l ns dev, s.fastRuns = true → (s.lane l).fastRun = true → ∃ t, exec (.fastTaskReturn l ns dev) s = .next t ∧
    (t.lane l).fastRun = false ∧ (t.lane l).fastDone = true ∧ (t.lane l).mem = (s.lane l).mem ∧ (t.lane l).pend = (s.lane l).pend ∧
    (t.lane l).gateOpen = (s.lane l).gateOpen ∧ (∀ k, k ≠ l → t.lane k = s.lane k) ∧
    t.frame = { s.frame with longestFastNs := max s.frame.longestFastNs ns } ∧ t.outs.words = s.outs.words ∧
    t.outs.fast = s.outs.fast ∧ keeps [.lanes, .outs, .frame, .sent] s t) ∧
  (∀ l, s.fastRuns = true → (s.lane l).fastRun = true → ∃ t, exec (.fastTaskWatchdog l) s = .next t ∧ occurred 48 s t ∧
    (t.lane l).fastRun = false ∧ (t.lane l).fastDone = false ∧ (t.lane l).enaOff = true ∧ (t.lane l).fastWrites = [] ∧
    (t.lane l).mem = (s.lane l).mem ∧ (s.sys.mode = .run → (s.lane l).colour = .green → (t.lane l).pend ≠ none) ∧
    (∀ k, k ≠ l → t.lane k = s.lane k) ∧ keeps (noted ++ [.lanes, .totals]) s t) ∧
  (∀ l ns dev, s.sys.mode = .run → (s.lane l).vitalRun = true → s.frame.passDue = false → ∃ t, exec (.vitalTaskReturn l ns dev) s = .next t ∧
    (t.lane l).vitalRun = false ∧ (t.lane l).vitalDone = true ∧
    (t.lane l).vitalSig = some (closeWindow 0x11 s.frame.cycle (t.lane l).accV (s.lane l).accE) ∧ (t.lane l).mem = (s.lane l).mem ∧
    (∀ k, k ≠ l → t.lane k = s.lane k) ∧ t.frame = { s.frame with longestVitalNs := max s.frame.longestVitalNs ns } ∧
    t.outs.words = s.outs.words ∧ keeps [.lanes, .outs, .frame, .sent] s t)

/-- SIGNATURE_CLOSE_AND_VOTE (R86, R138 to R146, R149). -/
def Obligations.PhaseThree : Prop := ∀ s : State, s.dead = false → s.fastRuns = true → ∃ t, exec .signatureCloseAndVote s = .next t ∧
  t.voter.fastWindow = s.frame.tick ∧
  t.voter.fres = (compareSigs (s.greens.map (fun l => (l, (t.lane l).shownFast)))).code ∧
  t.frame.fastOk = (compareSigs (s.greens.map (fun l => (l, (t.lane l).shownFast)))).good ∧
  (∀ l, (s.lane l).fastDone = false → (t.lane l).shownFast = none) ∧ (∀ l, (s.lane l).fastDone = true → (t.lane l).shownFast ≠ none) ∧
  (∀ l, (t.lane l).presented = if (t.lane l).gateOpen then (t.lane l).vector else 0) ∧
  (∀ l, (t.lane l).gateOpen = true → (s.lane l).gateOpen = true ∨ (s.sys.mode = .run ∧ (s.lane l).colour = .green)) ∧
  (s.vitalCase = .overrun → t.frame.overrun = s.frame.overrun + 1 ∧ t.frame.vitalOk = (s.frame.vitalOk && t.frame.fastOk) ∧
    (s.frame.overrun = 0 → occurred 46 s t)) ∧
  (s.vitalCase = .vote → t.frame.overrun = 0) ∧
  (s.sys.mode = .safe → s.voter.radmLane = none → ∀ l, (t.lane l).colour = (s.lane l).colour) ∧
  (∀ l, (t.lane l).mem = (s.lane l).mem) ∧ t.frame.tick = s.frame.tick ∧ t.frame.cycle = s.frame.cycle ∧ t.sys.mode = s.sys.mode ∧
  keeps (noted ++ [.lanes, .voter, .frame, .sys, .totals, .upd, .ite]) s t

/-- The compare with three Green lanes (R140, R141). -/
def Obligations.CompareOfThree : Prop := ∀ p q r : LaneId, p ≠ q → q ≠ r → p ≠ r → ∀ (v : Nat) (w : Option Nat),
  compareSigs [(p, some v), (q, some v), (r, some v)] = { code := 1, bad := [], sig := some v } ∧
  (w ≠ some v →
    compareSigs [(p, some v), (q, some v), (r, w)] = { code := 2, bad := [r], sig := some v } ∧
    compareSigs [(p, some v), (r, w), (q, some v)] = { code := 2, bad := [r], sig := some v } ∧
    compareSigs [(r, w), (p, some v), (q, some v)] = { code := 2, bad := [r], sig := some v }) ∧
  (∀ x y z : Option Nat, (x = none ∨ x ≠ y) → (y = none ∨ y ≠ z) → (x = none ∨ x ≠ z) →
    (compareSigs [(p, x), (q, y), (r, z)]).code = 4 ∧ (compareSigs [(p, x), (q, y), (r, z)]).good = false ∧
    (compareSigs [(p, x), (q, y), (r, z)]).bad = [p, q, r])

/-- The reactions to a fast compare (R141, R142, R144, R145). -/
def Obligations.CompareReactions : Prop := ∀ (s : State), s.sys.mode = .run → s.sys.safePend = none →
  (∀ bad sig, occurred 43 s (afterCompare 41 43 { code := 4, bad, sig } s) ∧ occurred 73 s (afterCompare 41 43 { code := 4, bad, sig } s) ∧
    (afterCompare 41 43 { code := 4, bad, sig } s).sys = { s.sys with safePend := some 43 } ∧
    (afterCompare 41 43 { code := 4, bad, sig } s).ite.shadow = [] ∧
    ∀ l, ((afterCompare 41 43 { code := 4, bad, sig } s).lane l).colour = (s.lane l).colour ∧
      ((afterCompare 41 43 { code := 4, bad, sig } s).lane l).pend = (s.lane l).pend) ∧
  (∀ bad sig, occurred 45 s (afterCompare 41 43 { code := 5, bad, sig } s) ∧
    (afterCompare 41 43 { code := 5, bad, sig } s).sys = { s.sys with safePend := some 45 } ∧
    (afterCompare 41 43 { code := 5, bad, sig } s).ite.shadow = [] ∧
    ∀ l, ((afterCompare 41 43 { code := 5, bad, sig } s).lane l).colour = (s.lane l).colour ∧
      ((afterCompare 41 43 { code := 5, bad, sig } s).lane l).pend = (s.lane l).pend) ∧
  (∀ l sig, (s.lane l).colour = .green → occurred 41 s (afterCompare 41 43 { code := 2, bad := [l], sig } s) ∧
    (afterCompare 41 43 { code := 2, bad := [l], sig } s).sys = s.sys ∧ (afterCompare 41 43 { code := 2, bad := [l], sig } s).ite.shadow = [] ∧
    ((afterCompare 41 43 { code := 2, bad := [l], sig } s).lane l).pend ≠ none ∧
    ((afterCompare 41 43 { code := 2, bad := [l], sig } s).lane l).disagreements = add32 (s.lane l).disagreements 1 ∧
    ∀ k, k ≠ l → (afterCompare 41 43 { code := 2, bad := [l], sig } s).lane k = s.lane k) ∧
  (∀ c sig, c = 1 ∨ c = 3 → afterCompare 41 43 { code := c, bad := [], sig } s = s)

/-- ENABLE_PATH_CHECK (R150), GATE_SELF_CLOSE (R151). -/
def Obligations.EnablePath : Prop := ∀ s : State, s.dead = false →
  (∀ dev, s.sys.mode = .run → (∀ l, dev.get l % 2 ^ 30 = 0) → ∃ t, exec (.enablePathCheck dev) s = .next t ∧ keeps [.sent] s t) ∧
  (∀ dev l, s.sys.mode = .run → (∀ k, (s.lane k).colour = .green) → (∀ k, (s.lane k).pend = none) → dev.get l % 2 ^ 30 ≠ 0 →
    (∀ k, k ≠ l → dev.get k % 2 ^ 30 = 0) → ∃ t, exec (.enablePathCheck dev) s = .next t ∧ occurred 53 s t ∧
      (t.lane l).gateOpen = false ∧ (t.lane l).presented = 0 ∧ (t.lane l).colour ≠ .green ∧
      (t.lane l).disagreements = add32 (s.lane l).disagreements 1 ∧ (∀ k, k ≠ l → t.lane k = s.lane k) ∧ t.sys = s.sys ∧
      t.outs = s.outs ∧ t.fio = s.fio) ∧
  (∀ dev l, s.sys.mode = .run → s.capacity = 2 → (s.lane l).colour = .green → dev.get l % 2 ^ 30 ≠ 0 → s.sys.safePend = none →
    ∃ t, exec (.enablePathCheck dev) s = .next t ∧ occurred 45 s t ∧ t.sys.safePend = some 45 ∧ (t.lane l).gateOpen = false) ∧
  (∀ l, (s.lane l).gateOpen = true → ∃ t, exec (.gateSelfClose l) s = .next t ∧ occurred 57 s t ∧ (t.lane l).gateOpen = false ∧
    (t.lane l).gateFault = true ∧ (t.lane l).presented = 0 ∧ t.voter = { s.voter with lost := true } ∧ (∀ k, k ≠ l → t.lane k = s.lane k) ∧
    (s.sys.mode = .run → s.sys.safePend = none → t.sys.safePend = some 57) ∧ keeps (noted ++ [.lanes, .voter, .sys]) s t)

/-- OUTPUT_COMMIT (R46, R83, R84, R147, R148). -/
def Obligations.OutputCommits : Prop := ∀ (s : State) (o : CommitIn), s.dead = false →
  (s.sys.mode = .run → ∀ c, s.sys.safePend = some c → ∃ t, exec (.outputCommit o) s = .next t ∧ t.sys.mode = .safe ∧ t.sys.safeCause = c ∧
    t.sys.safePend = none ∧ (∀ l, (t.lane l).gateOpen = false) ∧ t.voter.radmLane = none ∧ t.voter.enMaj = 0 ∧ occurred 30 s t ∧
    t.vit = s.vit ∧ t.sfu = s.sfu ∧ t.outs = s.outs ∧ t.pair.hold = false ∧ (heldCause c = false → outputsOff t)) ∧
  (s.sys.mode = .run → s.sys.safePend = none → s.frame.fastOk = false → s.frame.vitalOk = false → ∃ t, exec (.outputCommit o) s = .next t ∧
    t.sys.mode = .run ∧ t.vit = s.vit ∧ t.vitW = s.vitW ∧ t.sfu = s.sfu ∧ t.outs = s.outs ∧ t.lanes = s.lanes ∧ t.voter = s.voter ∧
    t.fio = s.fio ∧ t.frame.cycleOpen = s.frame.cycleOpen) ∧
  (s.sys.mode = .run → s.sys.safePend = none → s.frame.fastOk = true → ∃ t, exec (.outputCommit o) s = .next t ∧ t.sys.mode = .run ∧
    t.sfu = s.sfuW ∧ t.outs.words = s.comingWords s.frame.vitalOk ∧ t.outs.fast = s.outs.fast ∧
    (s.frame.vitalOk = true → t.vit = s.vitW ∧ t.outs.vital = s.outs.vitalW ∧ t.frame.cycleOpen = false) ∧
    (s.frame.vitalOk = false → t.vit = s.vit ∧ t.outs.vital = s.outs.vital ∧ t.frame.cycleOpen = s.frame.cycleOpen) ∧
    (∀ l, s.laneWorks l = true → (t.lane l).mem = (if s.frame.vitalOk then storeWrites (s.lane l).vitalWrites
      (storeWrites (s.lane l).fastWrites (s.lane l).mem) else storeWrites (s.lane l).fastWrites (s.lane l).mem)) ∧
    (∀ c, c < 24 → (nth {} c t.fio.outs).driven = true → t.voter.enMaj.testBit c = true) ∧
    (∀ g, g < 6 → (nth {} g t.fio.groups).driven = true → t.voter.enMaj.testBit (24 + g) = true)) ∧
  (s.sys.mode ≠ .run → s.fastRuns = true → s.pair.outputHold = none → ∃ t, exec (.outputCommit o) s = .next t ∧ outputsOff t ∧
    t.voter.enMaj = 0 ∧ t.sys.mode = s.sys.mode ∧ t.vit = s.vit)

/-- The majority of the gated lines at a commit (R147). -/
def Obligations.OutputMajority : Prop := ∀ (s : State) (o : CommitIn), s.dead = false → s.sys.mode = .run → s.sys.safePend = none →
  s.frame.fastOk = true → ∃ t, exec (.outputCommit o) s = .next t ∧
  (∀ i, t.voter.enMaj.testBit i = true ↔ ∃ l k : LaneId, l ≠ k ∧ (s.lane l).gateOpen = true ∧ (s.lane l).lines.testBit i = true ∧
    (s.lane k).gateOpen = true ∧ (s.lane k).lines.testBit i = true) ∧
  (∀ l k m : LaneId, l ≠ k → k ≠ m → l ≠ m → (s.lane l).gateOpen = false →
    t.voter.enMaj = (s.lane k).presented &&& (s.lane m).presented) ∧
  (∀ l k : LaneId, l ≠ k → (s.lane l).gateOpen = false → (s.lane k).gateOpen = false → t.voter.enMaj = 0 ∧ outputsOff t)

/-! ### 01 and 02 Modes, restarts, time references, long operations, firewall and registers -/

/-- BOOT_END (R48, R129, R161, R169, R609, R614, R634), FLINT_LISTEN_END (R482). -/
def Obligations.EndOfBoot : Prop := ∀ s : State, s.dead = false → s.sys.mode = .boot →
  (∀ r : BootIn, s.fw.lock = false → ∃ t, exec (.bootEnd r) s = .next t ∧ t.sys.mode ≠ .run ∧ t.frame.tick = s.frame.tick ∧
    t.pending = s.pending ∧ t.ident = s.ident ∧
    (((loadDoriors s).ok = false ∨ s.sys.bootKind = .recovery) → t.sys.mode = .recovery ∧ occurred 18 s t ∧ occurred 29 s t) ∧
    ((loadDoriors s).ok = true → s.sys.bootKind ≠ .recovery → t.fw.lock = true ∧ occurred 16 s t ∧
      (∀ l : LaneId, (t.lane l).gateOpen = false ∧ (t.lane l).colour =
        if r.lanesOk.get l && !(s.lane l).bootFail && !s.pwr.lost.testBit l.num then .green else .slate) ∧
      ((r.missed ≠ none ∨ s.pwr.lost.testBit 3 = true) → t.sys.mode = .safe ∧ t.sys.safeCause = 56 ∧ occurred 56 s t) ∧
      (r.missed = none → s.pwr.lost.testBit 3 = false → t.capacity < 2 → t.sys.mode = .safe ∧ t.sys.safeCause = 60 ∧ occurred 60 s t) ∧
      (r.missed = none → s.pwr.lost.testBit 3 = false → 2 ≤ t.capacity → s.pwr.lost.testBit 7 = true →
        t.sys.mode = .safe ∧ t.sys.safeCause = 11 ∧ t.fio.lost = true) ∧
      (r.missed = none → s.pwr.lost.testBit 3 = false → 2 ≤ t.capacity → s.pwr.lost.testBit 7 = false → occurred 55 s t ∧
        (s.par 0x2000 3 = 3 → s.upd.fromMode = none → t.sys.mode = .configure)))) ∧
  (∀ due, s.pair.listening = some due → due ≤ s.frame.tick → ∃ t, exec .flintListenEnd s = .next t ∧ t.pair.listening = none ∧
    (s.pair.position = 0 → t.sys.mode = .standby ∧ occurred 229 s t ∧ t.pair.hold = s.pair.hold) ∧
    (s.pair.position ≠ 0 → (s.pair.heldWhenStarted = true ∨ s.pair.partnerHeld = true) → t.sys.mode = .standby ∧ t.pair.hold = s.pair.hold) ∧
    (s.pair.position ≠ 0 → s.pair.heldWhenStarted = false → s.pair.partnerHeld = false → occurred 221 s t ∧ t.sys = s.sys ∧
      t.pair.hold = true ∧ t.pair.starting = true ∧ t.pair.holdStart = s.frame.tick ∧ keeps (noted ++ [.pair]) s t))

/-- PPS_EDGE, TOD_TELEGRAM, STATION_INPUT_TIMEOUT (R655, R656), with R71 and R74. -/
def Obligations.StationInput : Prop := ∀ s : State, s.dead = false →
  (∀ gap phase, ∃ t, exec (.ppsEdge gap phase) s = .next t ∧ t.frame.ref = t.refNow ∧ keeps (noted ++ [.pwr, .frame]) s t ∧
    (s.frame.ref ≠ .own → t.frame.ref = .own → s.frame.refOrder ≠ 0 → occurred 23 s t ∧ t.frame.holdover = true) ∧
    (s.pwr.station.anyEdge = true → s.pwr.station.named = true → 999900000 ≤ gap → gap ≤ 1000100000 →
      t.pwr = { s.pwr with station := { s.pwr.station with edgeOk := true, named := false, edgeTick := s.frame.tick } }) ∧
    ((gap < 999900000 ∨ 1000100000 < gap) → t.pwr.station.valid = false ∧ t.pwr.station.run = 0 ∧ t.pwr.station.edgeOk = false) ∧
    (s.pwr.station.anyEdge = true → s.pwr.station.named = false → 2 ≤ s.pwr.station.missing → t.pwr.station.valid = false)) ∧
  (∀ start bs, s.pwr.station.anyEdge = true → s.pwr.station.named = false → ∃ t, exec (.todTelegram start bs) s = .next t ∧
    t.frame.ref = t.refNow ∧ t.pwr.station.named = true ∧ keeps (noted ++ [.pwr, .frame]) s t ∧
    (s.frame.ref ≠ .own → t.frame.ref = .own → s.frame.refOrder ≠ 0 → occurred 23 s t ∧ t.frame.holdover = true) ∧
    (∀ secs, todSound start bs = true → (beAt 3 1 bs).testBit 0 = true → s.pwr.station.seconds = some secs → beAt 4 8 bs = secs + 1 →
      s.pwr.station.edgeOk = true → t.pwr.station.missing = 0 ∧ t.pwr.station.tai = secs + 1 ∧ t.pwr.station.seconds = some (secs + 1) ∧
        t.pwr.station.utcOff = beAt 12 2 bs ∧ t.pwr.station.run = min 4 (s.pwr.station.run + 1) ∧
        t.pwr.station.valid = (s.pwr.station.valid || decide (3 ≤ s.pwr.station.run))) ∧
    (todSound start bs = false → t.pwr.station.run = 0 ∧ t.pwr.station.missing = s.pwr.station.missing + 1 ∧
      t.pwr.station.valid = (s.pwr.station.valid && decide (s.pwr.station.missing < 2)))) ∧
  (s.pwr.station.anyEdge = true → s.pwr.station.edgeTick + 6000 ≤ s.frame.tick → ∃ t, exec .stationInputTimeout s = .next t ∧
    t.pwr = { s.pwr with station := { s.pwr.station with valid := false, run := 0, edgeOk := false } } ∧ t.frame.ref = t.refNow ∧
    keeps (noted ++ [.pwr, .frame]) s t)

/-- An accepted mode request waits for the output commit, its session is busy, and nothing else has changed. -/
def modeAsked (r : Req) (v : Nat) (s t : State) : Prop :=
  t.dict.asked = s.dict.asked ++ [(r, v)] ∧ (∃ k, findSlot r.session s.dict = some k ∧ (t.session k).busy = true) ∧ t.emitted = [] ∧
  t.dict.log = s.dict.log ∧ keeps [.dict, .sent] s t

/-- MODE_REQUEST_CONFIGURE, MODE_REQUEST_STANDBY (R51 to R53, R512), WARM_, COLD_ and RECOVERY_RESTART_COMMAND (R115, R634). -/
def Obligations.ModeRequests : Prop := ∀ (s : State) (r : Req),
  (mayWrite r 2 s → mayLog 1 s → s.sys.mode = .standby → s.overtaken = false → ∃ t, exec (.modeRequestConfigure r) s = .next t ∧
    modeAsked r 3 s t) ∧
  (∀ x, takesUp r s x → s.sys.mode ≠ .standby → ∃ t, exec (.modeRequestConfigure r) s = .next t ∧ replied r 2 0x0201 t ∧
    keeps (replyParts r.carrier) s t) ∧
  (mayWrite r 2 s → mayLog 1 s → s.sys.mode = .standby → s.overtaken = true → ∃ t, exec (.modeRequestConfigure r) s = .next t ∧
    replied r 2 0x0203 t ∧ keeps (replyParts r.carrier) s t) ∧
  (mayWrite r 2 s → mayLog 1 s → s.sys.mode = .run → s.pairCause = 0 → s.overtaken = false →
    ∃ t, exec (.modeRequestStandby r) s = .next t ∧ modeAsked r 4 s t) ∧
  (∀ o, s.dead = false → s.serverUp r.carrier = true → s.sys.mode = .standby → s.dict.asked = [(r, 3)] → s.pair.hold = false → s.pair.claiming = false →
    (s.overtaken = false → ∃ t, exec (.outputCommit o) s = .next t ∧ replied r 2 0 t ∧
      logged r 1 0x2000 2 (parValue s.params 0x2000 2) 3 s t ∧ occurred 238 s t ∧ t.sys = { s.sys with toConfigure := true } ∧ t.dict.asked = []) ∧
    (s.sys.safePend.isSome ∨ s.sys.restartReq.isSome → ∃ t, exec (.outputCommit o) s = .next t ∧ replied r 2 0x0203 t ∧
      t.sys = s.sys ∧ t.params = s.params ∧ t.dict.log = s.dict.log ∧ t.dict.asked = [])) ∧
  (∀ o, s.dead = false → s.serverUp r.carrier = true → s.sys.mode = .run → s.dict.asked = [(r, 4)] →
    (s.sys.safePend = none → s.overtaken = false → ∃ t, exec (.outputCommit o) s = .next t ∧ t.dict.asked = [] ∧
      (t.sys.safePend = none → replied r 2 0 t ∧ occurred 238 s t ∧ t.pair.handOver = true)) ∧
    (∀ c, s.sys.safePend = some c → ∃ t, exec (.outputCommit o) s = .next t ∧ t.sys.mode = .safe ∧ replied r 2 0x0203 t ∧
      t.pair.handOver = false ∧ t.dict.asked = [])) ∧
  (mayWrite r 2 s → mayLog 1 s → s.sys.mode = .run → s.pairCause ≠ 0 → s.overtaken = false →
    ∃ t, exec (.modeRequestStandby r) s = .next t ∧ replied r 2 s.pairCause t ∧ keeps (replyParts r.carrier) s t) ∧
  (∀ x, takesUp r s x → s.sys.mode ≠ .run → ∃ t, exec (.modeRequestStandby r) s = .next t ∧ replied r 2 0x0201 t ∧
    keeps (replyParts r.carrier) s t) ∧
  (mayWrite r 1 s → s.sys.mode ≠ .boot →
    (∃ t, exec (.warmRestartCommand r) s = .next t ∧ replied r 2 0 t ∧ occurred 19 s t ∧ t.sys = { s.sys with restartReq := some .warm } ∧
      keeps (replyParts r.carrier ++ [.sys, .params, .evt]) s t) ∧
    (∃ t, exec (.coldRestartCommand r) s = .next t ∧ replied r 2 0 t ∧ occurred 19 s t ∧ t.sys = { s.sys with restartReq := some .cold } ∧
      keeps (replyParts r.carrier ++ [.sys, .params, .evt]) s t) ∧
    (∃ t, exec (.recoveryRestartCommand r) s = .next t ∧ replied r 2 0 t ∧ occurred 19 s t ∧
      t.sys = { s.sys with restartReq := some .recovery } ∧ keeps (replyParts r.carrier ++ [.sys, .params, .evt]) s t))

/-- R52: mode requests in SAFE are refused. -/
def Obligations.NoRequestLeavesSafe : Prop := ∀ (s : State) (r : Req) (x : Session), s.sys.mode = .safe → takesUp r s x →
  (∃ t, exec (.modeRequestConfigure r) s = .next t ∧ replied r 2 0x0201 t ∧ t.sys.mode = .safe ∧ keeps (replyParts r.carrier) s t) ∧
  (∃ t, exec (.modeRequestStandby r) s = .next t ∧ replied r 2 0x0201 t ∧ t.sys.mode = .safe ∧ keeps (replyParts r.carrier) s t)

/-- FIREWALL_VIOLATION (R33, R36 to R40, R42). -/
def Obligations.FirewallFreeze : Prop := ∀ (s : State) (a : Access), s.dead = false →
  ((accessCause s.fw a = none ∨ s.fw.frozen.contains a.master = true) → ∃ t, exec (.firewallViolation a) s = .next t ∧ keeps [.sent] s t) ∧
  (reservedAddr a.addr = true → accessCause s.fw a = some 1) ∧
  (∀ cause, accessCause s.fw a = some cause → s.fw.frozen.contains a.master = false →
    ∃ t, exec (.firewallViolation a) s = .next t ∧ occurred 232 s t ∧ t.fw.frozen = s.fw.frozen ++ [a.master] ∧ sameMemory s t ∧
      (s.fw.vValid = false → t.fw.vValid = true ∧ t.fw.vMaster = a.master ∧ t.fw.vCause = cause ∧ t.fw.vAddr = a.addr) ∧
      (s.fw.vValid = true → t.fw = { s.fw with frozen := s.fw.frozen ++ [a.master] }) ∧
      (∀ l, laneOfMaster a.master = some l →
        ((s.sys.mode = .run ∨ s.sys.mode = .configure ∨ s.sys.mode = .standby) → (s.lane l).colour ≠ .slate → (t.lane l).pend = some .slate) ∧
        (a.master < 6 ∨ 64 ≤ a.master → (t.lane l).stopped = true) ∧
        (8 ≤ a.master → a.master < 56 → (a.master - 8) % 16 < (s.lane l).dma.length →
          (nth {} ((a.master - 8) % 16) (t.lane l).dma).state = .frozen) ∧
        (∀ k, k ≠ l → t.lane k = s.lane k) ∧ keeps (noted ++ [.fw, .lanes]) s t) ∧
      (a.master = 6 → t.dict.retired = true ∧ keeps (noted ++ [.fw, .dict]) s t) ∧
      (a.master = 7 → t.pair.linkUp = false ∧ t.pair.partner = none ∧ keeps (noted ++ [.fw, .pair, .lops]) s t))

/-- MODULE_WIDE_WRITE (R44), EVT_FLAG_CLEAR (R68), REGISTER_WRITE (R11). -/
def Obligations.RegisterWrites : Prop := ∀ s : State, s.dead = false →
  (∀ (n v : Nat) (x : Option Nat), n < 8 → v < 2 ^ 32 → s.laneRuns .a = true → s.laneRuns .b = true → (x = some v ∨ x = none) →
    (∃ t, exec (.moduleWideWrite { addr := 0xF00C0040 + 4 * n, vals := { a := some v, b := some v, c := x } }) s = .next t ∧
      t.evt = { s.evt with masks := t.evt.masks } ∧
      (∀ i, i < 256 → t.evt.masks.getLsbD i = if 32 * n ≤ i ∧ i < 32 * n + 32 then v.testBit (i - 32 * n) else s.evt.masks.getLsbD i) ∧
      keeps [.evt, .sent] s t) ∧
    (∃ t, exec (.evtFlagClear n { a := some v, b := some v, c := x }) s = .next t ∧ t.evt = { s.evt with flags := t.evt.flags } ∧
      (∀ i, i < 256 → t.evt.flags.getLsbD i = (s.evt.flags.getLsbD i &&
        !(decide (32 * n ≤ i) && decide (i < 32 * n + 32) && v.testBit (i - 32 * n) && !s.evt.thisTick.getLsbD i))) ∧
      keeps [.evt, .sent] s t)) ∧
  (∀ (l : LaneId) (addr v : Nat), 0xF00C0000 ≤ addr → addr < 0xF00D0000 → s.laneRuns l = true →
    (∃ t, exec (.moduleWideWrite { addr := addr, vals := (Tri.all3 none).mod l (fun _ => some v) }) s = .next t ∧ occurred 50 s t ∧
      t.evt.masks = s.evt.masks ∧ t.fw = s.fw ∧ (s.sys.mode = .run → (t.lane l).pend ≠ none) ∧ (∀ k, k ≠ l → t.lane k = s.lane k) ∧
      keeps (noted ++ [.lanes, .totals]) s t) ∧
    (∃ t, exec (.registerWrite l addr v) s = .next t ∧ occurred 50 s t ∧ t.evt.masks = s.evt.masks ∧ t.fw = s.fw ∧
      (s.sys.mode = .run → (t.lane l).pend ≠ none) ∧ keeps (noted ++ [.lanes, .totals]) s t)) ∧
  (∀ (l : LaneId) (v : Nat), s.laneRuns l = true → v < 2 ^ 32 →
    (∃ t, exec (.registerWrite l 0xF0010000 v) s = .next t ∧ t.fw = { s.fw with nullWrites := add32 s.fw.nullWrites 1 } ∧
      keeps [.fw, .sent] s t) ∧
    (v < 2 → ∃ t, exec (.registerWrite l 0xF0010004 v) s = .next t ∧ t.ite = { s.ite with raen := v == 1 } ∧ keeps [.ite, .sent] s t) ∧
    (2 ≤ v → v < 256 → ∃ t, exec (.registerWrite l 0xF0010004 v) s = .next t ∧ keeps [.sent] s t))

/-- TABLE_LOAD_START (R220), CHECKPOINT_TRANSFER_START (R503), CHANGE_LOG_EXPORT_START (R554), IMAGE_DOWNLOAD_START (R606). -/
def Obligations.LongOperationStarts : Prop := ∀ (s : State) (r : Req),
  (mayWrite r 2 s → mayLog 1 s → (s.sys.mode = .configure ∨ s.sys.mode = .standby ∨ s.sys.mode = .run) →
    (s.lops.tableLoad.live = false → s.loadingApp = false → s.upd.change.state.pending = false →
      ∃ t, exec (.tableLoadStart r) s = .next t ∧ replied r 2 0 t ∧ logged r 1 0x4020 1 0 1 s t ∧ t.lops.tableLoad.state = .running ∧
        t.lops.tableLoad.progress = 0 ∧ t.lops.tableLoad.result = 0 ∧ t.lops = { s.lops with tableLoad := t.lops.tableLoad } ∧
        t.ite = { s.ite with inactiveOk := false } ∧ keeps (replyParts r.carrier ++ [.dict, .evt, .lops, .ite]) s t) ∧
    ((s.lops.tableLoad.live = true ∨ s.loadingApp = true) → ∃ t, exec (.tableLoadStart r) s = .next t ∧ replied r 2 0x0501 t ∧
      keeps (replyParts r.carrier) s t)) ∧
  (mayWrite r 1 s → s.sys.mode = .run → s.pair.linkUp = true →
    (s.lops.checkpoint.live = false → ∃ t, exec (.checkpointTransferStart r) s = .next t ∧ replied r 2 0 t ∧
      t.lops.checkpoint.state = .running ∧ t.lops.checkpoint.result = 0 ∧ t.lops = { s.lops with checkpoint := t.lops.checkpoint } ∧
      keeps (replyParts r.carrier ++ [.lops, .pair]) s t) ∧
    (s.lops.checkpoint.live = true → ∃ t, exec (.checkpointTransferStart r) s = .next t ∧ replied r 2 0x0501 t ∧
      keeps (replyParts r.carrier) s t)) ∧
  (mayWrite r 1 s → s.sys.mode ≠ .boot → s.sys.mode ≠ .recovery →
    (s.lops.logExport.live = false → ∃ t, exec (.changeLogExportStart r) s = .next t ∧ replied r 2 0 t ∧ t.lops.logExport.state = .running ∧
      t.lops.logExport.progress = 0 ∧ t.lops.logExport.total = s.dict.log.length ∧ t.lops = { s.lops with logExport := t.lops.logExport } ∧
      t.dict.log = s.dict.log ∧ t.dict.exportOut = s.exportBytes ∧ keeps (replyParts r.carrier ++ [.dict, .lops]) s t) ∧
    (s.lops.logExport.live = true → ∃ t, exec (.changeLogExportStart r) s = .next t ∧ replied r 2 0x0501 t ∧
      keeps (replyParts r.carrier) s t)) ∧
  (mayWrite r 1 s → s.sys.mode ≠ .boot → ∀ h, s.upd.staged = some h → firstStatus (downloadChecks s) = 0 →
    ∃ t, exec (.imageDownloadStart r) s = .next t ∧ replied r 2 0 t ∧ t.lops.download.state = .running ∧ t.lops.download.progress = 0 ∧
      t.lops.download.total = h.length - 256 ∧ t.lops = { s.lops with download := t.lops.download } ∧ t.upd.staged = none ∧
      t.upd.dlHeader = some h ∧ t.upd.dlBody = [] ∧ keeps (replyParts r.carrier ++ [.lops, .upd]) s t) ∧
  (mayWrite r 1 s → s.sys.mode ≠ .boot → s.upd.staged = none → doriorClass s.upd.target = false → ∃ t, exec (.imageDownloadStart r) s = .next t ∧ replied r 2 0x0202 t ∧
    keeps (replyParts r.carrier) s t)

/-- LONG_OPERATION_SUSPEND, _RESUME, _CANCEL (R61, R62), SUSPEND_LIMIT_EXPIRY (R63), TABLE_LOAD_COMPLETE (R221), CHANGE_LOG_EXPORT_DONE (R554),
SLOT_ERASED (R633). -/
def Obligations.LongOperationCommands : Prop := ∀ s : State,
  (∀ (r : Req) (ix : Nat), ix ∈ lopIndexes → mayWrite r 2 s → mayWrite r 1 s → mayLog 1 s → s.sys.mode ≠ .boot → s.sys.mode ≠ .recovery →
    ((s.lops.get ix).state = .running → ∃ t, exec (.longOperationSuspend r ix) s = .next t ∧ replied r 2 0 t ∧
      t.lops.get ix = { s.lops.get ix with state := .suspended, suspendedAt := s.frame.tick } ∧
      (∀ j ∈ lopIndexes, j ≠ ix → t.lops.get j = s.lops.get j) ∧ keeps (replyParts r.carrier ++ [.dict, .evt, .lops]) s t) ∧
    ((s.lops.get ix).state ≠ .running → ∃ t, exec (.longOperationSuspend r ix) s = .next t ∧ replied r 2 0x0202 t ∧
      keeps (replyParts r.carrier) s t) ∧
    ((s.lops.get ix).state = .suspended → ∃ t, exec (.longOperationResume r ix) s = .next t ∧ replied r 2 0 t ∧
      t.lops.get ix = { s.lops.get ix with state := .running } ∧ (∀ j ∈ lopIndexes, j ≠ ix → t.lops.get j = s.lops.get j) ∧
      keeps (replyParts r.carrier ++ [.dict, .evt, .lops]) s t) ∧
    ((s.lops.get ix).state ≠ .suspended → ∃ t, exec (.longOperationResume r ix) s = .next t ∧ replied r 2 0x0202 t ∧
      keeps (replyParts r.carrier) s t) ∧
    ((s.lops.get ix).live = true → ∃ t, exec (.longOperationCancel r ix) s = .next t ∧ replied r 2 0 t ∧
      t.lops.get ix = { s.lops.get ix with state := .cancelled, result := 0 } ∧ (∀ j ∈ lopIndexes, j ≠ ix → t.lops.get j = s.lops.get j) ∧
      t.ite = s.ite ∧ (ix = 0xA020 → t.upd.erasing = true) ∧ (ix = 0x9020 → t.dict.exportComplete = false) ∧
      keeps (replyParts r.carrier ++ [.dict, .evt, .lops, .pair, .upd]) s t) ∧
    ((s.lops.get ix).live = false → ∃ t, exec (.longOperationCancel r ix) s = .next t ∧ replied r 2 0x0202 t ∧
      keeps (replyParts r.carrier) s t)) ∧
  (s.dead = false →
    (∀ ix, ix ∈ lopIndexes → (s.lops.get ix).state = .suspended → (s.lops.get ix).suspendedAt + 4000 * s.par 0x2040 1 < s.frame.tick →
      ∃ t, exec (.suspendLimitExpiry ix) s = .next t ∧ t.lops.get ix = { s.lops.get ix with state := .cancelled, result := 0x0502 } ∧
        (∀ j ∈ lopIndexes, j ≠ ix → t.lops.get j = s.lops.get j) ∧ keeps [.dict, .lops, .pair, .upd, .sent] s t) ∧
    (s.lops.tableLoad.state = .running → ∃ t, exec .tableLoadComplete s = .next t ∧ match s.tableSource with
      | .ok ts => t.lops.tableLoad.state = .done ∧ t.lops.tableLoad.result = 0 ∧ t.ite.inactiveOk = true ∧ t.ite.activeBank = s.ite.activeBank ∧
        t.tables = s.tables ∧ (if s.ite.activeBank = 0 then t.ite.bank1 else t.ite.bank0) = some ts ∧ keeps [.lops, .ite, .sent] s t
      | .error st => t.lops.tableLoad.state = .failed ∧ t.lops.tableLoad.result = st ∧ keeps [.lops, .sent] s t) ∧
    (s.lops.logExport.state = .running →
      (chainHolds s.dict.exportBefore s.dict.exportLog = true → ∃ t, exec .changeLogExportDone s = .next t ∧ occurred 244 s t ∧
        t.lops.logExport.state = .done ∧ t.lops.logExport.result = 0 ∧ t.dict.exportComplete = true ∧ t.dict.log = s.dict.log ∧
        keeps (noted ++ [.lops, .dict]) s t) ∧
      (chainHolds s.dict.exportBefore s.dict.exportLog = false → ∃ t, exec .changeLogExportDone s = .next t ∧ occurred 243 s t ∧
        t.lops.logExport.state = .failed ∧ t.lops.logExport.result = 0x0604 ∧ keeps (noted ++ [.lops]) s t)) ∧
    (s.upd.erasing = true → ∃ t, exec .slotErased s = .next t ∧ t.upd = { s.upd with erasing := false } ∧ keeps [.upd, .sent] s t))

/-! ### 10 The pair -/

/-- PARTNER_LINE_HELD, PARTNER_LINE_NOT_HELD (R478, R482, R486, R509), SNAPSHOT_LOADED (R510), PRESENCE_LOOP_CHANGE (R479). -/
def Obligations.FlintLine : Prop := ∀ s : State, s.dead = false →
  (s.pairUp = true → ∀ h1 h2 : Bool, h1 ≠ h2 →
    (givesWay s = false → ∃ t, exec (.partnerLineHeld h1 h2) s = .next t ∧ t.pair.partnerHeld = true ∧ t.pair.h1 = h1 ∧ t.pair.h2 = h2 ∧
      t.pair.claiming = false ∧ t.pair.hold = s.pair.hold ∧ keeps [.pair, .sent] s t) ∧
    (s.sys.mode = .boot → s.pair.hold = true → s.pair.position = 2 → s.frame.tick ≤ s.pair.holdStart + 4 →
      ∃ t, exec (.partnerLineHeld h1 h2) s = .next t ∧ t.sys.mode = .standby ∧ t.pair.hold = false ∧ t.pair.starting = false ∧
        occurred 222 s t ∧ t.fio = s.fio)) ∧
  (s.pairUp = true →
    (s.pair.partnerHeld = true → s.sys.mode = .standby → s.member = true → (s.pair.position = 1 ∨ s.pair.position = 2) → 2 ≤ s.capacity →
      s.sys.safePend = none → s.pair.hold = false → ∃ t, exec .partnerLineNotHeld s = .next t ∧ occurred 223 s t ∧
        t.sys = { s.sys with toConfigure := false } ∧ t.pair.partnerHeld = false ∧ t.pair.pulling = false ∧ t.pair.claiming = true ∧
        t.pair.hold = false ∧ t.pair.takeTick = s.frame.tick ∧ t.pair.takeovers = add32 s.pair.takeovers 1 ∧
        keeps (noted ++ [.pair, .sys]) s t) ∧
    ((s.sys.mode ≠ .standby ∨ s.pair.position = 0 ∨ s.capacity < 2 ∨ s.pair.partnerHeld = false) → ∃ t, exec .partnerLineNotHeld s = .next t ∧
      t.pair = { s.pair with partnerHeld := false, pulling := false, notHeldAt := t.pair.notHeldAt } ∧ keeps [.pair, .sent] s t)) ∧
  (s.sys.mode = .standby → (s.pair.claiming = true ∨ s.pair.hold = true) → ∃ t, exec .snapshotLoaded s = .next t ∧
    t.pair = { s.pair with starting := true } ∧ keeps [.pair, .sent] s t) ∧
  (∀ closed pos, (s.sys.mode ≠ .standby ∨ closed = false ∨ s.pair.partnerHeld = true ∨ s.pair.hold = true) →
    ∃ t, exec (.presenceLoopChange closed pos) s = .next t ∧ t.pair = { s.pair with closed := closed, cablePos := pos } ∧
    (closed = false → t.pair.position = 0) ∧ (closed = true → t.pair.position = pos) ∧ keeps [.pair, .sent] s t) ∧
  (∀ pos, s.pairUp = true → s.sys.mode = .standby → s.member = true → (pos = 1 ∨ pos = 2) → 2 ≤ s.capacity → s.sys.safePend = none →
    s.pair.hold = false → s.pair.partnerHeld = false → s.pair.claiming = false →
    ∃ t, exec (.presenceLoopChange true pos) s = .next t ∧ occurred 223 s t ∧ t.pair.claiming = true ∧ t.pair.position = pos ∧
      keeps (noted ++ [.pair, .sys]) s t)

/-- PULL_RAIL_FAULT (R485). -/
def Obligations.PullRailFault : Prop := ∀ s : State, s.dead = false → s.voter.lost = false → ∃ t, exec .pullRailFault s = .next t ∧
  occurred 228 s t ∧ t.pair = { s.pair with pullRail := true } ∧ keeps (noted ++ [.pair]) s t

/-- PULL_RECEIVED (R484, R489), PULL_FAILED (R486), OUTPUT_HOLD_END (R488), TELEGRAM_CONTINUATION_END (R490). -/
def Obligations.PullsAndHoldEnds : Prop := ∀ s : State, s.dead = false →
  (s.voter.lost = false → s.sys.mode ≠ .boot → ∃ t, exec .pullReceived s = .next t ∧ occurred 226 s t ∧
    (∀ l, (t.lane l).gateOpen = false ∧ (t.lane l).mem = (s.lane l).mem ∧ (t.lane l).colour = (s.lane l).colour) ∧ outputsOff t ∧
    t.pair.hold = false ∧ t.pair.outputHold = none ∧ t.pair.contUntil = none ∧ t.pair.pullIn = true ∧
    (s.sys.mode = .run → s.sys.safePend = none → t.sys = { s.sys with safePend := some 226 }) ∧ t.sys.mode = s.sys.mode ∧
    keeps (noted ++ [.lanes, .fio, .pair, .sys]) s t) ∧
  (s.pair.pulling = true → s.pair.partnerHeld = true → ∃ t, exec .pullFailed s = .next t ∧ occurred 227 s t ∧ keeps noted s t) ∧
  (∀ due, s.pair.outputHold = some due → due ≤ s.frame.tick → ∃ t, exec .outputHoldEnd s = .next t ∧ outputsOff t ∧
    t.pair = { s.pair with outputHold := none } ∧ keeps (noted ++ [.fio, .pair]) s t) ∧
  (∀ due, s.pair.outputHold = some due → s.frame.tick < due → ∃ t, exec .outputHoldEnd s = .next t ∧ keeps [.sent] s t) ∧
  (∀ due, s.pair.contUntil = some due → due ≤ s.frame.tick → ∃ t, exec .telegramContinuationEnd s = .next t ∧
    t.pair = { s.pair with contUntil := none } ∧ (s.sys.mode ≠ .standby → t.can = s.can) ∧ keeps [.pair, .can, .sent] s t)

/-- IDENT, FULL_BEGIN, FULL_DATA, FULL_END, DELTA, SESSIONS, OUTPUT and STATUS records (R493 to R504). -/
def Obligations.PairRecords : Prop := ∀ (s : State) (rx : PairRx), s.dead = false → s.pairUp = true → s.member = true →
  (readRecord rx.bytes = none →
    (∃ t, exec (.identRecord rx) s = .next t ∧ occurred 230 s t ∧ keeps noted s t) ∧
    (∃ t, exec (.fullBeginRecord rx) s = .next t ∧ occurred 230 s t ∧ keeps noted s t) ∧
    (∃ t, exec (.fullDataRecord rx) s = .next t ∧ occurred 230 s t ∧ keeps noted s t) ∧
    (∃ t, exec (.fullEndRecord rx) s = .next t ∧ occurred 230 s t ∧ keeps noted s t) ∧
    (∃ t, exec (.deltaRecord rx) s = .next t ∧ occurred 230 s t ∧ keeps noted s t) ∧
    (∃ t, exec (.sessionsRecord rx) s = .next t ∧ occurred 230 s t ∧ keeps noted s t) ∧
    (∃ t, exec (.outputRecord rx) s = .next t ∧ occurred 230 s t ∧ keeps noted s t) ∧
    (∃ t, exec (.statusRecord rx) s = .next t ∧ occurred 230 s t ∧ keeps noted s t)) ∧
  (∀ r, readRecord rx.bytes = some r →
    (r.kind = 1 → ∃ t, exec (.identRecord rx) s = .next t ∧ t.pair.linkUp = true ∧ t.pair.offset = rx.offset ∧ t.pair.lastRx = s.frame.tick ∧
      t.pair.partner = some ((readPairs 16 0 r.payload).getD []) ∧ t.pair.shale = s.pair.shale ∧ (s.pair.linkUp = false → occurred 217 s t) ∧
      keeps (noted ++ [.pair]) s t) ∧
    (r.kind = 2 → s.storing = true → s.upd.change.state ≠ .ready → ∃ t, exec (.fullBeginRecord rx) s = .next t ∧ t.pair.linkUp = true ∧
      t.pair.shale = { s.pair.shale with incoming := some { cycle := r.cycle, stamp := ownTick rx r.tick, ident := (readPairs 16 0 r.payload).getD [] } } ∧
      keeps (noted ++ [.pair]) s t) ∧
    (r.kind = 3 → s.storing = true → ∃ t, exec (.fullDataRecord rx) s = .next t ∧ t.pair.linkUp = true ∧
      t.pair.shale = fullData r s.pair.shale ∧ t.pair.shale.full = s.pair.shale.full ∧ keeps (noted ++ [.pair]) s t) ∧
    (r.kind = 4 → s.storing = true → ∀ i, s.pair.shale.incoming = some i → ∃ t, exec (.fullEndRecord rx) s = .next t ∧ t.pair.linkUp = true ∧
      t.pair.shale.incoming = none ∧ keeps (noted ++ [.pair]) s t ∧
      (i.cycle % 2 ^ 32 = r.full → r.index = i.count → beNat r.payload = imageCrc i.count i.lines →
        t.pair.shale.full = some i ∧ t.pair.shale.deltas = s.pair.shale.deltas.filter (fun d => decide (i.cycle < d.cycle))) ∧
      (beNat r.payload ≠ imageCrc i.count i.lines → t.pair.shale.full = s.pair.shale.full ∧ t.pair.shale.deltas = s.pair.shale.deltas)) ∧
    (r.kind = 5 → s.storing = true → ∃ t, exec (.deltaRecord rx) s = .next t ∧ t.pair.linkUp = true ∧
      t.pair.shale = (deltaPart r (ownTick rx r.tick) s.pair.shale).1 ∧
      ((deltaPart r (ownTick rx r.tick) s.pair.shale).2 = true → occurred 231 s t) ∧ t.pair.holderCycle = max s.pair.holderCycle r.cycle ∧
      keeps (noted ++ [.pair]) s t) ∧
    (r.kind = 6 → s.storing = true → ∃ t, exec (.sessionsRecord rx) s = .next t ∧ t.pair.linkUp = true ∧
      t.pair.shale = { s.pair.shale with sessions := putSessions (readSessions r.index r.payload) s.pair.shale.sessions } ∧
      keeps (noted ++ [.pair]) s t) ∧
    (r.kind = 7 → ∃ t, exec (.outputRecord rx) s = .next t ∧ t.pair.linkUp = true ∧ t.pair.shale = s.pair.shale ∧
      (s.comparing = true → ∃ x, t.pair.outputs.getLast? = some x ∧ x.tick = ownTick rx r.tick ∧
        x.driven = bits 23 0 (nth 0 0 ((readPairs 2 0 r.payload).getD [])) ∧ x.pulse = bits 23 0 (nth 0 1 ((readPairs 2 0 r.payload).getD []))) ∧
      keeps (noted ++ [.pair]) s t) ∧
    (r.kind = 8 → ∃ t, exec (.statusRecord rx) s = .next t ∧ t.pair.linkUp = true ∧ t.pair.shale = s.pair.shale ∧
      t.pair.partnerMode = nth 0 0 ((readPairs 2 0 r.payload).getD []) % 256 ∧
      t.pair.partnerSync = (nth 0 0 ((readPairs 2 0 r.payload).getD [])).testBit 8 ∧
      t.pair.partnerDelta = nth 0 1 ((readPairs 2 0 r.payload).getD []) ∧ (s.lops.checkpoint.live = false → t.lops = s.lops) ∧
      keeps (noted ++ [.pair, .lops]) s t) ∧
    (s.storing = false → 2 ≤ r.kind → r.kind ≤ 6 →
      (r.kind = 2 → ∃ t, exec (.fullBeginRecord rx) s = .next t ∧ t.pair.shale = s.pair.shale ∧ keeps (noted ++ [.pair]) s t) ∧
      (r.kind = 3 → ∃ t, exec (.fullDataRecord rx) s = .next t ∧ t.pair.shale = s.pair.shale ∧ keeps (noted ++ [.pair]) s t) ∧
      (r.kind = 4 → ∃ t, exec (.fullEndRecord rx) s = .next t ∧ t.pair.shale = s.pair.shale ∧ keeps (noted ++ [.pair]) s t) ∧
      (r.kind = 5 → ∃ t, exec (.deltaRecord rx) s = .next t ∧ t.pair.shale = s.pair.shale ∧ keeps (noted ++ [.pair]) s t) ∧
      (r.kind = 6 → ∃ t, exec (.sessionsRecord rx) s = .next t ∧ t.pair.shale = s.pair.shale ∧ keeps (noted ++ [.pair]) s t)))

/-- FULL_IMAGE_START (R497, R503), PAIR_LINK_DOWN (R493). -/
def Obligations.FullImageAndLinkDown : Prop := ∀ s : State, s.dead = false →
  (∀ o, s.sys.mode = .run → s.pair.latest = some o → o.stamp = s.frame.tick → s.frame.committed = true →
    (s.fullDue = true → s.pair.sending = none → ∃ t, exec .fullImageStart s = .next t ∧
      t.pair.sending = some { snap := o, count := stateLines s.upd.app, next := 0, transfer := s.pair.transferDue } ∧
      t.pair.fullMark = s.frame.tick / 4000 ∧ t.pair.transferDue = false ∧ t.pair.brokenChain = false ∧ keeps [.pair, .sent] s t) ∧
    (s.fullDue = true → ∀ x, s.pair.sending = some x → ∃ t, exec .fullImageStart s = .next t ∧
      t.pair.sending = some { x with transfer := x.transfer || s.pair.transferDue } ∧ t.pair.fullMark = s.frame.tick / 4000 ∧
      keeps [.pair, .sent] s t) ∧
    (s.fullDue = false → ∃ t, exec .fullImageStart s = .next t ∧ keeps [.sent] s t)) ∧
  (s.pair.linkUp = true → s.pair.lastRx + 4 ≤ s.frame.tick → ∃ t, exec .pairLinkDown s = .next t ∧ occurred 218 s t ∧
    t.pair.linkUp = false ∧ t.pair.partner = none ∧ t.pair.partnerSync = false ∧ t.pair.shale = s.pair.shale ∧ t.pair.hold = s.pair.hold ∧
    (s.lops.checkpoint.live = true → t.lops.checkpoint.state = .failed ∧ t.lops.checkpoint.result = 0x0230) ∧
    (s.lops.checkpoint.live = false → t.lops = s.lops) ∧ keeps (noted ++ [.pair, .lops]) s t)

/-! ### 08 The Efavo link -/

/-- Parts that the work of the Efavo link may touch. -/
def linkParts : List Part := [.efl, .totals, .sent, .evt, .notices, .pair, .frame]

/-- A frame reaches a live port of a link that runs. -/
def onLivePort (s : State) (rx : EfRx) : Prop :=
  s.dead = false ∧ s.commsUp = true ∧ s.efl.ports.length = 4 ∧ rx.port < 4 ∧ portLive (nth {} rx.port s.efl.ports) = true

/-- A received frame that passes the checks of R388. -/
def goodFrame (s : State) (rx : EfRx) : Prop :=
  onLivePort s rx ∧ rx.fcsOk = true ∧ rx.lenOk = true ∧ rx.frame.version = 1

/-- The first copy of a frame that the node has not used (R389). -/
def firstSeen (s : State) (rx : EfRx) : Prop :=
  s.efl.seenFrames.contains (rx.frame.typ * 65536 + rx.frame.slot, rx.frame.src, rx.frame.cycle) = false

/-- A frame with a bad FCS counts as a CRC error of its port and has no further effect on streams, polls, lock or inauguration (R388). -/
def refusesBadFcs (i : EfRx → Instr) : Prop := ∀ (s : State) (rx : EfRx), onLivePort s rx → rx.fcsOk = false →
  ∃ t, exec (i rx) s = .next t ∧ occurred 140 s t ∧
    (nth {} rx.port t.efl.ports).crcErrors = add32 (nth {} rx.port s.efl.ports).crcErrors 1 ∧
    t.efl.rx = s.efl.rx ∧ t.efl.polled = s.efl.polled ∧ t.efl.lock = s.efl.lock ∧ t.efl.inaug = s.efl.inaug ∧ t.efl.ingress = s.efl.ingress ∧
    keeps linkParts s t

/-- CYCLE_FRAME, POLL_FRAME, RESPONSE_FRAME and MESSAGE_FRAME (R388, R395, R396, R404, R429, R431). -/
def Obligations.EfavoFramesReceived : Prop :=
  (refusesBadFcs .cycleFrame ∧ refusesBadFcs .pollFrame ∧ refusesBadFcs .responseFrame ∧ refusesBadFcs .messageFrame ∧
    refusesBadFcs .delayReq ∧ refusesBadFcs .delayResp ∧ refusesBadFcs .claim ∧ refusesBadFcs .topoReq ∧ refusesBadFcs .topoResp ∧
    refusesBadFcs .topo) ∧
  ∀ (s : State) (rx : EfRx), goodFrame s rx →
  (∀ c, readCycle rx.frame.body.toBytes = c → s.efl.inaug = false →
    (c.key ≠ s.efl.masterKey → ∃ t, exec (.cycleFrame rx) s = .next t ∧ t.efl.inaug = true ∧ t.efl.lock = .unlocked ∧ occurred 128 s t ∧
      keeps linkParts s t) ∧
    (∀ (d : Nat) (o : Int), c.key = s.efl.masterKey → s.efl.master = false → rx.frame.topo = s.efl.topoCounter → firstSeen s rx →
      d = (match s.efl.topo with
        | some t => pathDelay t (lineOf rx.port) s.efl.position (masterPosition t) false
        | none => 0) →
      o = ((s.efl.linkNs + rx.rel : Nat) : Int) - (c.time + rx.frame.corr + d : Nat) →
      ∃ t, exec (.cycleFrame rx) s = .next t ∧ t.efl.offset = o ∧ keeps linkParts s t ∧
        (s.efl.lock = .unlocked → t.efl.lock = .locking) ∧
        (s.efl.lock = .locking → o.natAbs < 100 → 15 ≤ s.efl.goodRun → t.efl.lock = .locked ∧ occurred 134 s t) ∧
        (s.efl.lock = .locked → 2 * o.natAbs ≤ (s.efl.sched.map (·.guard)).getD 0 → t.efl.lock = .locked) ∧
        (s.efl.lock = .locked → (s.efl.sched.map (·.guard)).getD 0 < 2 * o.natAbs → t.efl.lock = .silent ∧ occurred 135 s t) ∧
        (s.efl.lock = .silent → o.natAbs < 100 → 7 ≤ s.efl.goodRun → t.efl.lock = .locked ∧ occurred 134 s t) ∧
        (s.efl.lock ≠ .locked → t.efl.cycleNo = c.cycle ∧ t.efl.cycleStart = c.time))) ∧
  (∀ d, slotAt s.efl rx.frame.slot = some d → firstSeen s rx →
    ((slotChecks s.eenv rx (dueOf d 2) { e := s.efl }).2 = true → addressed s.efl rx.frame.dst = true →
      s.eenv.functions.contains d.owner = true → (d.kind = 2 ∨ d.kind = 3) → s.efl.polled.contains rx.frame.slot = false →
      ∃ t, exec (.pollFrame rx) s = .next t ∧ t.efl.polled = s.efl.polled ++ [rx.frame.slot] ∧ t.efl.rx = s.efl.rx ∧ keeps linkParts s t) ∧
    (∀ sch bs, (slotChecks s.eenv rx (dueOf d 3) { e := s.efl }).2 = true → s.efl.sched = some sch →
      ((sch.streamDef d.stream).map (·.cls)).getD 0 = 1 → rx.frame.body = .bytes bs → bs ≠ [] → s.efl.lock ≠ .unlocked →
      ∃ t, exec (.responseFrame rx) s = .next t ∧
        t.efl.rx = (telegramReceived s.eenv sch ((s.efl.linkNs + rx.rel) / 250000) bs { e := s.efl }).e.rx ∧
        t.efl.ingress = s.efl.ingress ∧ keeps linkParts s t) ∧
    (∀ bs, (slotChecks s.eenv rx (dueOf d 4) { e := s.efl }).2 = true → d.kind ≠ 2 → rx.frame.body = .bytes bs →
      (∀ p ∈ s.efl.delivered, p.1 = d.owner → p.2 ≤ rx.frame.cycle) → addressed s.efl rx.frame.dst = true → s.efl.ingress.length < 64 →
      ∃ t, exec (.messageFrame rx) s = .next t ∧
        t.efl.ingress = s.efl.ingress ++ [{ prio := bits 3 2 rx.frame.flags, source := d.owner, data := bs, dst := rx.frame.dst }] ∧
        t.efl.rx = s.efl.rx ∧ keeps linkParts s t))

/-- The checks of R429 with the safety code of R425. -/
def efavoTelegramChecks : Prop := ∀ (d : StreamDef) (tick : Nat) (bs : List Byte) (x : RxStream) (plen seq session stamp diff : Nat),
  plen = beAt 6 2 bs → seq = beAt 8 4 bs → session = beAt 4 2 bs → stamp = beAt 16 8 bs → diff = (seq + 2 ^ 32 - x.seq) % 2 ^ 32 →
  ((beAt 2 2 bs ≠ d.source ∨ plen ≠ d.plen ∨ beAt 12 4 bs ≠ 0) → judgeTelegram d tick bs x = (x, [143])) ∧
  (beAt 2 2 bs = d.source → plen = d.plen → beAt 12 4 bs = 0 →
    (beAt (24 + plen) 4 bs ≠ crc32c (toBE 8 d.connkey ++ slice 0 (24 + plen) bs) →
      judgeTelegram d tick bs x = ({ x with codeFails := add32 x.codeFails 1 }, [144])) ∧
    (beAt (24 + plen) 4 bs = crc32c (toBE 8 d.connkey ++ slice 0 (24 + plen) bs) →
      ((tick < stamp ∨ d.timeout ≤ tick - stamp) → judgeTelegram d tick bs x = ({ x with stales := add32 x.stales 1 }, [145])) ∧
      (stamp ≤ tick → tick - stamp < d.timeout →
        ((x.accepted = false ∨ session ≠ x.session) → (judgeTelegram d tick bs x).2 = [148] ∧
          (judgeTelegram d tick bs x).1.payload = slice 24 plen bs ∧ (judgeTelegram d tick bs x).1.session = session ∧
          (judgeTelegram d tick bs x).1.accepted = true) ∧
        (x.accepted = true → session = x.session →
          ((diff = 0 ∨ 2 ^ 31 ≤ diff) → judgeTelegram d tick bs x = (x, [])) ∧
          (diff = 1 → (judgeTelegram d tick bs x).2 = [] ∧ (judgeTelegram d tick bs x).1.payload = slice 24 plen bs ∧
            (judgeTelegram d tick bs x).1.seq = seq ∧ (judgeTelegram d tick bs x).1.stamp = stamp) ∧
          (1 < diff → diff < 2 ^ 31 → (judgeTelegram d tick bs x).2 = [147] ∧ (judgeTelegram d tick bs x).1.payload = slice 24 plen bs ∧
            (judgeTelegram d tick bs x).1.gaps = add32 x.gaps 1 ∧ (judgeTelegram d tick bs x).1.seq = seq)))))

/-- A frame of a type goes out on each line with a live port, on every live port of it, its line in FLAGS bit 0 (R383, R387). -/
def sentOnLines (s t : State) (typ slot dst : Nat) : Prop := ∀ line, line < 2 → livePorts s.efl line ≠ [] →
  ∃ f : EfFrame, Output.efavo { ports := livePorts s.efl line, frame := f } ∈ t.emitted ∧ f.typ = typ ∧ f.slot = slot ∧ f.dst = dst ∧
    f.topo = s.efl.topoCounter ∧ f.flags.testBit 0 = decide (line = 1)

/-- Half the guardian's window (R407). -/
def guardWindow (s : State) : Int := (((s.efl.sched.map (·.accept)).getD 0 : Nat) : Int)

/-- The checks of R469 with the telegram of R467 and the safety code of R468. -/
def canTelegramChecks : Prop := ∀ (d : CanStream) (t : Nat) (bs : List Byte) (x : RxStream) (session seq stamp age diff : Nat)
    (taken : RxStream), session = beAt 2 2 bs → seq = beAt 4 4 bs → stamp = beAt 8 4 bs → age = (t + 2 ^ 32 - stamp) % 2 ^ 32 →
  diff = (seq + 2 ^ 32 - x.seq) % 2 ^ 32 →
  taken = { x with accepted := true, session := session, seq := seq, stamp := stamp, payload := slice 12 d.plen bs, countOk := add32 x.countOk 1 } →
  ((beAt 0 2 bs ≠ d.source ∨ bs.length ≠ 16 + d.plen) → judgeCanTelegram d t bs x = (x, [181])) ∧
  (beAt 0 2 bs = d.source → bs.length = 16 + d.plen →
    (beAt (12 + d.plen) 4 bs ≠ crc32c (toBE 8 d.connkey ++ toBE 2 d.stream ++ slice 0 (12 + d.plen) bs) →
      judgeCanTelegram d t bs x = ({ x with codeFails := add32 x.codeFails 1 }, [182])) ∧
    (beAt (12 + d.plen) 4 bs = crc32c (toBE 8 d.connkey ++ toBE 2 d.stream ++ slice 0 (12 + d.plen) bs) →
      ((2 ^ 31 ≤ age ∨ d.timeout ≤ age) → judgeCanTelegram d t bs x = ({ x with stales := add32 x.stales 1 }, [183])) ∧
      (age < 2 ^ 31 → age < d.timeout →
        ((x.accepted = false ∨ session ≠ x.session) → judgeCanTelegram d t bs x = (taken, [186])) ∧
        (x.accepted = true → session = x.session →
          ((diff = 0 ∨ 2 ^ 31 ≤ diff) → judgeCanTelegram d t bs x = (x, [])) ∧
          (diff = 1 → judgeCanTelegram d t bs x = (taken, [])) ∧
          (1 < diff → diff < 2 ^ 31 → judgeCanTelegram d t bs x = ({ taken with gaps := add32 x.gaps 1 }, [185]))))))

/-- R429 with the safety code of R425, and R469 with the telegram of R467 and the safety code of R468. -/
def Obligations.TelegramChecks : Prop := efavoTelegramChecks ∧ canTelegramChecks

/-- SEND_CYCLE_FRAME, SEND_POLL, SEND_RESPONSE, SEND_MESSAGE (R383, R387, R403 to R407, R428, R431). -/
def Obligations.EfavoFramesSent : Prop := ∀ (s : State) (skew : Int), s.dead = false → s.commsUp = true →
  (s.efl.master = true → s.efl.inaug = false → s.efl.sched ≠ none → s.efl.address ≠ 0 → ∃ t, exec (.sendCycleFrame skew) s = .next t ∧
    t.efl.cycleNo = s.efl.cycleNo + 1 ∧ t.efl.lock = .locked ∧ t.efl.polled = [] ∧ keeps linkParts s t ∧
    (-guardWindow s ≤ skew → skew < guardWindow s + 1 → ∃ slot, sentOnLines s t 1 slot 0xFFFF) ∧
    ((skew < -guardWindow s ∨ guardWindow s + 1 ≤ skew) → occurred 156 s t ∧ t.emitted = [])) ∧
  (∀ slot d, slotAt s.efl slot = some d → slotTraffic s.eenv s.efl = true →
    (∀ dst, s.efl.master = true → (d.kind = 2 ∨ d.kind = 3) → ownerAddress s.efl d.owner = some dst → dst ≠ s.efl.address →
      ∃ t, exec (.sendPoll slot skew) s = .next t ∧ keeps linkParts s t ∧
        (-guardWindow s ≤ skew → skew < guardWindow s + 1 → t.efl = s.efl ∧ sentOnLines s t 2 slot dst) ∧
        ((skew < -guardWindow s ∨ guardWindow s + 1 ≤ skew) → occurred 156 s t ∧ t.emitted = [])) ∧
    (s.eenv.functions.contains d.owner = true → (d.kind = 2 ∨ d.kind = 3) →
      (s.efl.polled.contains slot = true → ∃ t, exec (.sendResponse slot skew) s = .next t ∧ keeps linkParts s t ∧
        t.efl.polled = s.efl.polled.filter (fun x => x != slot) ∧
        (s.serves = false → ∀ x, Output.efavo x ∈ t.emitted → x.frame.body = .bytes []) ∧
        (-guardWindow s ≤ skew → skew < guardWindow s + 1 → sentOnLines s t 3 slot 0xFFFF) ∧
        ((skew < -guardWindow s ∨ guardWindow s + 1 ≤ skew) → occurred 156 s t ∧ t.emitted = [])) ∧
      (s.efl.polled.contains slot = false → ∃ t, exec (.sendResponse slot skew) s = .next t ∧ t.efl = s.efl ∧ t.emitted = [])) ∧
    (∀ f, s.eenv.functions.contains d.owner = true → d.kind = 4 →
      s.efl.egress.find? (fun f => f.prio == highestPrio s.efl.egress) = some f →
      ∃ t, exec (.sendMessage slot skew) s = .next t ∧ keeps linkParts s t ∧
        t.efl.egress = dropFirst (highestPrio s.efl.egress) s.efl.egress ∧
        (-guardWindow s ≤ skew → skew < guardWindow s + 1 → sentOnLines s t 4 slot f.dst) ∧
        ((skew < -guardWindow s ∨ guardWindow s + 1 ≤ skew) → occurred 156 s t ∧ t.emitted = [])))

/-- DELAY_REQ, DELAY_RESP (R392, R393), CLAIM (R416, R418, R419), TOPO_REQ, TOPO_RESP, TOPO (R418, R420). -/
def Obligations.InaugurationFrames : Prop := ∀ (s : State) (rx : EfRx), goodFrame s rx →
  (∃ t, exec (.delayReq rx) s = .next t ∧ t.efl = s.efl ∧ keeps linkParts s t ∧
    Output.efavo (EfTx.mk [rx.port]
      { typ := 6, dst := rx.frame.src, src := s.efl.address, body := .delayResp (s.efl.linkNs + rx.rel) (s.efl.linkNs + rx.rel + rx.resid) }) ∈ t.emitted) ∧
  (∀ t1 t2 t3 d, (nth {} rx.port s.efl.ports).sentAt = some t1 → rx.frame.body = .delayResp t2 t3 →
    d = hopDelay t1 t2 t3 (s.efl.linkNs + rx.rel) → (nth {} rx.port s.efl.ports).delay ≠ 0 →
    ∃ t, exec (.delayResp rx) s = .next t ∧ (nth {} rx.port t.efl.ports).sentAt = none ∧ keeps linkParts s t ∧
      (d ≤ (nth {} rx.port s.efl.ports).delay + 20 → (nth {} rx.port s.efl.ports).delay ≤ d + 20 →
        (nth {} rx.port t.efl.ports).delay = d ∧ (nth {} rx.port t.efl.ports).candidate = none) ∧
      ((nth {} rx.port s.efl.ports).delay + 20 < d → (nth {} rx.port s.efl.ports).candidate = none → occurred 155 s t ∧
        (nth {} rx.port t.efl.ports).delay = (nth {} rx.port s.efl.ports).delay ∧ (nth {} rx.port t.efl.ports).candidate = some d)) ∧
  (∀ key, rx.frame.body = .claim key →
    (s.efl.inaug = false → ∃ t, exec (.claim rx) s = .next t ∧ t.efl.inaug = true ∧ t.efl.lock = .unlocked ∧ occurred 128 s t ∧ keeps linkParts s t) ∧
    (∀ k, s.efl.inaug = true → s.efl.lowest = some k →
      (key < k → ∃ t, exec (.claim rx) s = .next t ∧ t.efl.lowest = some key ∧ t.efl.inaug = true ∧ keeps linkParts s t ∧
        (s.eenv.candidate = true → key < s.eenv.key → s.efl.phase ≠ .collecting → t.efl.phase = .withdrawn)) ∧
      (k ≤ key → s.efl.phase = .window → s.efl.linkNs + rx.rel < s.efl.phaseEnd → s.eenv.key < key → s.efl.backoffs < 4 →
        ∃ t, exec (.claim rx) s = .next t ∧ occurred 131 s t ∧ keeps linkParts s t ∧
          t.efl = { s.efl with
            phase := .backoff, backoffs := s.efl.backoffs + 1,
            phaseEnd := s.efl.linkNs + rx.rel + 1000000 + s.ident.uniqueId % 16 * 250000 }))) ∧
  (∀ side hops, rx.frame.body = .topoReq side hops → s.efl.inaug = true → s.efl.master = false → ∃ t, exec (.topoReq rx) s = .next t ∧
    (rx.port < 2 → t.efl = { s.efl with hopsA := some (side, hops) }) ∧ (2 ≤ rx.port → t.efl = { s.efl with hopsB := some (side, hops) }) ∧
    keeps linkParts s t) ∧
  (∀ rep, rx.frame.body = .topoResp rep → s.efl.inaug = true → s.efl.master = true →
    (s.efl.reports.any (fun x => x.uniqueId == rep.uniqueId && x.line == rep.line) = false → ∃ t, exec (.topoResp rx) s = .next t ∧
      t.efl = { s.efl with reports := s.efl.reports ++ [rep] } ∧ keeps linkParts s t) ∧
    (s.efl.reports.any (fun x => x.uniqueId == rep.uniqueId && x.line == rep.line) = true → ∃ t, exec (.topoResp rx) s = .next t ∧
      t.efl = s.efl ∧ keeps linkParts s t)) ∧
  (∀ topo, rx.frame.body = .topo topo → s.efl.inaug = true → s.efl.master = false → ∃ t, exec (.topo rx) s = .next t ∧ occurred 129 s t ∧
    t.efl.inaug = false ∧ t.efl.topo = some topo ∧ t.efl.topoCounter = topo.counter ∧ t.efl.masterKey = topo.masterKey ∧ keeps linkParts s t)

/-- PORT_LINK_CHANGE, INAUGURATION_START, MASTER_LOST (R409, R416), CLAIM_SEND, BACKOFF_END, CLAIM_WINDOW_END, TOPO_RESP_SEND, TOPO_PUBLISH
(R418 to R420), HOP_DELAY_MEASUREMENT (R394), LOCK_RETRY_EXPIRY (R435), OVERLOAD_CLEARED (R433). -/
def Obligations.InaugurationSteps : Prop := ∀ (s : State) (rel now : Nat), s.dead = false → now = s.efl.linkNs + rel → s.efl.ports.length = 4 →
  (∀ p up phy, p < 4 → (nth {} p s.efl.ports).up ≠ up → ∃ t, exec (.portLinkChange p rel up phy) s = .next t ∧ occurred 151 s t ∧
    (nth {} p t.efl.ports).up = up ∧ (∀ q, q ≠ p → nth {} q t.efl.ports = nth {} q s.efl.ports) ∧ keeps linkParts s t ∧
    ((nth {} p s.efl.ports).retired = false → commsRun s.sys.mode = true → t.efl.inaug = true ∧ t.efl.lock = .unlocked ∧ occurred 128 s t)) ∧
  (s.efl.overload = true → s.efl.lastDrop + 4000 ≤ s.frame.tick → ∃ t, exec .overloadCleared s = .next t ∧ occurred 150 s t ∧
    t.efl = { s.efl with overload := false } ∧ keeps linkParts s t) ∧
  (s.commsUp = true →
    (∃ t, exec (.inaugurationStart rel) s = .next t ∧ t.efl.inaug = true ∧ t.efl.lock = .unlocked ∧ t.efl.master = false ∧ t.efl.polled = [] ∧
      occurred 128 s t ∧ (s.eenv.candidate = true → t.efl.lowest = some s.eenv.key ∧ t.efl.phase = .waiting) ∧ keeps linkParts s t) ∧
    (s.efl.inaug = false → s.efl.master = false → s.efl.topo ≠ none → 0 < cycleNs s.efl → s.efl.lastGood + 3 * cycleNs s.efl ≤ now →
      ∃ t, exec (.masterLost rel) s = .next t ∧ occurred 133 s t ∧ occurred 128 s t ∧ t.efl.inaug = true ∧ t.efl.lock = .unlocked ∧ keeps linkParts s t) ∧
    (s.efl.inaug = true → s.efl.phase = .waiting → s.efl.phaseEnd ≤ now → ∃ t, exec (.claimSend rel) s = .next t ∧
      t.efl = { s.efl with phase := .window, phaseEnd := now + 2000000 } ∧ sentOnLines s t 7 0xFFFF 0xFFFF ∧ keeps linkParts s t) ∧
    (s.efl.inaug = true → s.efl.phase = .backoff → s.efl.phaseEnd ≤ now → ∃ t, exec (.backoffEnd rel) s = .next t ∧
      t.efl = { s.efl with phase := .window, phaseEnd := now + 2000000 } ∧ sentOnLines s t 7 0xFFFF 0xFFFF ∧ keeps linkParts s t) ∧
    (s.efl.inaug = true → s.efl.phase = .window → s.efl.phaseEnd ≤ now →
      (s.efl.lowest = some s.eenv.key → ∃ t, exec (.claimWindowEnd rel) s = .next t ∧ occurred 130 s t ∧
        t.efl = { s.efl with phase := .collecting, master := true, masterKey := s.eenv.key, reports := [] } ∧ keeps linkParts s t) ∧
      (s.efl.lowest ≠ some s.eenv.key → ∃ t, exec (.claimWindowEnd rel) s = .next t ∧ t.efl = s.efl ∧ t.emitted = [])) ∧
    (∀ resid side hops, s.efl.inaug = true → s.efl.master = false → s.efl.hopsA = some (side, hops) → livePorts s.efl 0 ≠ [] →
      ∃ t, exec (.topoRespSend resid) s = .next t ∧ t.efl = s.efl ∧ keeps linkParts s t ∧ Output.efavo (EfTx.mk (livePorts s.efl 0)
        { typ := 9, dst := 0xFFFF, src := 0, body := .topoResp (reportOf s.eenv s.efl resid 0 side hops) }) ∈ t.emitted) ∧
    (∀ resid, s.efl.inaug = true → s.efl.master = true → s.efl.phase = .collecting → ∃ t, exec (.topoPublish resid rel) s = .next t ∧
      t.efl.inaug = false ∧ t.efl.master = true ∧ t.efl.masterKey = s.eenv.key ∧ occurred 129 s t ∧ keeps linkParts s t ∧
      t.efl.topoCounter = ((s.efl.reports.map (·.counter)).foldl max s.efl.topoCounter + 1) % 65536 ∧
      t.efl.topo.map (·.nodes) = some (numberNodes s.eenv s.efl resid)) ∧
    (s.efl.inaug = true → ∃ t, exec (.hopDelayMeasurement rel) s = .next t ∧ keeps linkParts s t ∧ ∀ p, p < 4 → portLive (nth {} p s.efl.ports) = true →
      (nth {} p t.efl.ports).sentAt = some now ∧
      Output.efavo { ports := [p], frame := { typ := 5, dst := 0xFFFF, src := s.efl.address, body := .delayReq } } ∈ t.emitted) ∧
    (∀ c tick, s.efl.lockRetry = some (c, tick) → s.efl.lock = .silent → c + 100 ≤ cycleAt s.efl now →
      ∃ t, exec (.lockRetryExpiry rel) s = .next t ∧ t.efl.lockRetry = none ∧ keeps linkParts s t ∧
        ∀ p, p < 4 → portLive (nth {} p s.efl.ports) = true → (nth {} p t.efl.ports).retired = true))

/-- START_INAUGURATION (R416), SCHEDULE_MODE_REQUEST (R410, R411), CANCEL_OBJECT (R458). -/
def Obligations.NetworkCommands : Prop := ∀ (s : State) (r : Req), mayWrite r 1 s → s.sys.mode ≠ .boot → s.sys.mode ≠ .recovery →
  (∀ rel, s.efl.inaug = false → ∃ t, exec (.startInauguration r 1 rel) s = .next t ∧ replied r 2 0 t ∧ t.efl.inaug = true ∧ t.efl.lock = .unlocked ∧
    occurred 128 s t ∧ keeps (replyParts r.carrier ++ linkParts) s t) ∧
  (∀ rel, s.efl.inaug = true → ∃ t, exec (.startInauguration r 1 rel) s = .next t ∧ replied r 2 0x0223 t ∧ keeps (replyParts r.carrier) s t) ∧
  (∀ v sch, s.efl.sched = some sch →
    (sch.defines v = true → s.efl.master = true → s.efl.inaug = false → s.efl.swState ≠ .announced → s.efl.swState ≠ .confirmed → v ≠ s.efl.mode →
      ∃ t, exec (.scheduleModeRequest r v) s = .next t ∧ replied r 2 0 t ∧ occurred 137 s t ∧ t.efl.swState = .announced ∧ t.efl.swTarget = v ∧
        t.efl.swCycle = cycleAt s.efl s.efl.linkNs + 5 ∧ t.efl.mode = s.efl.mode ∧ keeps (replyParts r.carrier ++ linkParts ++ [.params]) s t) ∧
    (7 < v → ∃ t, exec (.scheduleModeRequest r v) s = .next t ∧ replied r 2 0x0101 t ∧ keeps (replyParts r.carrier) s t) ∧
    (v ≤ 7 → sch.defines v = false → ∃ t, exec (.scheduleModeRequest r v) s = .next t ∧ replied r 2 0x0222 t ∧ keeps (replyParts r.carrier) s t) ∧
    (sch.defines v = true → s.efl.master = false → ∃ t, exec (.scheduleModeRequest r v) s = .next t ∧ replied r 2 0x0221 t ∧
      keeps (replyParts r.carrier) s t) ∧
    (sch.defines v = true → s.efl.master = true → s.efl.inaug = false → v = s.efl.mode → ∃ t, exec (.scheduleModeRequest r v) s = .next t ∧
      replied r 2 0x0224 t ∧ keeps (replyParts r.carrier) s t)) ∧
  (∀ n v stage, n < 4 → v < 256 →
    ((s.cenv.objCfg n v).dir = 1 → (spGet {} v (nth {} n s.can.ctls).objs).request ≠ none → ∃ t, exec (.cancelObject r n v stage) s = .next t ∧
      replied r 2 0 t ∧ keeps (replyParts r.carrier ++ [.can, .totals, .sent, .evt, .notices, .pair]) s t) ∧
    ((s.cenv.objCfg n v).dir = 1 → (spGet {} v (nth {} n s.can.ctls).objs).request = none → ∃ t, exec (.cancelObject r n v stage) s = .next t ∧
      replied r 2 0x0212 t ∧ keeps (replyParts r.carrier) s t) ∧
    ((s.cenv.objCfg n v).dir ≠ 1 → ∃ t, exec (.cancelObject r n v stage) s = .next t ∧ replied r 2 0x0107 t ∧ keeps (replyParts r.carrier) s t))

/-! ### 09 The CAN FD controllers -/

/-- Controller `n`, and message object `m` of it. -/
def canCtl (s : State) (n : Nat) : CanCtl := nth {} n s.can.ctls
def canObj (s : State) (n m : Nat) : CanObj := spGet {} m (canCtl s n).objs

/-- Parts that a command of a CAN controller may touch; a fault that retires it may also count, and hand over (R25). -/
def canParts : List Part := [.can, .totals] ++ noted
def canFaultParts : List Part := [.pair] ++ canParts

/-- The controllers run, and `n` is one of the four. -/
def canLive (s : State) (n : Nat) : Prop := s.dead = false ∧ s.commsUp = true ∧ n < 4 ∧ s.can.ctls.length = 4

/-- Nothing of the other controllers changes. -/
def canOthers (s t : State) (n : Nat) : Prop := t.can.ctls.length = 4 ∧ ∀ k, k ≠ n → canCtl t k = canCtl s k

/-- Nothing of the other message objects of the controller changes. -/
def objOthers (s t : State) (n m : Nat) : Prop := canOthers s t n ∧ ∀ k, k ≠ m → canObj t n k = canObj s n k

/-- A frame fits the configuration of a message object: format, kind, bit-rate switch and length (R444, R451). -/
def fitsObj (s : State) (n m : Nat) (f : CanFrame) : Prop :=
  (s.cenv.objCfg n m).fd = f.fd ∧ (s.cenv.objCfg n m).brs = f.brs ∧ (s.cenv.objCfg n m).ext = f.ext ∧ (s.cenv.objCfg n m).len = f.data.length

/-- CAN_FRAME_RECEIVED (R449, R451), REMOTE_FRAME_RECEIVED (R440), CAN_FRAME_TRANSMITTED (R454, R456, R457). The error counters that a frame
leaves are the command's operands, as ISO 11898-1 has them. -/
def Obligations.CanFrameEffects : Prop := ∀ (s : State) (n rel tec rcv m : Nat), canLive s n → (canCtl s n).state.up = true →
  (∀ f, acceptFrame (s.cenv.rules n) f = some m → (canObj s n m).retired = false →
    (fitsObj s n m f → ∃ t, exec (.canFrameReceived n rel tec rcv f) s = .next t ∧ keeps canParts s t ∧ objOthers s t n m ∧ t.emitted = [] ∧
      canObj t n m = { canObj s n m with stored := some f.data, seen := false, frames := add32 (canObj s n m).frames 1 } ∧
      (canCtl t n).accepted = add32 (canCtl s n).accepted 1 ∧ (canCtl t n).rejected = (canCtl s n).rejected ∧
      (canCtl t n).tec = tec ∧ (canCtl t n).rcv = rcv ∧ ((canObj s n m).seen = false → occurred 173 s t) ∧ t.can.tx = s.can.tx ∧
      (s.can.defs.find? (fun d => d.stream == (s.cenv.objCfg n m).binding && !d.transmit) = none → t.can.rx = s.can.rx) ∧
      (∀ d x, s.can.defs.find? (fun d => d.stream == (s.cenv.objCfg n m).binding && !d.transmit) = some d → d.cls = 1 →
        s.can.rx.find? (fun y => y.stream == d.stream) = some x → t.can.rx = s.can.rx.map (fun y =>
          if y.stream == d.stream then (judgeCanTelegram d (netTick (canCtl s n) rel % 2 ^ 32) f.data x).1 else y))) ∧
    (¬ fitsObj s n m f → ∃ t, exec (.canFrameReceived n rel tec rcv f) s = .next t ∧ keeps canParts s t ∧ canOthers s t n ∧ t.emitted = [] ∧
      canCtl t n = setCounters tec rcv (canCtl s n) ∧ t.can.rx = s.can.rx ∧ occurred 174 s t)) ∧
  (∀ f, acceptFrame (s.cenv.rules n) f = some m → (canObj s n m).retired = true →
    ∃ t, exec (.canFrameReceived n rel tec rcv f) s = .next t ∧ keeps [.can, .totals, .sent] s t ∧ canOthers s t n ∧ t.can.rx = s.can.rx ∧
      canCtl t n = { setCounters tec rcv (canCtl s n) with rejected := add32 (canCtl s n).rejected 1 }) ∧
  (∀ f, acceptFrame (s.cenv.rules n) f = none →
    (anyRule (s.cenv.rules n) f = true → ∃ t, exec (.canFrameReceived n rel tec rcv f) s = .next t ∧ keeps [.can, .totals, .sent] s t ∧
      canOthers s t n ∧ t.can.rx = s.can.rx ∧ canCtl t n = setCounters tec rcv (canCtl s n)) ∧
    (anyRule (s.cenv.rules n) f = false → ∃ t, exec (.canFrameReceived n rel tec rcv f) s = .next t ∧ keeps [.can, .totals, .sent] s t ∧
      canOthers s t n ∧ t.can.rx = s.can.rx ∧
      canCtl t n = { setCounters tec rcv (canCtl s n) with rejected := add32 (canCtl s n).rejected 1 })) ∧
  (∃ t, exec (.remoteFrameReceived n) s = .next t ∧ keeps canParts s t ∧ canOthers s t n ∧ t.emitted = [] ∧ occurred 175 s t ∧
    canCtl t n = { canCtl s n with rejected := add32 (canCtl s n).rejected 1 }) ∧
  (∀ data, (canCtl s n).state.sends = true → (canObj s n m).request = some data →
    (∃ t, exec (.canFrameTransmitted n m tec rcv .sent) s = .next t ∧ keeps canParts s t ∧ canOthers s t n ∧ t.can.rx = s.can.rx ∧
      t.emitted = [Output.can (CanTx.mk n (CanFrame.mk (s.cenv.objCfg n m).ext (s.cenv.objCfg n m).id (s.cenv.objCfg n m).fd
        (s.cenv.objCfg n m).brs data))] ∧ (canCtl t n).sent = add32 (canCtl s n).sent 1 ∧
      (canObj t n m).frames = add32 (canObj s n m).frames 1 ∧ ((canObj s n m).byWrite = true → (canCtl t n).cancelOutcome = 2) ∧
      ((canCtl s n).dictQ = [] → objOthers s t n m ∧
        ((canObj s n m).next = none → (canObj t n m).request = none ∧ (canObj t n m).outcome = 2) ∧
        (∀ d, (canObj s n m).next = some d → (canObj t n m).request = some d ∧ (canObj t n m).outcome = 1)) ∧
      (∀ d rest, (canCtl s n).dictQ = d :: rest → (canObj s n m).next = none →
        (s.cenv.objCfgs n).find? (fun o => o.dir == 1 && o.binding == 0xFFFE) = some (s.cenv.objCfg n m) →
        (canObj t n m).request = some d ∧ (canObj t n m).outcome = 1 ∧ (canCtl t n).dictQ = rest)) ∧
    (∃ t, exec (.canFrameTransmitted n m tec rcv .error) s = .next t ∧ keeps canParts s t ∧ objOthers s t n m ∧ t.emitted = [] ∧
      (canCtl t n).tec = tec ∧ (canCtl t n).rcv = rcv ∧ t.can.rx = s.can.rx ∧
      ((canObj s n m).cancelling = false → canObj t n m = { canObj s n m with stage := .retransmit }) ∧
      ((canObj s n m).cancelling = true → (canObj s n m).next = none → (canObj t n m).request = none ∧ (canObj t n m).outcome = 4 ∧ occurred 176 s t)) ∧
    (∃ t, exec (.canFrameTransmitted n m tec rcv .lost) s = .next t ∧ keeps [.can, .totals, .sent] s t ∧ objOthers s t n m ∧ t.emitted = [] ∧
      t.can.rx = s.can.rx ∧
      ((canObj s n m).cancelling = false → canObj t n m = { canObj s n m with stage := .pending }) ∧
      ((canObj s n m).cancelling = true → (canObj s n m).next = none → (canObj t n m).request = none ∧ (canObj t n m).outcome = 3)))

/-- ERROR_PASSIVE_ENTRY, BUS_OFF, BUS_OFF_RECOVERY, CAN_FAULT_RETRY_END, PROTOCOL_ERROR (R440, R470, R471); SEND_REFERENCE_MESSAGE,
REFERENCE_MESSAGE, TIME_MASTER_TAKEOVER, TIME_SYNC_LOST (R460 to R463). -/
def Obligations.CanFaultsAndTime : Prop := ∀ (s : State) (n per : Nat) (x : CanCtl), canLive s n → x = canCtl s n → per = s.par (0x7830 + n) 4 →
  (x.state = .active → ∃ t, exec (.errorPassiveEntry n) s = .next t ∧ keeps canParts s t ∧ canOthers s t n ∧ occurred (160 + n) s t ∧
    canCtl t n = { x with state := .passive, passiveRetry := some (x.passiveRetry.getD s.frame.tick) }) ∧
  (x.state.sends = true → x.busOffRetry = none → ∃ t, exec (.busOff n) s = .next t ∧ keeps canParts s t ∧ canOthers s t n ∧
    occurred (164 + n) s t ∧ canCtl t n = { x with state := .busOff, busOffRetry := some (s.frame.tick, none, false) }) ∧
  (∀ found done, x.state.sends = true → x.busOffRetry = some (found, done, false) → ∃ t, exec (.busOff n) s = .next t ∧
    keeps canFaultParts s t ∧ canOthers s t n ∧ occurred (164 + n) s t ∧ occurred (168 + n) s t ∧ (canCtl t n).state = .retired ∧
    (canCtl t n).keeps = false ∧ ∀ m d, (canObj s n m).request = some d → (canObj t n m).request = none ∧ (canObj t n m).outcome = 3) ∧
  (∀ found done l, x.state.sends = true → x.busOffRetry = some (found, done, true) → l = lastN (s.par 0x7810 1) (x.faults ++ [found]) →
    ∃ t, exec (.busOff n) s = .next t ∧ keeps canFaultParts s t ∧ canOthers s t n ∧ occurred (164 + n) s t ∧ (canCtl t n).faults = l ∧
      t.totals.can = add32 s.totals.can 1 ∧
      ((l.length < s.par 0x7810 1 ∨ s.par 0x7810 2 * 4000 ≤ found - l.headD found) → (canCtl t n).state = .busOff ∧
        (canCtl t n).busOffRetry = some (s.frame.tick, none, false))) ∧
  (x.state = .busOff → ∃ t, exec (.busOffRecovery n) s = .next t ∧ keeps [.can, .totals, .sent] s t ∧ canOthers s t n ∧
    canCtl t n = { x with state := .active, tec := 0, rcv := 0, busOffRetry := x.busOffRetry.map (fun p => (p.1, some s.frame.tick, p.2.2)) }) ∧
  (∀ found l, x.passiveRetry = some found → x.busOffRetry = none → found + 4000 ≤ s.frame.tick → l = lastN (s.par 0x7810 1) (x.faults ++ [found]) →
    (x.state = .active → ∃ t, exec (.canFaultRetryEnd n) s = .next t ∧ keeps canFaultParts s t ∧ canOthers s t n ∧
      t.totals.can = add32 s.totals.can 1 ∧ (canCtl t n).faults = l ∧ (canCtl t n).passiveRetry = none ∧
      (s.par 0x7810 1 ≤ l.length → found - l.headD found < s.par 0x7810 2 * 4000 → (canCtl t n).state = .retired ∧ occurred (168 + n) s t) ∧
      ((l.length < s.par 0x7810 1 ∨ s.par 0x7810 2 * 4000 ≤ found - l.headD found) → (canCtl t n).state = .active)) ∧
    (x.state = .passive → ∃ t, exec (.canFaultRetryEnd n) s = .next t ∧ keeps canFaultParts s t ∧ canOthers s t n ∧
      (canCtl t n).state = .retired ∧ occurred (168 + n) s t)) ∧
  (∀ code dph tec rcv, x.state.up = true → ∃ t, exec (.protocolError n code dph tec rcv) s = .next t ∧ keeps [.can, .totals, .sent] s t ∧
    canOthers s t n ∧ canCtl t n = { x with lastErr := some (code % 8, dph), tec := tec, rcv := rcv }) ∧
  (∀ rel, x.state.sends = true → x.master = true → masterMode s.sys.mode = true → x.lastSent + per ≤ s.frame.tick →
    ∃ t time, exec (.sendReferenceMessage n rel) s = .next t ∧ keeps [.can, .totals, .sent, .free] s t ∧ canOthers s t n ∧
      (∀ p, x.refLatch = some p → time = p.2 % 2 ^ 48) ∧
      t.emitted = [Output.can (CanTx.mk n (CanFrame.mk false (x.base + x.index) false false
        ([BitVec.ofNat 8 (x.index * 32), BitVec.ofNat 8 ((x.refCount + 1) % 256)] ++ toBE 6 time)))] ∧
      (canCtl t n).refLatch = some ((x.refCount + 1) % 256, x.netNs + rel) ∧ (canCtl t n).lastSent = s.frame.tick) ∧
  (x.role = 2 → x.state.sends = true → x.keeps = true → x.master = false → masterMode s.sys.mode = true →
    x.lastRef + (3 + x.index) * per ≤ s.frame.tick → ∃ t, exec (.timeMasterTakeover n) s = .next t ∧ keeps canParts s t ∧ canOthers s t n ∧
      occurred 177 s t ∧ (canCtl t n).master = true ∧ (canCtl t n).netNs = x.netNs ∧ (canCtl t n).masterIdx = some x.index) ∧
  (x.master = false → x.keeps = true → (x.synced = true ∨ x.stepped = true) → x.lastOffset + 3 * per ≤ s.frame.tick → ∃ t, exec (.timeSyncLost n) s = .next t ∧
    keeps canParts s t ∧ canOthers s t n ∧ (x.synced = true → occurred 180 s t) ∧ (canCtl t n).synced = false ∧ (canCtl t n).stepped = false) ∧
  (∀ rel idx k time, x.state.up = true → x.keeps = true →
    (x.master = true → idx < x.index → ∃ t, exec (.referenceMessage n rel idx k time) s = .next t ∧ keeps canParts s t ∧ canOthers s t n ∧
      (canCtl t n).master = false ∧ (canCtl t n).masterIdx = some idx ∧ (x.masterIdx ≠ some idx → occurred 178 s t)) ∧
    (∀ p, x.master = false → x.refLatch = some p → (p.1 + 1) % 256 ≠ k → ∃ t, exec (.referenceMessage n rel idx k time) s = .next t ∧
      keeps canParts s t ∧ canOthers s t n ∧ (canCtl t n).offset = x.offset ∧ (canCtl t n).netNs = x.netNs ∧
      (canCtl t n).refLatch = some (k, x.netNs + rel)) ∧
    (x.master = false → x.masterIdx ≠ some idx → ∃ t, exec (.referenceMessage n rel idx k time) s = .next t ∧
      keeps canParts s t ∧ canOthers s t n ∧ occurred 178 s t ∧ (canCtl t n).masterIdx = some idx ∧ (canCtl t n).offset = x.offset ∧
      (canCtl t n).netNs = x.netNs ∧ (canCtl t n).refLatch = some (k, x.netNs + rel)) ∧
    (x.master = true → x.index ≤ idx → ∃ t, exec (.referenceMessage n rel idx k time) s = .next t ∧ keeps canParts s t ∧
      t.can = s.can) ∧
    (∀ (p : Nat × Nat) (o : Int), x.master = false → x.masterIdx = some idx → x.refLatch = some p → (p.1 + 1) % 256 = k →
      o = (p.2 : Int) - ((p.2 / 2 ^ 48 * 2 ^ 48 + time % 2 ^ 48 : Nat) : Int) →
      ∃ t, exec (.referenceMessage n rel idx k time) s = .next t ∧ keeps canParts s t ∧ canOthers s t n ∧ (canCtl t n).offset = o ∧
        (x.stepped = false → (canCtl t n).netNs = ((x.netNs : Int) - o).toNat ∧ (canCtl t n).stepped = true) ∧
        (x.stepped = true → o.natAbs ≤ 10000 → (canCtl t n).netNs = x.netNs ∧ (canCtl t n).slewNs = -o ∧
          (o.natAbs < 2000 → 3 ≤ x.goodRun → x.synced = false → (canCtl t n).synced = true ∧ occurred 179 s t)) ∧
        (x.stepped = true → 10000 < o.natAbs → (canCtl t n).synced = false ∧ (canCtl t n).stepped = false ∧ (canCtl t n).netNs = x.netNs ∧
          (x.synced = true → occurred 180 s t))))

/-! ### 11 Frames, sessions and notifications of the dictionary -/

/-- The request in a frame, and the bytes that its tag covers. -/
def reqOf (f : DictFrame) : Req := { carrier := f.carrier, session := f.session, seq := f.seq, peer := f.peer }
def headOf (f : DictFrame) : List Byte := frameHead f.version f.op f.session f.seq f.status f.len f.body

/-- A frame of operation `op` that a running server takes up in the open session of slot `k`, its next SEQ and its tag right. -/
def inSession (s : State) (f : DictFrame) (op k : Nat) (x : Session) : Prop :=
  f.sound = true ∧ f.op = op ∧ findSlot f.session s.dict = some k ∧ s.session k = x ∧ takesUp (reqOf f) s x ∧ f.tag = tagFor (some x) (headOf f)

/-- A frame of operation `op` outside any session. -/
def noSession (s : State) (f : DictFrame) (op : Nat) : Prop :=
  s.dead = false ∧ s.serverUp f.carrier = true ∧ f.sound = true ∧ f.op = op ∧ f.session = 0 ∧ f.tag = zeros 16

/-- A reply with its body. -/
def repliedWith (r : Req) (op status : Nat) (body : List Byte) (t : State) : Prop :=
  ∃ rep : DictReply, Output.dict rep ∈ t.emitted ∧ rep.carrier = r.carrier ∧ rep.op = op + 0x80 ∧ rep.session = r.session ∧
    rep.seq = r.seq ∧ rep.status = status ∧ rep.body = body

/-- A frame with a wrong MAGIC, VERSION, LEN or CRC is discarded and counted; one of a session with a wrong tag is answered 0x030A (R530). -/
def checksFrame (i : DictFrame → Instr) (op : Nat → Prop) : Prop := ∀ (s : State) (f : DictFrame), s.dead = false → s.serverUp f.carrier = true → op f.op →
  (f.sound = false → ∃ t, exec (i f) s = .next t ∧ t.dict = { s.dict with discarded := add32 s.dict.discarded 1 } ∧ t.emitted = [] ∧
    keeps [.dict, .sent] s t) ∧
  (∀ k, f.sound = true → f.session ≠ 0 → findSlot f.session s.dict = some k → f.tag ≠ tagFor (some (s.session k)) (headOf f) →
    ∃ t, exec (i f) s = .next t ∧ replied (reqOf f) f.op 0x030A t ∧ (t.session k).lastSeq = (s.session k).lastSeq ∧
      (t.session k).stored = (s.session k).stored ∧ (t.session k).phase = (s.session k).phase ∧ keeps (replyParts f.carrier) s t)

/-- READ (R519, R521), WRITE (R520, R534, R536), PING (R529), SUBSCRIBE (R547), UNKNOWN_OPERATION (R531), CAN_SEGMENT (R527). -/
def Obligations.DictionaryFrames : Prop :=
  (checksFrame .readEntry (· = 1) ∧ checksFrame .writeEntry (· = 2) ∧ checksFrame .openSession (· = 3) ∧ checksFrame .proveSession (· = 4) ∧
    checksFrame .closeSession (· = 5) ∧ checksFrame .ping (· = 6) ∧ checksFrame .subscribe (· = 0x11) ∧
    checksFrame .unknownOperation (fun n => n ∉ [1, 2, 3, 4, 5, 6, 0x11] ∧ n < 128)) ∧
  ∀ (s : State) (f : DictFrame) (k index sub : Nat) (x : Session), index = beAt 0 2 f.body → sub = beAt 2 1 f.body →
  (noSession s f 1 ∨ inSession s f 1 k x →
    (∀ e, f.body.length = 10 → beAt 3 1 f.body = 0 → entryInfo s.atLatch index sub = some e → served s.sys.mode index sub = true →
      (e.right.readable = true → ∃ t, exec (.readEntry f) s = .next t ∧ keeps (replyParts f.carrier ++ [.free]) s t ∧
        repliedWith (reqOf f) 1 0 (readBody index sub (beAt 4 4 f.body) (beAt 8 2 f.body) (bodyLimit f.carrier) e) t) ∧
      (e.right.readable = false → ∃ t, exec (.readEntry f) s = .next t ∧ replied (reqOf f) 1 0x0308 t ∧ keeps (replyParts f.carrier) s t)) ∧
    (f.body.length = 10 → entryInfo s.atLatch index sub = none → ∃ t, exec (.readEntry f) s = .next t ∧ replied (reqOf f) 1 0x0110 t ∧
      keeps (replyParts f.carrier) s t) ∧
    (f.body.length ≠ 10 → ∃ t, exec (.readEntry f) s = .next t ∧ replied (reqOf f) 1 0x0115 t ∧ keeps (replyParts f.carrier) s t)) ∧
  (inSession s f 2 k x → 12 ≤ f.body.length → beAt 8 1 f.body ≤ 1 → beAt 9 3 f.body = 0 →
    (∀ q before, before = (match x.segments with
        | some h => if h.index = index ∧ h.sub = sub ∧ beAt 4 4 f.body ≠ 0 ∧ beAt 3 1 f.body = 0x0C then h.data else []
        | none => []) →
      q = { req := reqOf f, index := index, sub := sub, typ := beAt 3 1 f.body, offset := beAt 4 4 f.body, data := before ++ f.body.drop 12 } →
      beAt 4 4 f.body = before.length →
      ((beAt 8 1 f.body) % 2 = 1 → s.dict.staged.length < 32 → ∃ t, exec (.writeEntry f) s = .next t ∧ t.dict.staged = s.dict.staged ++ [q] ∧
        t.session k = { x with busy := true, segments := none, lastUsed := s.frame.tick } ∧ t.emitted = [] ∧ keeps [.dict, .notices, .sent] s t) ∧
      ((beAt 8 1 f.body) % 2 = 1 → 32 ≤ s.dict.staged.length → ∃ t, exec (.writeEntry f) s = .next t ∧
        t.dict = { s.dict with dropped := add32 s.dict.dropped 1 } ∧ t.emitted = [] ∧ keeps [.dict, .sent] s t) ∧
      ((beAt 8 1 f.body) % 2 = 0 → beAt 3 1 f.body = 0x0C → ∃ t, exec (.writeEntry f) s = .next t ∧ replied (reqOf f) 2 0 t ∧
        (t.session k).segments = some { index := index, sub := sub, data := q.data } ∧ t.dict.staged = s.dict.staged ∧ keeps (replyParts f.carrier) s t)) ∧
    (beAt 3 1 f.body = 0x0C → x.segments = none → beAt 4 4 f.body ≠ 0 → ∃ t, exec (.writeEntry f) s = .next t ∧
      replied (reqOf f) 2 0x0114 t ∧ (t.session k).segments = none ∧ keeps (replyParts f.carrier) s t)) ∧
  (inSession s f 6 k x → f.body = [] → ∃ t, exec (.ping f) s = .next t ∧ replied (reqOf f) 6 0 t ∧ (t.session k).lastSeq = f.seq ∧
    keeps (replyParts f.carrier) s t) ∧
  (inSession s f 0x11 k x → f.body.length = 32 → ∃ t, exec (.subscribe f) s = .next t ∧ replied (reqOf f) 0x11 0 t ∧
    (∀ e, e < 256 → (t.session k).bitmap.getLsbD e = (nth 0 (e / 8) f.body).getLsbD (e % 8)) ∧ keeps (replyParts f.carrier) s t) ∧
  (f.op ∉ [1, 2, 3, 4, 5, 6, 0x11] → (noSession s f f.op ∨ inSession s f f.op k x) → ∃ t, exec (.unknownOperation f) s = .next t ∧
    replied (reqOf f) (f.op % 128) 0x0115 t ∧ keeps (replyParts f.carrier) s t) ∧
  (∀ n seg head, n < 4 → s.dead = false → s.serverUp .can = true → seg.length = 64 → head = beAt 0 1 seg →
    (128 ≤ head → head % 128 = 0 → ∃ t, exec (.canSegment n seg) s = .next t ∧
      t.dict.reassembly.lookup n = some { next := 1, data := seg.drop 1 } ∧ t.emitted = [] ∧ keeps [.dict, .sent] s t) ∧
    (∀ y, head < 128 → s.dict.reassembly.lookup n = some y → head % 64 ≠ y.next % 64 → ∃ t, exec (.canSegment n seg) s = .next t ∧
      t.dict.reassembly.lookup n = none ∧ t.emitted = [] ∧ keeps [.dict, .sent] s t) ∧
    (∀ y g c, head < 128 → head.testBit 6 = true → s.dict.reassembly.lookup n = some y → head % 64 = y.next % 64 →
      readDictFrame .can n (y.data ++ seg.drop 1) = some g → c = { s with dict := { s.dict with reassembly := s.dict.reassembly.filter (fun p => p.1 != n) } } →
      ∃ t, exec (.canSegment n seg) s = .next t ∧ (g.op = 1 → exec (.readEntry g) c = .next t) ∧ (g.op = 2 → exec (.writeEntry g) c = .next t) ∧
        (g.op = 3 → exec (.openSession g) c = .next t) ∧ (g.op = 6 → exec (.ping g) c = .next t)))

/-- OPEN, PROVE (R538, R539), CLOSE, SESSION_EXPIRED (R542), LOGIN_LOCKOUT_END (R539), NOTIFY (R547, R548), ICMP_ECHO_REQUEST and ARP_REQUEST
(R526). Session IDs and nonces are free values. -/
def Obligations.SessionRequestsAndExpiries : Prop := ∀ (s : State) (k : Nat),
  (∀ (f : DictFrame) (level : Nat), noSession s f 3 → f.body.length = 20 → level = beAt 0 1 f.body → level ≤ 2 → slice 1 3 f.body = zeros 3 →
    carrierPermits s level f.carrier = true →
    ((indices (fun (x : Session) => x.phase == .free) s.dict.sessions).head? = some k →
      (level = 0 ∨ (lockedOut s f.carrier = false ∧ passwordSet level s.dict = true)) →
      (level = 2 → ∀ x ∈ s.dict.sessions, x.phase ≠ .free → x.level ≠ 2) →
      ∃ t, exec (.openSession f) s = .next t ∧ keeps (replyParts f.carrier ++ [.evt, .free]) s t ∧
        (t.session k).level = level ∧ (t.session k).carrier = f.carrier ∧ (t.session k).lastSeq = f.seq ∧ (t.session k).id ≠ 0 ∧
        (level = 0 → (t.session k).phase = .opened ∧ occurred 233 s t) ∧ (level ≠ 0 → (t.session k).phase = .proving) ∧
        ∃ rep, Output.dict rep ∈ t.emitted ∧ rep.op = 0x83 ∧ rep.status = 0 ∧ rep.session = (t.session k).id ∧ rep.seq = f.seq ∧
          rep.body.drop (rep.body.length - 16) = (t.session k).modNonce) ∧
    ((∀ x ∈ s.dict.sessions, x.phase ≠ .free) → level = 0 → ∃ t, exec (.openSession f) s = .next t ∧ replied (reqOf f) 3 0x0406 t ∧
      keeps (replyParts f.carrier) s t) ∧
    (level ≠ 0 → lockedOut s f.carrier = true → ∃ t, exec (.openSession f) s = .next t ∧ replied (reqOf f) 3 0x0305 t ∧ keeps (replyParts f.carrier) s t) ∧
    (level ≠ 0 → lockedOut s f.carrier = false → passwordSet level s.dict = false → ∃ t, exec (.openSession f) s = .next t ∧
      replied (reqOf f) 3 0x0306 t ∧ keeps (replyParts f.carrier) s t)) ∧
  (∀ (f : DictFrame) (x : Session) (p : Password), s.dead = false → s.serverUp f.carrier = true → f.sound = true → f.op = 4 → f.session ≠ 0 →
    findSlot f.session s.dict = some k → s.session k = x → x.phase = .proving → x.busy = false → f.seq = add32 x.lastSeq 1 → f.seq ≠ x.lastSeq →
    f.tag = zeros 16 → f.body.length = 32 → (x.level = 1 ∨ x.level = 2) → (if x.level = 2 then s.dict.engineer else s.dict.maintainer) = some p →
    (f.body = hmac256 p.key (x.modNonce ++ x.hostNonce ++ toBE 1 x.level ++ toBE 4 x.id) → ∃ t, exec (.proveSession f) s = .next t ∧
      replied (reqOf f) 4 0 t ∧ (t.session k).phase = .opened ∧ (t.session k).key = hmac256 p.key (x.modNonce ++ x.hostNonce ++ [0x53]) ∧
      (t.session k).level = x.level ∧ occurred 233 s t ∧ keeps (replyParts f.carrier ++ [.evt]) s t) ∧
    (f.body ≠ hmac256 p.key (x.modNonce ++ x.hostNonce ++ toBE 1 x.level ++ toBE 4 x.id) → ∃ t, exec (.proveSession f) s = .next t ∧
      replied (reqOf f) 4 0x0303 t ∧ t.session k = {} ∧ occurred 236 s t ∧ t.dict.failedProofs = add32 s.dict.failedProofs 1 ∧
      keeps (replyParts f.carrier ++ [.evt, .dict]) s t ∧
      (∀ t0 t1, s.dict.proofFails.lookup f.carrier.num = some [t0, t1] → s.frame.tick - t0 < 240000 → occurred 237 s t ∧
        t.dict.lockedUntil.lookup f.carrier.num = some (s.frame.tick + 1200000)))) ∧
  (∀ f x, inSession s f 5 k x → f.body = [] → ∃ t, exec (.closeSession f) s = .next t ∧ replied (reqOf f) 5 0 t ∧ t.session k = {} ∧
    occurred 234 s t ∧ keeps (replyParts f.carrier ++ [.evt]) s t) ∧
  (s.dead = false →
    ((s.session k).phase ≠ .free → (s.session k).lastUsed + s.par 0x1200 2 * 4000 ≤ s.frame.tick → ∃ t, exec (.sessionExpired k) s = .next t ∧
      t.session k = {} ∧ occurred 235 s t ∧ keeps noted s t) ∧
    (s.frame.tick < (s.session k).lastUsed + s.par 0x1200 2 * 4000 → ∃ t, exec (.sessionExpired k) s = .next t ∧ keeps [.sent] s t) ∧
    (∀ (c : Carrier) (u : Nat), s.dict.lockedUntil.lookup c.num = some u →
      (u ≤ s.frame.tick → ∃ t, exec (.loginLockoutEnd c) s = .next t ∧ t.dict.lockedUntil.lookup c.num = none ∧ lockedOut t c = false ∧
        keeps [.dict, .sent] s t) ∧
      (s.frame.tick < u → ∃ t, exec (.loginLockoutEnd c) s = .next t ∧ keeps [.sent] s t)) ∧
    (∀ x q, s.session k = x → x.queue.find? (fun y => y.event == q.event) = some q → x.phase = .opened → s.serverUp x.carrier = true →
      (∀ u, x.lastSent.lookup q.event = some u → u + 400 ≤ s.frame.tick) → ∃ t, exec (.notify k q.event) s = .next t ∧
        keeps (replyParts x.carrier) s t ∧ (t.session k).noticeSeq = add32 x.noticeSeq 1 ∧
        (x.carrier ≠ .efavo → x.carrier ≠ .can → (t.session k).queue = x.queue.filter (fun y => y.event != q.event)) ∧
        ∃ rep, Output.dict rep ∈ t.emitted ∧ rep.op = 0x10 ∧ rep.session = x.id ∧ rep.carrier = x.carrier ∧
          rep.body = toBE 1 q.event ++ zeros 1 ++ toBE 2 q.count ++ toBE 8 q.tick) ∧
    (∀ x e u, s.session k = x → x.lastSent.lookup e = some u → s.frame.tick < u + 400 → ∃ t, exec (.notify k e) s = .next t ∧ keeps [.sent] s t ∧
      t.emitted = []) ∧
    (s.pwr.lost.testBit 5 = false →
      (∀ port bs, ∃ t, exec (.icmpEchoRequest port bs) s = .next t ∧ t.emitted = [Output.icmp port bs] ∧ keeps [.sent] s t) ∧
      (∀ port ip, (ip = nth 0 (if port = 0 then 0 else 2) s.dict.eth → ∃ t, exec (.arpRequest port ip) s = .next t ∧
          t.emitted = [Output.arp port ip] ∧ keeps [.sent] s t) ∧
        (ip ≠ nth 0 (if port = 0 then 0 else 2) s.dict.eth → ∃ t, exec (.arpRequest port ip) s = .next t ∧ t.emitted = [] ∧ keeps [.sent] s t))))

/-! ### 11 and 13 Parameters, passwords, keys, records; images and activation -/

/-- Parts that counting windows and parameter values stand in (R58). -/
def parParts : List Part := [.params, .lanes, .fio, .efl, .can]

/-- A carrier whose replies touch nothing else. -/
def plainCarrier (c : Carrier) : Prop := c = .eth0 ∨ c = .eth1 ∨ c = .console

/-- WRITE of a parameter at the latch (R58, R520), PARAMETER_SET (R524), RESTORE_DEFAULTS (R558), PASSWORD_WRITE (R542, R544, R545),
EVENT_FLAG_CLEAR (R557), EXPORT_ACKNOWLEDGEMENT (R555), CLEAR_DIAGNOSTIC_RECORDS (R340), INTEGRATOR_KEY_WRITE (R603). -/
def Obligations.ParameterRequests : Prop := ∀ (s : State) (r : Req),
  (∀ q d v x, s.dict.staged = [q] → spWf parUnset s.params = true → parDef q.index q.sub = some d → q.typ = d.typ.code → d.typ.size = some q.data.length → v = beNat q.data →
    d.range.has v = true → parSpecial q.index q.sub v { s with params := parPut s.params q.index q.sub v } = 0 → parMode q.index d s = [0, 0, 0] →
    served s.sys.mode q.index q.sub = true → s.sys.mode ≠ .recovery →
    q.req.session ≠ 0 → s.sessionOf q.req.session = some x → x.phase = .opened → 2 ≤ x.level → passwordSet 2 s.dict = true → mayLog 1 s →
    (applyStaged s).par q.index q.sub = v ∧ replied q.req 2 0 (applyStaged s) ∧ occurred 238 s (applyStaged s) ∧
      logged q.req 1 q.index q.sub (s.par q.index q.sub) v s (applyStaged s) ∧ (applyStaged s).dict.staged = [] ∧
      keeps (replyParts q.req.carrier ++ [.dict, .evt] ++ parParts) s (applyStaged s)) ∧
  (mayWrite r 2 s → mayLog 1 s → s.sys.mode = .configure →
    (∀ bs, ∃ t, exec (.parameterSet r bs) s = .next t ∧ replied r 2 (judgeSet bs s).1 t ∧
      if (judgeSet bs s).1 = 0 then
        t.params = (judgeSet bs s).2.foldl (fun ps v => parPut ps v.1 v.2.1 v.2.2) s.params ∧ occurred 238 s t ∧ occurred 239 s t ∧
        logged r 3 0x1100 1 (paramSetCrc s.params) (paramSetCrc t.params) s t ∧ keeps (replyParts r.carrier ++ [.dict, .evt] ++ parParts) s t
      else keeps (replyParts r.carrier) s t) ∧
    (∀ bs, 20 ≤ bs.length → crc32c (bs.take (bs.length - 4)) ≠ beAt (bs.length - 4) 4 bs → ∃ t, exec (.parameterSet r bs) s = .next t ∧
      replied r 2 0x0603 t ∧ keeps (replyParts r.carrier) s t) ∧
    (spWf parUnset s.params = true → ∃ t, exec (.restoreDefaults r 1) s = .next t ∧ replied r 2 0 t ∧ occurred 238 s t ∧
      (∀ p ∈ parEntries, t.par p.1 p.2.1 = p.2.2.dflt) ∧ logged r 3 0x1100 3 (paramSetCrc s.params) (paramSetCrc t.params) s t ∧
      keeps (replyParts r.carrier ++ [.dict, .evt] ++ parParts) s t) ∧
    (∀ v, v ≠ 1 → ∃ t, exec (.restoreDefaults r v) s = .next t ∧ replied r 2 0x0101 t ∧ keeps (replyParts r.carrier) s t) ∧
    (∀ sub bs, r.carrier = .console → 1 ≤ sub → sub ≤ 4 → bs.length = 32 →
      (∀ x ∈ s.upd.usedSlots, ∀ h, x.header = some h → h.keySet = 3 → h.keySlot ≠ sub - 1) → ∃ t, exec (.integratorKeyWrite r sub bs) s = .next t ∧
        replied r 2 0 t ∧ occurred 238 s t ∧ t.upd = { s.upd with keys := modNth (sub - 1) (fun _ => bs) s.upd.keys } ∧
        logged r 1 0xA070 sub (crc64 (nth [] (sub - 1) s.upd.keys)) (crc64 bs) s t ∧ keeps (replyParts r.carrier ++ [.dict, .evt, .upd]) s t)) ∧
  (mayWrite r 2 s → mayLog 1 s → s.sys.mode ≠ .configure → ∀ bs, ((judgeSet bs s).1 = 0 ∨ (judgeSet bs s).1 = 0x0603) → ∃ t, exec (.parameterSet r bs) s = .next t ∧
    replied r 2 0x0201 t ∧ keeps (replyParts r.carrier) s t) ∧
  (∀ sub bs, mayWrite r 2 s → mayLog 1 s → s.sys.mode ≠ .boot → s.sys.mode ≠ .recovery → (sub = 1 ∨ sub = 2) → 8 ≤ bs.length → bs.length ≤ 32 →
    (∀ b ∈ bs, 0x21 ≤ b ∧ b ≤ (0x7E : Byte)) →
    (r.carrier = .console → ∃ t p, exec (.passwordWrite r sub bs) s = .next t ∧ replied r 2 0 t ∧ occurred 238 s t ∧ logged r 4 0x1210 sub 0 0 s t ∧
      p.key = sha256 (p.salt ++ bs) ∧ p.salt.length = 16 ∧
      (sub = 1 → t.dict.engineer = some p ∧ t.dict.maintainer = s.dict.maintainer) ∧
      (sub = 2 → t.dict.maintainer = some p ∧ t.dict.engineer = s.dict.engineer) ∧
      (∀ k, (s.session k).phase ≠ .free → (s.session k).level = 3 - sub → (s.session k).id ≠ r.session → t.session k = {}) ∧
      keeps (replyParts r.carrier ++ [.dict, .evt, .free]) s t) ∧
    (r.carrier ≠ .console → ∃ t, exec (.passwordWrite r sub bs) s = .next t ∧ replied r 2 0x0309 t ∧ keeps (replyParts r.carrier) s t)) ∧
  (mayWrite r 1 s → s.sys.mode ≠ .boot → s.sys.mode ≠ .recovery →
    (∀ e, e < 256 → ∃ t, exec (.eventFlagClear r e 0) s = .next t ∧ replied r 2 0 t ∧ keeps (replyParts r.carrier ++ [.evt]) s t ∧
      (plainCarrier r.carrier → t.evt = { s.evt with flags := t.evt.flags } ∧ ∀ i, i < 256 →
        t.evt.flags.getLsbD i = (s.evt.flags.getLsbD i && !(i == e && !s.evt.thisTick.getLsbD i)))) ∧
    (∀ e v, e < 256 → v ≠ 0 → ∃ t, exec (.eventFlagClear r e v) s = .next t ∧ replied r 2 0x0101 t ∧ keeps (replyParts r.carrier) s t) ∧
    (∀ v, s.lops.logExport.state = .done → v = s.dict.exportLast → ∃ t, exec (.exportAcknowledgement r v) s = .next t ∧ replied r 2 0 t ∧
      dictRest t.dict = { dictRest s.dict with sinceExport := 0 } ∧ keeps (replyParts r.carrier ++ [.dict]) s t) ∧
    (∀ v, (s.lops.logExport.state ≠ .done ∨ v ≠ s.dict.exportLast) → ∃ t, exec (.exportAcknowledgement r v) s = .next t ∧ replied r 2 0x0101 t ∧
      keeps (replyParts r.carrier) s t) ∧
    (mayLog 1 s → ∃ t, exec (.clearDiagnosticRecords r 1) s = .next t ∧ replied r 2 0 t ∧ logged r 8 0x5F00 2 0 0 s t ∧
      t.sfu = { s.sfu with diag := [] } ∧ t.sfuW = { s.sfuW with diag := [] } ∧ keeps (replyParts r.carrier ++ [.dict, .evt, .sfu, .sfuW]) s t) ∧
    (∀ v, mayLog 1 s → v ≠ 1 → ∃ t, exec (.clearDiagnosticRecords r v) s = .next t ∧ replied r 2 0x0101 t ∧ keeps (replyParts r.carrier) s t))

/-- IMAGE_HEADER (R604, R605), IMAGE_CHUNK (R607, R608, R636), FIRMWARE_ACTIVATION (R612, R613), ACTIVATION_RESTART (R613, R614). -/
def Obligations.ImageDownloadAndActivation : Prop := ∀ (s : State) (r : Req),
  (mayWrite r 1 s → s.sys.mode ≠ .boot →
    (∀ bs, bs.length = 256 → s.lops.download.live = false →
      (s.headerCheck bs = 0 → ∃ t, exec (.imageHeader r bs) s = .next t ∧ replied r 2 0 t ∧ t.upd = { s.upd with staged := some (readHeader bs) } ∧
        keeps (replyParts r.carrier ++ [.upd]) s t) ∧
      (∀ st, s.headerCheck bs = st → st ≠ 0 → ∃ t, exec (.imageHeader r bs) s = .next t ∧ replied r 2 st t ∧ occurred 248 s t ∧
        keeps (replyParts r.carrier ++ [.evt]) s t) ∧
      (leAt 0 4 bs ≠ 0x4E56494D → s.headerCheck bs = 0x0701)) ∧
    (∀ bs, bs.length ≠ 256 → s.lops.download.live = false → ∃ t, exec (.imageHeader r bs) s = .next t ∧ replied r 2 0x0112 t ∧
      keeps (replyParts r.carrier) s t) ∧
    (∀ bs n, bs.length = 8 + n → 1 ≤ n → n ≤ 65536 →
      (s.lops.download.state ≠ .running → beAt 0 8 bs = s.lops.download.progress → s.lops.download.progress + n ≤ s.lops.download.total →
        ∃ t, exec (.imageChunk r bs) s = .next t ∧ replied r 2 0x0202 t ∧ keeps (replyParts r.carrier) s t) ∧
      (s.lops.download.state = .running → beAt 0 8 bs ≠ s.lops.download.progress → ∃ t, exec (.imageChunk r bs) s = .next t ∧ replied r 2 0x0114 t ∧
        keeps (replyParts r.carrier) s t) ∧
      (s.lops.download.state = .running → beAt 0 8 bs = s.lops.download.progress → s.lops.download.total < s.lops.download.progress + n →
        ∃ t, exec (.imageChunk r bs) s = .next t ∧ replied r 2 0x0705 t ∧ keeps (replyParts r.carrier) s t) ∧
      (s.lops.download.state = .running → beAt 0 8 bs = s.lops.download.progress → s.lops.download.progress + n < s.lops.download.total →
        ∃ t, exec (.imageChunk r bs) s = .next t ∧ replied r 2 0 t ∧ t.upd = { s.upd with dlBody := s.upd.dlBody ++ bs.drop 8 } ∧
          t.lops = { s.lops with download := { s.lops.download with progress := s.lops.download.progress + n } } ∧
          keeps (replyParts r.carrier ++ [.upd, .lops]) s t) ∧
      (∀ h body, s.lops.download.state = .running → beAt 0 8 bs = s.lops.download.progress → s.lops.download.progress + n = s.lops.download.total →
        s.upd.dlHeader = some h → body = s.upd.dlBody ++ bs.drop 8 → rowOf h.cls < s.upd.slots.length → (s.upd.dlSlot = 1 ∨ s.upd.dlSlot = 2) →
        (s.sys.mode ≠ .recovery → sha512 body = h.bodyHash → crc64 body = h.bodyCrc → ∃ t, exec (.imageChunk r bs) s = .next t ∧ replied r 2 0 t ∧
          (t.upd.slot (rowOf h.cls) s.upd.dlSlot).state = .valid ∧ (t.upd.slot (rowOf h.cls) s.upd.dlSlot).header = some h ∧
          (t.upd.slot (rowOf h.cls) s.upd.dlSlot).body = body ∧ t.lops.download.state = .done ∧ occurred 246 s t ∧
          keeps (replyParts r.carrier ++ [.upd, .lops, .evt]) s t) ∧
        ((sha512 body ≠ h.bodyHash ∨ crc64 body ≠ h.bodyCrc) → ∃ t, exec (.imageChunk r bs) s = .next t ∧ replied r 2 0 t ∧
          (t.upd.slot (rowOf h.cls) s.upd.dlSlot).state = .invalid ∧ t.lops.download.state = .failed ∧
          t.lops.download.result = (if sha512 body ≠ h.bodyHash then 0x0602 else 0x0603) ∧ occurred 247 s t ∧
          keeps (replyParts r.carrier ++ [.upd, .lops, .evt]) s t) ∧
        (s.sys.mode = .recovery → rowOf h.cls < 4 → sha512 body = h.bodyHash → crc64 body = h.bodyCrc →
          (∀ row, row < 4 → row ≠ rowOf h.cls → (s.upd.slot row 1).state = .valid ∨ (s.upd.slot row 2).state = .valid) →
          ∃ t, exec (.imageChunk r bs) s = .next t ∧ replied r 2 0 t ∧ t.sys.mode = .boot ∧ t.pending = s.pending)))) ∧
  (∀ v, mayWrite r 2 s → mayLog 4 s → 1 ≤ v → v ≤ 15 → s.sys.mode ≠ .boot → s.sys.mode ≠ .recovery →
    ¬(s.sys.mode = .run ∧ s.pair.linkUp = true ∧ s.pair.partnerMode = 4) →
    ((∀ row, row < 4 → v.testBit row = true → (s.upd.slot row 2).state = .valid) → s.firmwareTooOld v = false → s.upd.activating = 0 →
      s.upd.change.state.pending = false → s.upd.slots.length = 8 → ∃ t, exec (.firmwareActivation r v) s = .next t ∧ replied r 2 0 t ∧ occurred 238 s t ∧
        t.upd.activating = v ∧ t.upd.activated = v ∧ t.upd.fromMode = (if s.sys.mode = .safe then none else some s.sys.mode) ∧
        (∀ row, row < 8 → t.upd.slot row 1 = s.upd.slot row (if row < 4 ∧ v.testBit row = true then 2 else 1) ∧
          t.upd.slot row 2 = s.upd.slot row (if row < 4 ∧ v.testBit row = true then 1 else 2)) ∧
        keeps (replyParts r.carrier ++ [.dict, .evt, .upd]) s t) ∧
    (∀ row, row < 4 → v.testBit row = true → (s.upd.slot row 2).state ≠ .valid → s.upd.activating = 0 → s.upd.change.state.pending = false →
      ∃ t, exec (.firmwareActivation r v) s = .next t ∧ replied r 2 0x0241 t ∧ keeps (replyParts r.carrier) s t)) ∧
  (∀ v, mayWrite r 2 s → mayLog 4 s → 1 ≤ v → v ≤ 15 → s.sys.mode = .run → s.pair.linkUp = true → s.pair.partnerMode = 4 →
    ∃ t, exec (.firmwareActivation r v) s = .next t ∧ replied r 2 0x0201 t ∧ keeps (replyParts r.carrier) s t) ∧
  (s.dead = false →
    (s.activationDue = true → ∃ t, exec .activationRestart s = .next t ∧ t.sys.mode = .boot ∧
      t.sys.bootKind = (if s.upd.fromMode = none then s.defaultKind else .warm) ∧ t.pending = s.pending ∧ t.frame.tick = s.frame.tick ∧
      t.ident = s.ident ∧ outputsOff t ∧ (∀ l, (t.lanes.get l).gateOpen = false) ∧ t.pair.hold = false ∧ t.upd.keys = s.upd.keys) ∧
    (s.activationDue = false → ∃ t, exec .activationRestart s = .next t ∧ keeps [.sent] s t))

/-! ### 13 On-line change and forces -/

/-- A force put or taken away, judged as its row says: KIND 5 with event 252, KIND 6 with event 253. -/
def forceSet (r : Req) (s t : State) (sub : Nat) (f : Force) : Prop :=
  replied r 2 0 t ∧ occurred 252 s t ∧ occurred 238 s t ∧ t.upd = { s.upd with forces := s.upd.forces.filter (fun x => !f.sameTarget x) ++ [f] } ∧
    logged r 5 0xA060 sub (((s.upd.forces.find? f.sameTarget).map Force.log).getD 0) f.log s t ∧ keeps (replyParts r.carrier ++ [.dict, .evt, .upd]) s t
def forceGone (r : Req) (s t : State) (sub : Nat) (f : Force) : Prop :=
  replied r 2 0 t ∧ occurred 253 s t ∧ occurred 238 s t ∧ t.upd = { s.upd with forces := s.upd.forces.filter (fun x => !f.sameTarget x) } ∧
    logged r 6 0xA060 sub (((s.upd.forces.find? f.sameTarget).map Force.log).getD 0) 0 s t ∧ keeps (replyParts r.carrier ++ [.dict, .evt, .upd]) s t

/-- PREPARE_CHANGE (R617, R618), PREPARATION_READY (R619), APPLY_CHANGE (R621), CANCEL_CHANGE (R617), ONLINE_CHANGE_HANDOVER (R623, R624, R626),
ONLINE_CHANGE_WAIT_EXPIRY (R621). -/
def Obligations.OnlineChangeRequests : Prop := ∀ (s : State) (r : Req),
  (mayWrite r 2 s → mayLog 1 s →
    (s.sys.mode = .run ∨ s.sys.mode = .standby → s.upd.change.state.pending = false → s.upd.change.stopping = false →
      ∃ t, exec (.prepareChange r) s = .next t ∧ replied r 2 0 t ∧ occurred 238 s t ∧ logged r 1 0xA050 1 0 1 s t ∧
        keeps (replyParts r.carrier ++ [.dict, .evt, .upd]) s t ∧ match s.candidate with
        | .ok c => t.upd =
          { s.upd with change := { s.upd.change with state := .preparing, result := 0, cand := some c, logged := false, due := false } }
        | .error st => occurred 250 s t ∧ t.upd =
          { s.upd with change := { s.upd.change with state := .refused, result := st, cand := none, logged := false, due := false } }) ∧
    (s.sys.mode = .configure ∨ s.sys.mode = .safe → ∃ t, exec (.prepareChange r) s = .next t ∧ replied r 2 0x0201 t ∧ keeps (replyParts r.carrier) s t) ∧
    (s.sys.mode = .run ∨ s.sys.mode = .standby → s.upd.change.state.pending = true → ∃ t, exec (.prepareChange r) s = .next t ∧ replied r 2 0x0501 t ∧
      keeps (replyParts r.carrier) s t) ∧
    (s.sys.mode = .run → s.upd.change.state = .ready → ∃ t, exec (.applyChange r) s = .next t ∧ replied r 2 0 t ∧ occurred 238 s t ∧
      t.upd = { s.upd with change := { s.upd.change with state := .waiting, waitFrom := s.frame.cycle } } ∧ logged r 1 0xA050 1 0 2 s t ∧
      keeps (replyParts r.carrier ++ [.dict, .evt, .upd]) s t) ∧
    (s.sys.mode = .run → s.upd.change.state ≠ .ready → ∃ t, exec (.applyChange r) s = .next t ∧ replied r 2 0x0202 t ∧ keeps (replyParts r.carrier) s t) ∧
    (s.sys.mode ≠ .boot → s.sys.mode ≠ .recovery →
      (s.upd.change.state.pending = true → ∃ t, exec (.cancelChange r) s = .next t ∧ replied r 2 0 t ∧ logged r 1 0xA050 1 0 3 s t ∧
        t.upd.change.state = .cancelled ∧ t.upd.change.result = 0 ∧ t.upd.change.cand = none ∧ t.upd.app = s.upd.app ∧
        keeps (replyParts r.carrier ++ [.dict, .evt, .upd]) s t) ∧
      (s.upd.change.state.pending = false → ∃ t, exec (.cancelChange r) s = .next t ∧ replied r 2 0x0202 t ∧ keeps (replyParts r.carrier) s t))) ∧
  (∀ c, s.dead = false → s.upd.change.cand = some c →
    (s.upd.change.state = .preparing → ∃ t, exec .preparationReady s = .next t ∧ keeps [.lanes, .upd, .sent] s t ∧
      t.upd = { s.upd with change := { s.upd.change with state := .ready } } ∧
      ∀ l, t.lanes.get l = if (s.lanes.get l).colour = .green then { s.lanes.get l with mem := loadCandidate s.app c.app (s.lanes.get l).mem }
        else s.lanes.get l) ∧
    (s.upd.change.state = .waiting → s.upd.change.due = true → ∃ t, exec .onlineChangeHandover s = .next t ∧ occurred 251 s t ∧ occurred 73 s t ∧
      t.upd.app = some c.app ∧ t.upd.change.state = .applied ∧ t.upd.change.applied = s.frame.cycle ∧ t.upd.change.cand = none ∧
      t.ite.shadow = [] ∧ t.frame.ctx.flags.testBit 3 = true ∧ t.frame.cycle = s.frame.cycle ∧
      (∀ ts, c.tables = some ts → t.tables = ts ∧ occurred 79 s t) ∧ (c.tables = none → t.tables = s.tables ∧ t.vitW = s.vitW) ∧
      (c.safety = none → t.sfu.states = s.sfu.states ∧ t.sfu.insts = s.sfu.insts ∧ t.sfu.diag = s.sfu.diag) ∧
      (∀ x ∈ t.sfu.checkers, x.armed = false) ∧
      (∀ ch : Nat, ch < 24 → t.commandOn false ch = ((nth {} ch c.app.iomap.outs).inUse && ((nth {} ch c.app.iomap.outs).owner == 1 ||
        (nth {} ch c.app.iomap.outs).owner == 2) && s.commandOn false ch)) ∧ t.fullDue = true ∧ t.pair.sending = none ∧
      keeps ([.frame, .lanes, .upd, .ite, .voter, .sfu, .sfuW, .vitW, .efl, .can, .dict, .free, .outs, .pair] ++ noted) s t)) ∧
  (s.dead = false → s.upd.change.state ≠ .preparing → ∃ t, exec .preparationReady s = .next t ∧ keeps [.sent] s t) ∧
  (s.dead = false → (s.upd.change.state ≠ .waiting ∨ s.upd.change.due = false) → ∃ t, exec .onlineChangeHandover s = .next t ∧ keeps [.sent] s t) ∧
  (s.dead = false → s.upd.change.state = .waiting → s.upd.change.logged = false →
    (s.upd.change.waitFrom + 1000 ≤ s.frame.cycle → ∃ t, exec .onlineChangeWaitExpiry s = .next t ∧ t.upd.change.state = .cancelled ∧
      t.upd.change.result = 0x0501 ∧ t.upd.app = s.upd.app ∧ keeps [.upd, .sent] s t) ∧
    (s.frame.cycle < s.upd.change.waitFrom + 1000 → ∃ t, exec .onlineChangeWaitExpiry s = .next t ∧ keeps [.sent] s t))

/-- FORCE_SYMBOL, FORCE_OUTPUT_OFF, REMOVE_SYMBOL_FORCE, REMOVE_OUTPUT_FORCE (R629 to R631). -/
def Obligations.ForceRequests : Prop := ∀ (s : State) (r : Req), mayWrite r 2 s → mayLog 1 s →
  (s.sys.mode = .configure ∨ s.sys.mode = .run →
    (∀ id v y f, v < 2 ^ 32 → id < 2 ^ 32 → f = Force.symbol id v → s.app.symbol id = some y →
      (y.forceable = true → typeHolds y.typ v = true → ((s.upd.forces.find? f.sameTarget).isSome = true ∨ s.upd.forces.length < 32) →
        ∃ t, exec (.forceSymbol r (id * 2 ^ 32 + v)) s = .next t ∧ forceSet r s t 1 f) ∧
      (y.forceable = false → ∃ t, exec (.forceSymbol r (id * 2 ^ 32 + v)) s = .next t ∧ replied r 2 0x0101 t ∧ keeps (replyParts r.carrier) s t) ∧
      (y.forceable = true → typeHolds y.typ v = false → ∃ t, exec (.forceSymbol r (id * 2 ^ 32 + v)) s = .next t ∧ replied r 2 0x0102 t ∧
        keeps (replyParts r.carrier) s t) ∧
      (y.forceable = true → typeHolds y.typ v = true → s.upd.forces.find? f.sameTarget = none → 32 ≤ s.upd.forces.length →
        ∃ t, exec (.forceSymbol r (id * 2 ^ 32 + v)) s = .next t ∧ replied r 2 0x0409 t ∧ keeps (replyParts r.carrier) s t)) ∧
    (∀ c, c < 24 → ((s.upd.forces.find? (Force.output c).sameTarget).isSome = true ∨ s.upd.forces.length < 32) →
      ∃ t, exec (.forceOutputOff r c) s = .next t ∧ forceSet r s t 2 (.output c)) ∧
    (∀ c, 23 < c → (∃ t, exec (.forceOutputOff r c) s = .next t ∧ replied r 2 0x0101 t ∧ keeps (replyParts r.carrier) s t) ∧
      ∃ t, exec (.removeOutputForce r c) s = .next t ∧ replied r 2 0x0101 t ∧ keeps (replyParts r.carrier) s t) ∧
    (∀ id, (s.upd.forces.find? (Force.symbol id 0).sameTarget).isSome = true → ∃ t, exec (.removeSymbolForce r id) s = .next t ∧
      forceGone r s t 3 (.symbol id 0)) ∧
    (∀ id, s.upd.forces.find? (Force.symbol id 0).sameTarget = none → ∃ t, exec (.removeSymbolForce r id) s = .next t ∧ replied r 2 0x0101 t ∧
      keeps (replyParts r.carrier) s t) ∧
    (∀ c, c < 24 → (s.upd.forces.find? (Force.output c).sameTarget).isSome = true → ∃ t, exec (.removeOutputForce r c) s = .next t ∧
      forceGone r s t 4 (.output c)) ∧
    (∀ c, c < 24 → s.upd.forces.find? (Force.output c).sameTarget = none → ∃ t, exec (.removeOutputForce r c) s = .next t ∧ replied r 2 0x0101 t ∧
      keeps (replyParts r.carrier) s t)) ∧
  (s.sys.mode = .standby ∨ s.sys.mode = .safe → ∀ c, c < 24 → ∃ t, exec (.forceOutputOff r c) s = .next t ∧ replied r 2 0x0201 t ∧
    keeps (replyParts r.carrier) s t)

/-! ### 12 DMA channels and check-value units -/

/-- Channel `c` and check unit `u` of a lane. -/
def dmaCh (s : State) (l : LaneId) (c : Nat) : DmaCh := nth {} c (s.lanes.get l).dma
def chkUnit (s : State) (l : LaneId) (u : Nat) : ChkUnit := nth {} u (s.lanes.get l).chk

/-- A byte of a lane as its channels read it. -/
def dmaByte (s : State) (l : LaneId) (a : Nat) : Byte := match (s.lanes.get l).mem.find? (fun p => p.1 == a) with
  | some p => p.2
  | none => readByte s l a

/-- A live module with a channel of the sixteen. -/
def dmaLive (s : State) (l : LaneId) (c : Nat) : Prop := s.dead = false ∧ c < 16 ∧ (s.lanes.get l).dma.length = 16

/-- Only channels and units of one lane have changed, and only one channel. -/
def engineOnly (s t : State) (l : LaneId) (c : Nat) : Prop :=
  keeps [.lanes, .sent] s t ∧ (∀ k, k ≠ l → t.lanes.get k = s.lanes.get k) ∧ (∀ k, k ≠ c → dmaCh t l k = dmaCh s l k) ∧
    t.lanes.get l = { s.lanes.get l with dma := (t.lanes.get l).dma, chk := (t.lanes.get l).chk }

/-- A chain has ended with a code: in RUN at once, outside RUN it waits for its completion record (R578, R580). -/
def chainEnded (s t : State) (l : LaneId) (c code : Nat) : Prop :=
  (s.sys.mode = .run → (dmaCh t l c).state = .idle ∧ (dmaCh t l c).code = code ∧ (dmaCh t l c).ended = true ∧
    (dmaCh t l c).chains = add32 (dmaCh s l c).chains 1) ∧
  (s.sys.mode ≠ .run → (dmaCh t l c).waiting = true ∧ (dmaCh t l c).endCode = code) ∧
  ∀ u, (chkUnit s l u).chan = some c → (chkUnit t l u).chan = none

/-- The windows of a channel allow an access. -/
def dmaAllows (s : State) (l : LaneId) (c addr width : Nat) (k : AccessKind) : Prop :=
  violation (windowsOf s.fw false (dmaMaster l c) ++ windowsOf s.fw true (dmaMaster l c)) addr width k = none

/-- DMA_START, DMA_STOP (R574, R575, R577), DESCRIPTOR_FETCH (R564, R570), DMA_BEAT_RESPONSE, DMA_BUS_TIMEOUT (R566, R568, R571, R575),
COMPLETION_RECORD_WRITE, RING_TAIL_ADVANCE (R580, R582, R597), CHECK_UNIT_CONFIGURE (R587). -/
def Obligations.DmaChannelSteps : Prop := ∀ (s : State) (l : LaneId) (c : Nat) (x : DmaCh), dmaLive s l c → x = dmaCh s l c →
  (∀ word, s.laneRuns l = true → word < 2048 → bits 7 2 word = 0 →
    (word.testBit 0 = true → word.testBit 1 = false →
      (x.state = .idle → ∃ t, exec (.dmaStart l c word) s = .next t ∧ engineOnly s t l c ∧ (dmaCh t l c).state = .running ∧
        (dmaCh t l c).needFetch = true ∧ (dmaCh t l c).nextDesc = x.chDesc ∧ (dmaCh t l c).hops = 0 ∧ (dmaCh t l c).bytes = 0 ∧
        (dmaCh t l c).code = 0 ∧ (dmaCh t l c).beats = [] ∧ (dmaCh t l c).retry = bits 10 8 word ∧ (dmaCh t l c).wst = x.wst) ∧
      (∀ st, (x.state = .running ∧ st = 0x0501) ∨ (x.state = .stopping ∧ st = 0x0503) ∨ (x.state = .frozen ∧ st = 0x0201) →
        ∃ t, exec (.dmaStart l c word) s = .next t ∧ engineOnly s t l c ∧ dmaCh t l c = { x with wst := some (0, st) })) ∧
    (word.testBit 0 = true → word.testBit 1 = true → ∃ t, exec (.dmaStart l c word) s = .next t ∧ engineOnly s t l c ∧
      dmaCh t l c = { x with wst := some (0, 0x0101) }) ∧
    (word.testBit 1 = true → word.testBit 0 = false →
      (x.state = .idle → ∃ t, exec (.dmaStop l c word) s = .next t ∧ engineOnly s t l c ∧ dmaCh t l c = { x with wst := some (0, 0x0211) }) ∧
      (x.state = .running → x.endCode = 0 → x.waiting = false → x.beats = [] → ∃ t, exec (.dmaStop l c word) s = .next t ∧ engineOnly s t l c ∧
        chainEnded s t l c 2) ∧
      (x.state = .running → x.beats ≠ [] → ∃ t, exec (.dmaStop l c word) s = .next t ∧ engineOnly s t l c ∧
        dmaCh t l c = { x with state := .stopping, needFetch := false }))) ∧
  (∀ d, x.state = .running → x.needFetch = true → x.endCode = 0 → x.waiting = false → x.beats = [] →
    d = readDescriptor ((rangeFrom x.nextDesc 32).map (dmaByte s l)) →
    (x.hopLim < x.hops + 1 → ∃ t, exec (.descriptorFetch l c) s = .next t ∧ engineOnly s t l c ∧ chainEnded s t l c 4) ∧
    (x.hops < x.hopLim → dmaAllows s l c x.nextDesc 8 .read →
      (descriptorOk c ((rangeFrom x.nextDesc 32).map (dmaByte s l)) (chkUnit s l d.unit) = false → ∃ t, exec (.descriptorFetch l c) s = .next t ∧
        engineOnly s t l c ∧ chainEnded s t l c 5) ∧
      (descriptorOk c ((rangeFrom x.nextDesc 32).map (dmaByte s l)) (chkUnit s l d.unit) = true →
        dmaAllows s l c (d.src / 2 ^ d.sw * 2 ^ d.sw) (2 ^ d.sw) .read → ∃ t, exec (.descriptorFetch l c) s = .next t ∧ engineOnly s t l c ∧
          (dmaCh t l c).desc = some d ∧ (dmaCh t l c).hops = x.hops + 1 ∧ (dmaCh t l c).cur = x.nextDesc ∧ (dmaCh t l c).needFetch = false ∧
          (dmaCh t l c).beats = [{ write := false, addr := d.src / 2 ^ d.sw * 2 ^ d.sw, width := 2 ^ d.sw, desc := x.nextDesc }] ∧
          (d.chkEn = true → d.unit < (s.lanes.get l).chk.length → (chkUnit t l d.unit).chan = some c ∨ x.unit = some d.unit)))) ∧
  (∀ b rest, x.beats = b :: rest →
    (b.write = true → x.state = .running → spWf 0 (s.lanes.get l).mem = true → (b.data.map (·.1)).Nodup → ∃ t, exec (.dmaBeatResponse l c true) s = .next t ∧
      (∀ p ∈ b.data, spGet 0 p.1 (t.lanes.get l).mem = p.2) ∧
      (∀ a, a ∉ b.data.map (·.1) → spGet 0 a (t.lanes.get l).mem = spGet 0 a (s.lanes.get l).mem) ∧
      (∀ k, k ≠ l → (t.lanes.get k).mem = (s.lanes.get k).mem) ∧ (∀ k, k ≠ c → dmaCh t l k = dmaCh s l k) ∧ t.pending = s.pending) ∧
    (b.final = false → x.state = .running → x.endCode = 0 → b.tries < x.retry → ∃ t, exec (.dmaBeatResponse l c false) s = .next t ∧
      exec (.dmaBusTimeout l c) s = .next t ∧ engineOnly s t l c ∧
      dmaCh t l c = { x with beats := rest ++ [{ b with tries := b.tries + 1 }], retries := satAdd 255 x.retries 1, repeats := add32 x.repeats 1 }) ∧
    (b.final = false → x.state = .running → x.endCode = 0 → x.waiting = false → x.retry ≤ b.tries → rest = [] →
      ∃ t, exec (.dmaBeatResponse l c false) s = .next t ∧ exec (.dmaBusTimeout l c) s = .next t ∧ engineOnly s t l c ∧ chainEnded s t l c 6) ∧
    (b.write = false → x.state = .stopping → x.endCode = 0 → x.waiting = false → rest = [] → ∃ t, exec (.dmaBeatResponse l c true) s = .next t ∧
      engineOnly s t l c ∧ chainEnded s t l c 2)) ∧
  (x.beats = [] → ∃ t, exec (.dmaBeatResponse l c true) s = .next t ∧ exec (.dmaBusTimeout l c) s = .next t ∧ keeps [.sent] s t) ∧
  (∀ r, r = (s.lanes.get l).ring → x.waiting = true →
    ((r.head + 1) % 2 ^ r.size ≠ r.tail → dmaAllows s l c (r.base + 32 * r.head) 8 .write → spWf 0 (s.lanes.get l).mem = true →
      ∃ t, exec (.completionRecordWrite l c) s = .next t ∧ keeps [.lanes, .sent] s t ∧ (dmaCh t l c).state = .idle ∧ (dmaCh t l c).code = x.endCode ∧
        (dmaCh t l c).waiting = false ∧ (t.lanes.get l).ring = { r with head := (r.head + 1) % 2 ^ r.size, seq := add32 r.seq 1 } ∧
        (∀ i, i < 32 → spGet 0 (r.base + 32 * r.head + i) (t.lanes.get l).mem = nth 0 i (completionBytes s.frame.tick c r.seq x)) ∧
        (∀ a, a < r.base + 32 * r.head ∨ r.base + 32 * r.head + 32 ≤ a → spGet 0 a (t.lanes.get l).mem = spGet 0 a (s.lanes.get l).mem) ∧
        (∀ k, k ≠ l → t.lanes.get k = s.lanes.get k)) ∧
    ((r.head + 1) % 2 ^ r.size = r.tail → ∃ t, exec (.completionRecordWrite l c) s = .next t ∧ keeps [.sent] s t)) ∧
  (∀ v, s.laneRuns l = true → v < 2 ^ 32 →
    (v < 2 ^ (s.lanes.get l).ring.size → channelsIdle (s.lanes.get l) = true → ∃ t, exec (.ringTailAdvance l v) s = .next t ∧ keeps [.lanes, .sent] s t ∧
      t.lanes.get l = { s.lanes.get l with ring := { (s.lanes.get l).ring with tail := v } } ∧ ∀ k, k ≠ l → t.lanes.get k = s.lanes.get k) ∧
    (v < 2 ^ (s.lanes.get l).ring.size → channelsIdle (s.lanes.get l) = false → ∃ t, exec (.ringTailAdvance l v) s = .next t ∧ engineOnly s t l 0 ∧
      dmaCh t l 0 = { dmaCh s l 0 with wst := some (0x810, 0x0501) }) ∧
    (2 ^ (s.lanes.get l).ring.size ≤ v → ∃ t, exec (.ringTailAdvance l v) s = .next t ∧ engineOnly s t l 0 ∧
      dmaCh t l 0 = { dmaCh s l 0 with wst := some (0x810, 0x0101) }) ∧
    (∀ u, u < 8 → (s.lanes.get l).chk.length = 8 → bits 15 11 v = 0 → bits 7 6 v = 0 → bits 3 2 v = 0 → bits 9 8 v = 0 →
      ((chkUnit s l u).chan = none → (chkUnit s l u).src ≠ 1 → (chkUnit s l u).src ≠ 2 → ∃ t, exec (.checkUnitConfigure l u v) s = .next t ∧ engineOnly s t l 16 ∧ (chkUnit t l u).dir = bits 4 4 v ∧
        (chkUnit t l u).order = bits 5 5 v ∧ (chkUnit t l u).poly = bits 1 0 v ∧ (chkUnit t l u).src = 0 ∧ (chkUnit t l u).valid = false ∧
        (∀ k, k ≠ u → chkUnit t l k = chkUnit s l k)) ∧
      ((chkUnit s l u).chan ≠ none ∨ (chkUnit s l u).src = 1 ∨ (chkUnit s l u).src = 2 → ∃ t, exec (.checkUnitConfigure l u v) s = .next t ∧ engineOnly s t l 16 ∧
        chkUnit t l u = { chkUnit s l u with wst := some (0, 0x0501) })) ∧
    (∀ u, u < 8 → (s.lanes.get l).chk.length = 8 → (bits 7 6 v ≠ 0 ∨ bits 3 2 v ≠ 0 ∨ bits 15 11 v ≠ 0 ∨ bits 9 8 v = 3) →
      ∃ t, exec (.checkUnitConfigure l u v) s = .next t ∧ engineOnly s t l 16 ∧ chkUnit t l u = { chkUnit s l u with wst := some (0, 0x0101) }))

/-! ### The whole machine -/

/-- The step and the queue. That an empty queue idles is a design choice of the model. -/
def Obligations.StepTakesTheFront : Prop := ∀ (s : State) (c : Instr) (rest : List Instr),
  step { s with pending := c :: rest } = exec c { s with pending := rest } ∧ step { s with pending := [] } = .next { s with pending := [] }

/-- State.reset: 01 transition 1, the register maps, R523. The reading of memory that nothing has written is a design choice. -/
def Obligations.ResetState : Prop :=
  State.reset.sys.mode = .boot ∧ State.reset.frame.tick = 0 ∧ State.reset.pending = [] ∧ State.reset.dead = false ∧ State.reset.evt.flags = 0 ∧
  State.reset.evt.masks = BitVec.allOnes 256 ∧ State.reset.fw.frozen = [] ∧ State.reset.fw.lock = false ∧ State.reset.pair.hold = false ∧
  outputsOff State.reset ∧ laneMemoryWf State.reset ∧ gatesShutOutsideRun State.reset ∧
  (∀ l, (State.reset.lanes.get l).gateOpen = false ∧ ∀ a, spGet 0 a (State.reset.lanes.get l).mem = 0) ∧
  (∀ i n d, parDef i n = some d → State.reset.par i n = d.dflt) ∧
  (∀ l c, (dmaCh State.reset l c).state = .idle ∧ (dmaCh State.reset l c).retry = 3) ∧ (∀ l u, (chkUnit State.reset l u).chan = none) ∧
  step State.reset = .next State.reset

/-- R70 and R75 over all commands, and R25 for a module whose PD-AON has failed. -/
def Obligations.TickAndDeadModule : Prop := ∀ (c : Instr) (s : State), ∃ t, exec c s = .next t ∧
  (c = .powerUp → t.frame.tick = 0) ∧
  (∀ fs, c = .inputLatch fs → t.frame.tick = if s.dead = true then s.frame.tick else s.frame.tick + 1) ∧
  (c ≠ .powerUp → (∀ fs, c ≠ .inputLatch fs) → t.frame.tick = s.frame.tick) ∧
  (s.dead = true → c ≠ .powerUp → c ≠ .presenceMated → c ≠ .insertionCompleted → t = s)

/-- The invariant laneMemoryWf over all commands. -/
def Obligations.LaneMemoryForm : Prop := ∀ s t : State, laneMemoryWf s → step s = .next t → laneMemoryWf t

/-- The invariant gatesShutOutsideRun over all commands. -/
def Obligations.GatesShut : Prop := ∀ s t : State, gatesShutOutsideRun s → step s = .next t → gatesShutOutsideRun t

/-- R52 as a whole-machine rule. -/
def Obligations.SafeUntilRestart : Prop := ∀ (c : Instr) (s t : State), s.sys.mode = .safe → exec c s = .next t →
  (t.sys.mode = .safe ∨ t.sys.mode = .boot) ∧
  (c ≠ .restart → c ≠ .activationRestart → c ≠ .supervisorWatchdogExpiry → c ≠ .powerUp →
    t.sys.mode = .safe ∧ t.sys.safeCause = s.sys.safeCause)
end

