-- ==== Sys2Proof/Laws/Sparse.lean ====
section
/-!
SUPPORT. Laws of sparse maps: a read after a write, and the canonical form that every write keeps.
-/
namespace Sys2Proof.Machine

variable {α : Type} [DecidableEq α]

/-- A map above a bound is above every lower one. -/
theorem spWfFrom_mono (d : α) {lo lo' : Nat} (h : lo' ≤ lo) : ∀ {l : List (Nat × α)}, spWfFrom d lo l = true → spWfFrom d lo' l = true
  | [], _ => rfl
  | (k, v) :: rest, hw => by
    simp only [spWfFrom, Bool.and_eq_true, decide_eq_true_eq] at hw ⊢
    exact ⟨⟨Nat.le_trans h hw.1.1, hw.1.2⟩, hw.2⟩

/-- A key below every key of a map reads the default. -/
theorem spGet_below (d : α) : ∀ {l : List (Nat × α)} {lo k : Nat}, spWfFrom d lo l = true → k < lo → spGet d k l = d
  | [], _, _, _, _ => rfl
  | (k', v) :: rest, lo, k, hw, hk => by
    simp only [spWfFrom, Bool.and_eq_true, decide_eq_true_eq] at hw
    have h1 : ¬ k' = k := by omega
    have h2 : k < k' := by omega
    simp [spGet, h1, h2]

/-- A write keeps the form above a bound. -/
theorem spWfFrom_spSet (d : α) (k : Nat) (v : α) :
    ∀ {l : List (Nat × α)} {lo : Nat}, spWfFrom d lo l = true → lo ≤ k → spWfFrom d lo (spSet d k v l) = true
  | [], lo, _, hk => by
    unfold spSet; split
    · rfl
    · simp [spWfFrom, *]
  | (k', v') :: rest, lo, hw, hk => by
    simp only [spWfFrom, Bool.and_eq_true, decide_eq_true_eq] at hw
    obtain ⟨⟨h1, h2⟩, h3⟩ := hw
    unfold spSet
    split
    · next he =>
      split
      · exact spWfFrom_mono d (by omega) h3
      · subst he; simp [spWfFrom, *]
    · split
      · split
        · simp [spWfFrom, h1, h2, h3]
        · next hlt hv => simp [spWfFrom, hk, hv, h2, h3, Nat.succ_le_of_lt hlt]
      · next hne hlt =>
        have := spWfFrom_spSet d k v h3 (by omega)
        simp [spWfFrom, h1, h2, this]

/-- A write keeps the canonical form. -/
theorem spWf_spSet (d : α) (k : Nat) (v : α) {l : List (Nat × α)} (h : spWf d l = true) : spWf d (spSet d k v l) = true :=
  spWfFrom_spSet d k v h (Nat.zero_le k)

/-- A change of one key keeps the canonical form. -/
theorem spWf_spMod (d : α) (k : Nat) (f : α → α) {l : List (Nat × α)} (h : spWf d l = true) : spWf d (spMod d k f l) = true :=
  spWf_spSet d k _ h

/-- Writes in a row keep the canonical form. -/
theorem spWf_foldl {β : Type} (d : α) (f : List (Nat × α) → β → List (Nat × α)) (hf : ∀ l x, spWf d l = true → spWf d (f l x) = true) :
    ∀ (xs : List β) {l : List (Nat × α)}, spWf d l = true → spWf d (xs.foldl f l) = true
  | [], _, h => h
  | x :: xs, _, h => spWf_foldl d f hf xs (hf _ x h)

/-- A read of the key just written gives the value written. -/
@[simp] theorem spGet_spSet_self (d : α) (k : Nat) (v : α) : ∀ {l : List (Nat × α)}, spWf d l = true → spGet d k (spSet d k v l) = v := by
  intro l h
  suffices H : ∀ (l : List (Nat × α)) (lo : Nat), spWfFrom d lo l = true → spGet d k (spSet d k v l) = v from H l 0 h
  clear h l
  intro l
  induction l with
  | nil => intro lo _; unfold spSet; split <;> simp [spGet, *]
  | cons p rest ih =>
    intro lo hw
    obtain ⟨k', v'⟩ := p
    simp only [spWfFrom, Bool.and_eq_true, decide_eq_true_eq] at hw
    unfold spSet
    split
    · next he =>
      split
      · next hv => subst he; rw [hv]; exact spGet_below d hw.2 (by omega)
      · simp [spGet]
    · split
      · next hne hlt =>
        split
        · next hv => simp [spGet, hne, hlt, hv]
        · simp [spGet]
      · next hne hlt => simp [spGet, hne, hlt, ih _ hw.2]

/-- A write leaves every other key alone. -/
theorem spGet_spSet_ne (d : α) {k j : Nat} (v : α) (hj : j ≠ k) :
    ∀ {l : List (Nat × α)}, spWf d l = true → spGet d j (spSet d k v l) = spGet d j l := by
  intro l h
  suffices H : ∀ (l : List (Nat × α)) (lo : Nat), spWfFrom d lo l = true → spGet d j (spSet d k v l) = spGet d j l from H l 0 h
  clear h l
  intro l
  induction l with
  | nil =>
    intro lo _; unfold spSet; split
    · rfl
    · have : ¬ k = j := fun h => hj h.symm
      simp [spGet, this]
  | cons p rest ih =>
    intro lo hw
    obtain ⟨k', v'⟩ := p
    simp only [spWfFrom, Bool.and_eq_true, decide_eq_true_eq] at hw
    have hkj : ¬ k = j := fun h => hj h.symm
    unfold spSet
    split
    · next he =>
      subst he
      split
      · by_cases hlt : j < k'
        · simp only [spGet, hkj, hlt, if_false, if_true]; exact spGet_below d hw.2 (by omega)
        · simp [spGet, hkj, hlt]
      · simp [spGet, hkj]
    · split
      · next hne hlt =>
        split
        · rfl
        · by_cases h1 : j < k
          · have h2 : ¬ k' = j := by omega
            have h3 : j < k' := by omega
            simp [spGet, hkj, h1, h2, h3]
          · simp [spGet, hkj, h1]
      · next hne hlt => simp [spGet, ih _ hw.2]

/-- A read of a key just given a value that is not the default, in a map of any form. -/
theorem spGet_spSet_self_of_ne (d : α) (k : Nat) {v : α} (hv : v ≠ d) (l : List (Nat × α)) : spGet d k (spSet d k v l) = v := by
  induction l with
  | nil => simp [spSet, spGet, hv]
  | cons p rest ih =>
    obtain ⟨k', v'⟩ := p
    unfold spSet
    split
    · simp [spGet]
    · split
      · simp [spGet]
      · next hne hlt => simp [spGet, hne, hlt, ih]

/-- A value that is not the default leaves every other key alone, in a map of any form. -/
theorem spGet_spSet_ne_of_ne (d : α) {k j : Nat} {v : α} (hj : j ≠ k) (hv : v ≠ d) (l : List (Nat × α)) :
    spGet d j (spSet d k v l) = spGet d j l := by
  have hkj : ¬ k = j := fun h => hj h.symm
  induction l with
  | nil => simp [spSet, spGet, hv, hkj]
  | cons p rest ih =>
    obtain ⟨k', v'⟩ := p
    unfold spSet
    split
    · next he => subst he; simp [spGet, hkj]
    · split
      · next hne hlt =>
        by_cases h1 : j < k
        · have h2 : ¬ k' = j := by omega
          have h3 : j < k' := by omega
          simp [spGet, hkj, h1, h2, h3]
        · simp [spGet, hkj, h1]
      · next hne hlt => simp [spGet, ih]

/-- A change keeps the length. -/
@[simp] theorem length_modNth {β : Type} (f : β → β) : ∀ (i : Nat) (l : List β), (modNth i f l).length = l.length
  | _, [] => by simp [modNth]
  | 0, _ :: _ => rfl
  | i + 1, _ :: xs => by simp [modNth, length_modNth f i xs]

/-- The changed member. -/
theorem nth_modNth_self {β : Type} (d : β) (f : β → β) : ∀ (i : Nat) (l : List β), i < l.length → nth d i (modNth i f l) = f (nth d i l)
  | _, [], h => absurd h (Nat.not_lt_zero _)
  | 0, _ :: _, _ => rfl
  | i + 1, _ :: xs, h => by
    have := nth_modNth_self d f i xs (Nat.lt_of_succ_lt_succ h)
    simpa [modNth, nth] using this

/-- Other members stay. -/
theorem nth_modNth_ne {β : Type} (d : β) (f : β → β) :
    ∀ (i j : Nat) (l : List β), j ≠ i → nth d j (modNth i f l) = nth d j l
  | _, _, [], _ => by simp [modNth]
  | 0, 0, _ :: _, h => absurd rfl h
  | 0, j + 1, _ :: _, _ => rfl
  | i + 1, 0, _ :: _, _ => rfl
  | i + 1, j + 1, _ :: xs, h => by
    have := nth_modNth_ne d f i j xs (fun e => h (congrArg (· + 1) e))
    simpa [modNth, nth] using this

end Sys2Proof.Machine
end

