-- ==== Sys2Proof/Laws/Events.lean ====
section
/-!
SUPPORT. Laws of the event block: what an occurrence changes, and what it leaves.
-/
namespace Sys2Proof.Machine

/-- An occurrence changes the event block and the notification queues of sessions, and nothing else. -/
theorem raise_eq (n : Nat) (s : State) :
    raise n s = { s with evt := (raise n s).evt, dict := { s.dict with sessions := (raise n s).dict.sessions } } := by
  unfold raise; dsimp only; split <;> rfl

section
variable (n : Nat) (s : State)
@[simp] theorem raise_pending : (raise n s).pending = s.pending := by rw [raise_eq]
@[simp] theorem raise_freeCtr : (raise n s).freeCtr = s.freeCtr := by rw [raise_eq]
@[simp] theorem raise_emitted : (raise n s).emitted = s.emitted := by rw [raise_eq]
@[simp] theorem raise_dead : (raise n s).dead = s.dead := by rw [raise_eq]
@[simp] theorem raise_ident : (raise n s).ident = s.ident := by rw [raise_eq]
@[simp] theorem raise_sys : (raise n s).sys = s.sys := by rw [raise_eq]
@[simp] theorem raise_frame : (raise n s).frame = s.frame := by rw [raise_eq]
@[simp] theorem raise_fw : (raise n s).fw = s.fw := by rw [raise_eq]
@[simp] theorem raise_params : (raise n s).params = s.params := by rw [raise_eq]
@[simp] theorem raise_lanes : (raise n s).lanes = s.lanes := by rw [raise_eq]
@[simp] theorem raise_voter : (raise n s).voter = s.voter := by rw [raise_eq]
@[simp] theorem raise_ite : (raise n s).ite = s.ite := by rw [raise_eq]
@[simp] theorem raise_vit : (raise n s).vit = s.vit := by rw [raise_eq]
@[simp] theorem raise_vitW : (raise n s).vitW = s.vitW := by rw [raise_eq]
@[simp] theorem raise_sfu : (raise n s).sfu = s.sfu := by rw [raise_eq]
@[simp] theorem raise_sfuW : (raise n s).sfuW = s.sfuW := by rw [raise_eq]
@[simp] theorem raise_img : (raise n s).img = s.img := by rw [raise_eq]
@[simp] theorem raise_vin : (raise n s).vin = s.vin := by rw [raise_eq]
@[simp] theorem raise_outs : (raise n s).outs = s.outs := by rw [raise_eq]
@[simp] theorem raise_fio : (raise n s).fio = s.fio := by rw [raise_eq]
@[simp] theorem raise_efl : (raise n s).efl = s.efl := by rw [raise_eq]
@[simp] theorem raise_can : (raise n s).can = s.can := by rw [raise_eq]
@[simp] theorem raise_pair : (raise n s).pair = s.pair := by rw [raise_eq]
@[simp] theorem raise_lops : (raise n s).lops = s.lops := by rw [raise_eq]
@[simp] theorem raise_upd : (raise n s).upd = s.upd := by rw [raise_eq]
@[simp] theorem raise_pwr : (raise n s).pwr = s.pwr := by rw [raise_eq]
@[simp] theorem raise_totals : (raise n s).totals = s.totals := by rw [raise_eq]
@[simp] theorem raise_frozen : (raise n s).frozen = s.frozen := by rw [raise_eq]
@[simp] theorem raise_tick : (raise n s).tick = s.tick := by simp [State.tick]

/-- Of the dictionary server an occurrence touches the sessions alone. -/
@[simp] theorem raise_dictRest : dictRest (raise n s).dict = dictRest s.dict := by rw [raise_eq]; rfl
@[simp] theorem raise_log : (raise n s).dict.log = s.dict.log := by rw [raise_eq]
@[simp] theorem raise_staged : (raise n s).dict.staged = s.dict.staged := by rw [raise_eq]
@[simp] theorem raise_sinceExport : (raise n s).dict.sinceExport = s.dict.sinceExport := by rw [raise_eq]
end

/-- The EVENTS bitmap of the tick stays. -/
@[simp] theorem raise_frozenEvents (n : Nat) (s : State) : (raise n s).evt.frozen = s.evt.frozen := by
  unfold raise; dsimp only; split <;> rfl

/-- The masks stay. -/
@[simp] theorem raise_masks (n : Nat) (s : State) : (raise n s).evt.masks = s.evt.masks := by
  unfold raise; dsimp only; split <;> rfl

/-- The event block after an occurrence: that of the event, and perhaps of event 245 after it. -/
theorem raise_evt (n : Nat) (s : State) :
    (raise n s).evt = evtOccur n s.tick s.evt ∨ (raise n s).evt = evtOccur 245 s.tick (evtOccur n s.tick s.evt) := by
  unfold raise; dsimp only; split
  · exact .inr rfl
  · exact .inl rfl

/-- The flag of an event that has occurred. -/
theorem evtOccur_flag {n : Nat} (h : n < 256) (t : Nat) (e : Evt) : (evtOccur n t e).flags.getLsbD n = true := by
  have hb : (BitVec.ofNat 256 (2 ^ n)).getLsbD n = true := by
    rw [BitVec.getLsbD_ofNat, Nat.testBit_two_pow_self, decide_eq_true h]; rfl
  show (e.flags ||| BitVec.ofNat 256 (2 ^ n)).getLsbD n = true
  rw [BitVec.getLsbD_or, hb, Bool.or_true]

/-- A flag that is set stays set. -/
theorem evtOccur_flag_mono (n t m : Nat) (e : Evt) (h : e.flags.getLsbD m = true) : (evtOccur n t e).flags.getLsbD m = true := by
  simp [evtOccur, BitVec.getLsbD_or, h]

/-- An occurrence sets the flag of its event. -/
@[simp] theorem raise_flag {n : Nat} (h : n < 256) (s : State) : (raise n s).evt.flags.getLsbD n = true := by
  rcases raise_evt n s with e | e <;> rw [e]
  · exact evtOccur_flag h _ _
  · exact evtOccur_flag_mono _ _ _ _ (evtOccur_flag h _ _)

/-- A flag that is set stays set through an occurrence. -/
theorem raise_flag_mono (n m : Nat) (s : State) (h : s.evt.flags.getLsbD m = true) : (raise n s).evt.flags.getLsbD m = true := by
  rcases raise_evt n s with e | e <;> rw [e]
  · exact evtOccur_flag_mono _ _ _ _ h
  · exact evtOccur_flag_mono _ _ _ _ (evtOccur_flag_mono _ _ _ _ h)

/-- The newest tick of an event, once it has occurred at a tick past 0. -/
theorem evtOccur_lastTick (n : Nat) {t : Nat} (h : 0 < t) (e : Evt) : spGet 0 n (evtOccur n t e).lastTick = t :=
  spGet_spSet_self_of_ne 0 n (by omega) _

/-- An occurrence at the same tick leaves the newest tick of an event that has occurred there. -/
theorem evtOccur_lastTick_same (m n : Nat) {t : Nat} (h : 0 < t) (e : Evt) (he : spGet 0 n e.lastTick = t) :
    spGet 0 n (evtOccur m t e).lastTick = t := by
  by_cases hm : n = m
  · subst hm; exact evtOccur_lastTick n h e
  · simpa [evtOccur] using (spGet_spSet_ne_of_ne 0 hm (by omega : t ≠ 0) e.lastTick).trans he

/-- An event that has just been raised has occurred. -/
theorem occurred_raise {n : Nat} (h : n < 256) (s : State) : occurred n s (raise n s) := by
  refine ⟨raise_flag h s, fun ht => ?_⟩
  rcases raise_evt n s with e | e <;> rw [e]
  · exact evtOccur_lastTick n ht _
  · exact evtOccur_lastTick_same 245 n ht _ (evtOccur_lastTick n ht _)

/-- A later occurrence at the same tick leaves what has occurred. -/
theorem occurred_raise_of {n : Nat} (m : Nat) {s t : State} (h : occurred n s t) (ht : t.frame.tick = s.frame.tick) :
    occurred n s (raise m t) := by
  refine ⟨raise_flag_mono m n t h.1, fun hp => ?_⟩
  have hk : 0 < t.tick := by simpa [State.tick, ht] using hp
  have h2 : spGet 0 n t.evt.lastTick = t.tick := by simpa [State.tick, ht] using h.2 hp
  rcases raise_evt m t with e | e <;> rw [e] <;> rw [← ht]
  · exact evtOccur_lastTick_same m n hk _ h2
  · exact evtOccur_lastTick_same 245 n hk _ (evtOccur_lastTick_same m n hk _ h2)

end Sys2Proof.Machine
end

