-- ==== Sys2Proof/Laws/Frames.lean ====
section
/-!
SUPPORT. The frame calculus: how `keeps` composes, and for each shared operation of Machine/Ops.lean what it may change and which
events it leaves in place.
-/
namespace Sys2Proof.Machine

/-! ### Parts -/

theorem samePart_refl (s : State) (p : Part) : samePart s s p := by cases p <;> rfl

theorem samePart_trans {s t u : State} {p : Part} (h : samePart s t p) (k : samePart t u p) : samePart s u p := by
  cases p <;> exact Eq.trans k h

/-- `keeps` part by part. -/
theorem keeps_iff (but : List Part) (s t : State) : keeps but s t ↔ t.pending = s.pending ∧
    (.dead ∈ but ∨ t.dead = s.dead) ∧ (.ident ∈ but ∨ t.ident = s.ident) ∧ (.sys ∈ but ∨ t.sys = s.sys) ∧
    (.frame ∈ but ∨ t.frame = s.frame) ∧ (.evt ∈ but ∨ t.evt = s.evt) ∧ (.frozenEvents ∈ but ∨ t.evt.frozen = s.evt.frozen) ∧
    (.fw ∈ but ∨ t.fw = s.fw) ∧ (.params ∈ but ∨ t.params = s.params) ∧ (.lanes ∈ but ∨ t.lanes = s.lanes) ∧
    (.voter ∈ but ∨ t.voter = s.voter) ∧ (.ite ∈ but ∨ t.ite = s.ite) ∧ (.vit ∈ but ∨ t.vit = s.vit) ∧
    (.vitW ∈ but ∨ t.vitW = s.vitW) ∧ (.sfu ∈ but ∨ t.sfu = s.sfu) ∧ (.sfuW ∈ but ∨ t.sfuW = s.sfuW) ∧
    (.img ∈ but ∨ t.img = s.img) ∧ (.vin ∈ but ∨ t.vin = s.vin) ∧ (.outs ∈ but ∨ t.outs = s.outs) ∧
    (.fio ∈ but ∨ t.fio = s.fio) ∧ (.efl ∈ but ∨ t.efl = s.efl) ∧ (.can ∈ but ∨ t.can = s.can) ∧
    (.pair ∈ but ∨ t.pair = s.pair) ∧ (.notices ∈ but ∨ t.dict.sessions = s.dict.sessions) ∧
    (.dict ∈ but ∨ dictRest t.dict = dictRest s.dict) ∧ (.lops ∈ but ∨ t.lops = s.lops) ∧
    (.upd ∈ but ∨ t.upd = s.upd) ∧ (.pwr ∈ but ∨ t.pwr = s.pwr) ∧ (.totals ∈ but ∨ t.totals = s.totals) ∧
    (.frozen ∈ but ∨ t.frozen = s.frozen) ∧ (.sent ∈ but ∨ t.emitted = s.emitted) ∧ (.free ∈ but ∨ t.freeCtr = s.freeCtr) := by
  constructor
  · rintro ⟨h0, h⟩
    exact ⟨h0, h .dead, h .ident, h .sys, h .frame, h .evt, h .frozenEvents, h .fw, h .params, h .lanes, h .voter, h .ite, h .vit,
      h .vitW, h .sfu, h .sfuW, h .img, h .vin, h .outs, h .fio, h .efl, h .can, h .pair, h .notices, h .dict, h .lops, h .upd, h .pwr,
      h .totals, h .frozen, h .sent, h .free⟩
  · rintro ⟨h0, a1, a2, a3, a4, a5, a6, a7, a8, a9, b0, b1, b2, b3, b4, b5, b6, b7, b8, b9, c0, c1, c2, c3, c4, c5, c6, c7, c8, c9, d0, d1⟩
    exact ⟨h0, fun p => by cases p <;> assumption⟩

theorem keeps_refl (but : List Part) (s : State) : keeps but s s := ⟨rfl, fun p => .inr (samePart_refl s p)⟩

/-- A part that is not excepted is the same. -/
theorem keeps_same {but : List Part} {s t : State} (h : keeps but s t) {p : Part} (hp : p ∉ but) : samePart s t p :=
  (h.2 p).resolve_left hp

theorem keeps_trans {but : List Part} {s t u : State} (h : keeps but s t) (k : keeps but t u) : keeps but s u :=
  ⟨k.1.trans h.1, fun p => match h.2 p, k.2 p with
    | .inl m, _ => .inl m
    | _, .inl m => .inl m
    | .inr a, .inr b => .inr (samePart_trans a b)⟩

theorem keeps_mono {a b : List Part} {s t : State} (h : keeps a s t) (m : ∀ p ∈ a, p ∈ b) : keeps b s t :=
  ⟨h.1, fun p => (h.2 p).imp (m p) id⟩

/-- Composition with the parts of both. -/
theorem keeps_comp {a b c : List Part} {s t u : State} (h : keeps a s t) (k : keeps b t u) (ma : ∀ p ∈ a, p ∈ c) (mb : ∀ p ∈ b, p ∈ c) :
    keeps c s u := keeps_trans (keeps_mono h ma) (keeps_mono k mb)

/-- Composition within the parts of the first. -/
theorem keeps_then {a b : List Part} {s t u : State} (h : keeps a s t) (k : keeps b t u) (m : ∀ p ∈ b, p ∈ a) : keeps a s u :=
  keeps_trans h (keeps_mono k m)

theorem keeps_ite {but : List Part} {s t u : State} {c : Prop} [Decidable c] (h : c → keeps but s t) (k : ¬c → keeps but s u) :
    keeps but s (if c then t else u) := by
  split
  · exact h ‹_›
  · exact k ‹_›

theorem keeps_foldl {α : Type} {but : List Part} (f : State → α → State) (h : ∀ s a, keeps but s (f s a)) (l : List α) (s : State) :
    keeps but s (l.foldl f s) := by
  induction l generalizing s with
  | nil => exact keeps_refl _ _
  | cons a l ih => exact keeps_trans (h s a) (ih _)

/-! ### Events that stay -/

/-- What has occurred at the tick of `s` has occurred in `t`, at the same tick. -/
def evtGrows (s t : State) : Prop := t.frame.tick = s.frame.tick ∧ ∀ (o : State) (n : Nat), s.frame.tick = o.frame.tick → occurred n o s → occurred n o t

theorem evtGrows_refl (s : State) : evtGrows s s := ⟨rfl, fun _ _ _ h => h⟩

theorem evtGrows_trans {s t u : State} (h : evtGrows s t) (k : evtGrows t u) : evtGrows s u :=
  ⟨k.1.trans h.1, fun o n e x => k.2 o n (h.1.trans e) (h.2 o n e x)⟩

theorem evtGrows_of_eq {s t : State} (hf : t.frame.tick = s.frame.tick) (h : t.evt = s.evt) : evtGrows s t :=
  ⟨hf, fun _ _ _ x => by simpa [occurred, h] using x⟩

theorem evtGrows_raise (n : Nat) (s : State) : evtGrows s (raise n s) :=
  ⟨by simp, fun _ _ e x => occurred_raise_of n x e⟩

theorem evtGrows_foldl {α : Type} (f : State → α → State) (h : ∀ s a, evtGrows s (f s a)) (l : List α) (s : State) :
    evtGrows s (l.foldl f s) := by
  induction l generalizing s with
  | nil => exact evtGrows_refl _
  | cons a l ih => exact evtGrows_trans (h s a) (ih _)

theorem evtGrows_raiseAll (ns : List Nat) (s : State) : evtGrows s (raiseAll ns s) := evtGrows_foldl _ (fun s n => evtGrows_raise n s) ns s

/-- An event among those raised has occurred. -/
theorem occurred_raiseAll {n : Nat} (hn : n < 256) {ns : List Nat} (h : n ∈ ns) (s : State) : occurred n s (raiseAll ns s) := by
  induction ns generalizing s with
  | nil => cases h
  | cons m ns ih =>
    rcases List.mem_cons.mp h with rfl | h
    · exact (evtGrows_raiseAll ns _).2 s n (by simp) (occurred_raise hn s)
    · have := ih h (raise m s)
      simpa [occurred, raiseAll] using this

/-! ### Shared operations -/

/-- A command of a live module acts on the state with what was sent forgotten. -/
theorem act_live (f : State → State) {s : State} (h : s.dead = false) : act f s = .next (f { s with emitted := [] }) := by simp [act, h]

/-- A command of a dead module changes nothing (R25). -/
theorem act_dead (f : State → State) {s : State} (h : s.dead = true) : act f s = .next s := by simp [act, h]

theorem only_true {c : State → Bool} {s : State} (f : State → State) (h : c s = true) : only c f s = f s := by simp [only, h]

theorem keeps_raise (n : Nat) (s : State) : keeps [.evt, .notices] s (raise n s) := by simp [keeps_iff]

theorem keeps_raiseAll (ns : List Nat) (s : State) : keeps [.evt, .notices] s (raiseAll ns s) := keeps_foldl _ (fun s n => keeps_raise n s) ns s

theorem keeps_emit (o : Output) (s : State) : keeps [.sent] s (emit o s) := by simp [keeps_iff, emit]

/-- What a field controller's work may change: its registers, and the events it raises. -/
theorem keeps_doField (f : FEnv → FWork → FWork) (s : State) : keeps [.fio, .evt, .notices] s (doField f s) :=
  keeps_comp (b := [.evt, .notices]) (t := { s with fio := (f s.fenv { f := s.fio }).f }) (a := [.fio])
    (by simp [keeps_iff]) (keeps_raiseAll _ _) (by decide) (by decide)

section
variable (ns : List Nat) (s : State)
@[simp] theorem raiseAll_pending : (raiseAll ns s).pending = s.pending := (keeps_raiseAll ns s).1
@[simp] theorem raiseAll_freeCtr : (raiseAll ns s).freeCtr = s.freeCtr := keeps_same (keeps_raiseAll ns s) (p := .free) (by decide)
@[simp] theorem raiseAll_emitted : (raiseAll ns s).emitted = s.emitted := keeps_same (keeps_raiseAll ns s) (p := .sent) (by decide)
@[simp] theorem raiseAll_dead : (raiseAll ns s).dead = s.dead := keeps_same (keeps_raiseAll ns s) (p := .dead) (by decide)
@[simp] theorem raiseAll_ident : (raiseAll ns s).ident = s.ident := keeps_same (keeps_raiseAll ns s) (p := .ident) (by decide)
@[simp] theorem raiseAll_sys : (raiseAll ns s).sys = s.sys := keeps_same (keeps_raiseAll ns s) (p := .sys) (by decide)
@[simp] theorem raiseAll_frame : (raiseAll ns s).frame = s.frame := keeps_same (keeps_raiseAll ns s) (p := .frame) (by decide)
@[simp] theorem raiseAll_fw : (raiseAll ns s).fw = s.fw := keeps_same (keeps_raiseAll ns s) (p := .fw) (by decide)
@[simp] theorem raiseAll_params : (raiseAll ns s).params = s.params := keeps_same (keeps_raiseAll ns s) (p := .params) (by decide)
@[simp] theorem raiseAll_lanes : (raiseAll ns s).lanes = s.lanes := keeps_same (keeps_raiseAll ns s) (p := .lanes) (by decide)
@[simp] theorem raiseAll_voter : (raiseAll ns s).voter = s.voter := keeps_same (keeps_raiseAll ns s) (p := .voter) (by decide)
@[simp] theorem raiseAll_ite : (raiseAll ns s).ite = s.ite := keeps_same (keeps_raiseAll ns s) (p := .ite) (by decide)
@[simp] theorem raiseAll_vit : (raiseAll ns s).vit = s.vit := keeps_same (keeps_raiseAll ns s) (p := .vit) (by decide)
@[simp] theorem raiseAll_vitW : (raiseAll ns s).vitW = s.vitW := keeps_same (keeps_raiseAll ns s) (p := .vitW) (by decide)
@[simp] theorem raiseAll_sfu : (raiseAll ns s).sfu = s.sfu := keeps_same (keeps_raiseAll ns s) (p := .sfu) (by decide)
@[simp] theorem raiseAll_sfuW : (raiseAll ns s).sfuW = s.sfuW := keeps_same (keeps_raiseAll ns s) (p := .sfuW) (by decide)
@[simp] theorem raiseAll_img : (raiseAll ns s).img = s.img := keeps_same (keeps_raiseAll ns s) (p := .img) (by decide)
@[simp] theorem raiseAll_vin : (raiseAll ns s).vin = s.vin := keeps_same (keeps_raiseAll ns s) (p := .vin) (by decide)
@[simp] theorem raiseAll_outs : (raiseAll ns s).outs = s.outs := keeps_same (keeps_raiseAll ns s) (p := .outs) (by decide)
@[simp] theorem raiseAll_fio : (raiseAll ns s).fio = s.fio := keeps_same (keeps_raiseAll ns s) (p := .fio) (by decide)
@[simp] theorem raiseAll_efl : (raiseAll ns s).efl = s.efl := keeps_same (keeps_raiseAll ns s) (p := .efl) (by decide)
@[simp] theorem raiseAll_can : (raiseAll ns s).can = s.can := keeps_same (keeps_raiseAll ns s) (p := .can) (by decide)
@[simp] theorem raiseAll_pair : (raiseAll ns s).pair = s.pair := keeps_same (keeps_raiseAll ns s) (p := .pair) (by decide)
@[simp] theorem raiseAll_lops : (raiseAll ns s).lops = s.lops := keeps_same (keeps_raiseAll ns s) (p := .lops) (by decide)
@[simp] theorem raiseAll_upd : (raiseAll ns s).upd = s.upd := keeps_same (keeps_raiseAll ns s) (p := .upd) (by decide)
@[simp] theorem raiseAll_pwr : (raiseAll ns s).pwr = s.pwr := keeps_same (keeps_raiseAll ns s) (p := .pwr) (by decide)
@[simp] theorem raiseAll_totals : (raiseAll ns s).totals = s.totals := keeps_same (keeps_raiseAll ns s) (p := .totals) (by decide)
@[simp] theorem raiseAll_frozen : (raiseAll ns s).frozen = s.frozen := keeps_same (keeps_raiseAll ns s) (p := .frozen) (by decide)
@[simp] theorem raiseAll_dictRest : dictRest (raiseAll ns s).dict = dictRest s.dict := keeps_same (keeps_raiseAll ns s) (p := .dict) (by decide)
end

@[simp] theorem doField_fio (f : FEnv → FWork → FWork) (s : State) : (doField f s).fio = (f s.fenv { f := s.fio }).f := by
  simp [doField]

/-- The events that the work raises have occurred. -/
theorem occurred_doField (f : FEnv → FWork → FWork) {n : Nat} (hn : n < 256) (s : State) (h : n ∈ (f s.fenv { f := s.fio }).ev) :
    occurred n s (doField f s) := by
  exact occurred_raiseAll hn h { s with fio := (f s.fenv { f := s.fio }).f }

theorem evtGrows_doField (f : FEnv → FWork → FWork) (s : State) : evtGrows s (doField f s) :=
  evtGrows_trans (evtGrows_of_eq rfl rfl) (evtGrows_raiseAll _ _)

theorem keeps_trackRef (s : State) : keeps [.frame, .evt, .notices] s (trackRef s) := by
  unfold trackRef; dsimp only
  repeat' split
  all_goals simp [keeps_iff]

theorem keeps_takeHandOver (s : State) : keeps [.pair] s (takeHandOver s) := by simp [keeps_iff, takeHandOver]

theorem keeps_afterComms (b : Bool) (s : State) : keeps [.pair] s (afterComms b s) := by
  unfold afterComms; split
  · exact keeps_takeHandOver s
  · exact keeps_refl _ _

/-- What the work of the Efavo link may change. -/
theorem keeps_doEfl (f : EfEnv → EWork → EWork) (s : State) :
    keeps [.efl, .totals, .sent, .evt, .notices, .pair, .frame] s (doEfl f s) := by
  unfold doEfl; dsimp only
  refine keeps_comp (keeps_comp (c := [.efl, .totals, .sent, .evt, .notices, .pair]) (keeps_comp (c := [.efl, .totals, .sent, .evt, .notices])
    (keeps_comp (c := [.efl, .totals, .sent]) (a := [.efl, .totals]) (t := { s with efl := _, totals := _ }) ?_
      (keeps_foldl (but := [.sent]) _ (fun s t => keeps_emit _ s) _ _) (by decide) (by decide))
    (keeps_raiseAll _ _) (by decide) (by decide)) (keeps_afterComms _ _) (by decide) (by decide)) (keeps_trackRef _) (by decide) (by decide)
  simp [keeps_iff]

/-- What the work of the CAN controllers may change. -/
theorem keeps_doCan (f : CEnv → CWork → CWork) (s : State) : keeps [.can, .totals, .sent, .evt, .notices, .pair] s (doCan f s) := by
  unfold doCan; dsimp only
  refine keeps_comp (keeps_comp (c := [.can, .totals, .sent, .evt, .notices])
    (keeps_comp (c := [.can, .totals, .sent]) (a := [.can, .totals]) (t := { s with can := _, totals := _ }) ?_
      (keeps_foldl (but := [.sent]) _ (fun s t => keeps_emit _ s) _ _) (by decide) (by decide))
    (keeps_raiseAll _ _) (by decide) (by decide)) (keeps_afterComms _ _) (by decide) (by decide)
  simp [keeps_iff]

theorem keeps_doPair (f : Pair → Pair × List Nat) (s : State) : keeps [.pair, .evt, .notices] s (doPair f s) := by
  unfold doPair; dsimp only
  exact keeps_comp (a := [.pair]) (t := { s with pair := _ }) (by simp [keeps_iff]) (keeps_raiseAll _ _) (by decide) (by decide)

theorem keeps_safeTrigger (c : Nat) (s : State) : keeps [.sys] s (safeTrigger c s) := by
  unfold safeTrigger; repeat' split
  all_goals simp [keeps_iff]

theorem keeps_fresh (w : Nat) (s : State) : keeps [.free] s (fresh w s).2 := by simp [keeps_iff, fresh]

theorem keeps_openSwitches (s : State) : keeps [.fio, .evt, .notices, .pair] s (openSwitches s) := by
  unfold openSwitches; dsimp only
  exact keeps_comp (keeps_doField (fun env w => openAll env.tick w) s) (b := [.fio, .pair]) (by simp [keeps_iff]) (by decide) (by decide)

theorem keeps_stopHold (s : State) : keeps [.pair, .evt, .notices] s (stopHold s) := by
  unfold stopHold; split <;> simp [keeps_iff]

theorem keeps_releaseOff (s : State) : keeps [.fio, .evt, .notices, .pair] s (releaseOff s) := by
  unfold releaseOff; dsimp only
  exact keeps_comp (keeps_comp (c := [.fio, .evt, .notices, .pair]) (keeps_stopHold s) (keeps_openSwitches _) (by decide) (by decide))
    (b := [.pair]) (by simp [keeps_iff]) (by decide) (by decide)

theorem keeps_releaseHeld (s : State) : keeps [.fio, .evt, .notices, .pair] s (releaseHeld s) := by
  have ho := fun t => keeps_openSwitches t
  unfold releaseHeld; dsimp only
  split
  · exact ho s
  have h1 := keeps_mono (b := [.fio, .evt, .notices, .pair]) (keeps_stopHold s) (by decide)
  split
  · exact keeps_trans h1 (ho _)
  split
  · exact keeps_trans h1 (keeps_comp (a := [.pair]) (t := { stopHold s with pair := _ }) (by simp [keeps_iff]) (ho _) (by decide) (by decide))
  · exact keeps_trans h1 (by simp [keeps_iff])

theorem keeps_closeGates (s : State) : keeps [.lanes] s (closeGates s) := by simp [keeps_iff, closeGates]

theorem keeps_cancelSpeculation (s : State) : keeps [.ite, .evt, .notices] s (cancelSpeculation s) := by simp [keeps_iff, cancelSpeculation]

theorem keeps_cancelChange (r : Nat) (s : State) : keeps [.upd] s (cancelChange r s) := by
  unfold cancelChange; split <;> simp [keeps_iff]

theorem keeps_pairBlockLost (s : State) : keeps [.pair, .lops, .evt, .notices] s (pairBlockLost s) := by
  unfold pairBlockLost; dsimp only; split <;> simp [keeps_iff]

/-- The parts that an entry to a mode may change. -/
def modeEntry : List Part :=
  [.sys, .frame, .evt, .notices, .lanes, .voter, .ite, .vitW, .sfuW, .can, .totals, .sent, .pair, .upd]

theorem keeps_leaveRun (s : State) : keeps [.ite, .frame, .vitW, .sfuW, .lanes] s (leaveRun s) := by simp [keeps_iff, leaveRun]

theorem keeps_enterMode (st : CanStages) (m : Mode) (s : State) : keeps modeEntry s (enterMode st m s) := by
  have h0 : keeps modeEntry s (if s.sys.mode == .run && m != .run then leaveRun s else s) := by
    split
    · exact keeps_mono (keeps_leaveRun s) (by decide)
    · exact keeps_refl _ _
  have h1 : ∀ t : State, keeps [.sys] t { t with sys := { t.sys with mode := m } } := fun t => by simp [keeps_iff]
  have h2 : ∀ t : State, keeps [.voter] t (endReadmission t) := fun t => by simp [keeps_iff, endReadmission]
  unfold enterMode; dsimp only
  exact keeps_then (keeps_then (keeps_then (keeps_then (keeps_then (keeps_then h0 (h1 _) (by decide)) (keeps_cancelSpeculation _) (by decide))
    (keeps_cancelChange _ _) (by decide)) (h2 _) (by decide)) (keeps_raise _ _) (by decide)) (keeps_doCan _ _) (by decide)

theorem keeps_enterSafe (st : CanStages) (c : Nat) (s : State) : keeps (modeEntry ++ [.lops]) s (enterSafe st c s) := by
  unfold enterSafe; dsimp only
  refine keeps_comp (keeps_enterMode st .safe s) (b := modeEntry ++ [.lops]) ?_ (by decide) (by decide)
  refine keeps_comp (a := [.sys, .lops, .pair]) (t := { enterMode st .safe s with sys := _, lops := _, pair := _ }) ?_ (keeps_raise _ _) (by decide) (by decide)
  simp [keeps_iff]

theorem keeps_goSafe (st : CanStages) (c : Nat) (s : State) : keeps (modeEntry ++ [.lops, .fio]) s (goSafe st c s) := by
  unfold goSafe; dsimp only
  have h := keeps_comp (c := modeEntry ++ [.lops, .fio]) (keeps_enterSafe st c s) (keeps_closeGates _) (by decide) (by decide)
  split
  · exact keeps_comp h (keeps_releaseHeld _) (by decide) (by decide)
  · exact keeps_comp h (keeps_releaseOff _) (by decide) (by decide)

end Sys2Proof.Machine
end

