-- ==== Sys2Proof/Laws/Field.lean ====
section
/-!
SUPPORT. Laws of the field controller: opening every switch leaves every output off, and a release without an output hold does.
-/
namespace Sys2Proof.Machine

theorem mem_rangeFrom {x : Nat} : ∀ {a n : Nat}, x ∈ rangeFrom a n ↔ a ≤ x ∧ x < a + n
  | a, 0 => by simp [rangeFrom]
  | a, n + 1 => by rw [rangeFrom, List.mem_cons, mem_rangeFrom]; omega

theorem nth_of_le {β : Type} (d : β) {j : Nat} {l : List β} (h : l.length ≤ j) : nth d j l = d := by simp [nth, h]

/-- A property that a change keeps holds of every member afterwards that it held of before. -/
theorem nth_modNth_keeps {β : Type} {P : β → Prop} (d : β) (f : β → β) (hf : ∀ x, P x → P (f x)) (i j : Nat) (l : List β)
    (h : P (nth d j l)) : P (nth d j (modNth i f l)) := by
  by_cases e : j = i
  · subst e
    by_cases hl : j < l.length
    · rw [nth_modNth_self d f j l hl]; exact hf _ h
    · rw [nth_of_le d (by rw [length_modNth]; omega)]
      rwa [nth_of_le d (by omega)] at h
  · rw [nth_modNth_ne d f i j l e]; exact h

/-- A property of the default and of whatever a change makes holds of the changed member. -/
theorem nth_modNth_makes {β : Type} {P : β → Prop} (d : β) (f : β → β) (hd : P d) (hf : ∀ x, P (f x)) (i : Nat) (l : List β) :
    P (nth d i (modNth i f l)) := by
  by_cases hl : i < l.length
  · rw [nth_modNth_self d f i l hl]; exact hf _
  · rw [nth_of_le d (by rw [length_modNth]; omega)]; exact hd

/-- Switches that are open in the work of the controller. -/
def openIn (w : FWork) (out : Bool) (n : Nat) : Prop := if out then (w.out n).driven = false else (w.grp n).driven = false

theorem openIn_openOut (t c : Nat) (w : FWork) : openIn (openOut t c w) true c :=
  nth_modNth_makes (P := fun o : OutChan => o.driven = false) _ _ rfl (fun x => by split <;> simp_all) c w.f.outs

theorem openIn_openOut_mono (t c : Nat) {w : FWork} {b : Bool} {n : Nat} (h : openIn w b n) : openIn (openOut t c w) b n := by
  cases b with
  | true => exact nth_modNth_keeps (P := fun o : OutChan => o.driven = false) _ _ (fun x hx => by simp [hx]) c n w.f.outs h
  | false => exact h

theorem foldl_openOut (t : Nat) (cs : List Nat) : ∀ {w : FWork} {b : Bool} {n : Nat}, openIn w b n →
    openIn (cs.foldl (fun w c => openOut t c w) w) b n := by
  induction cs with
  | nil => exact id
  | cons c cs ih => exact fun h => ih (openIn_openOut_mono t c h)

theorem foldl_openOut_mem (t : Nat) {c : Nat} : ∀ {cs : List Nat} (w : FWork), c ∈ cs →
    openIn (cs.foldl (fun w c => openOut t c w) w) true c
  | d :: cs, w, h => by
    rcases List.mem_cons.mp h with rfl | h
    · exact foldl_openOut t cs (openIn_openOut t c w)
    · exact foldl_openOut_mem t (openOut t d w) h

theorem openIn_openGroup_mono (t g : Nat) {w : FWork} {b : Bool} {n : Nat} (h : openIn w b n) : openIn (openGroup t g w) b n := by
  refine foldl_openOut t _ ?_
  cases b with
  | true => exact h
  | false => exact nth_modNth_keeps (P := fun o : Group => o.driven = false) _ _ (fun _ _ => rfl) g n w.f.groups h

theorem openIn_openGroup_out (t g : Nat) (w : FWork) {c : Nat} (h : groupOfOut c = g) : openIn (openGroup t g w) true c :=
  foldl_openOut_mem t _ (mem_rangeFrom.mpr (by unfold groupOfOut at h; omega))

theorem openIn_openGroup_ret (t g : Nat) (w : FWork) : openIn (openGroup t g w) false g :=
  foldl_openOut t _ (nth_modNth_makes (P := fun o : Group => o.driven = false) _ _ rfl (fun _ => rfl) g w.f.groups)

theorem foldl_openGroup (t : Nat) (gs : List Nat) : ∀ {w : FWork} {b : Bool} {n : Nat}, openIn w b n →
    openIn (gs.foldl (fun w g => openGroup t g w) w) b n := by
  induction gs with
  | nil => exact id
  | cons g gs ih => exact fun h => ih (openIn_openGroup_mono t g h)

theorem foldl_openGroup_mem (t : Nat) {g : Nat} : ∀ {gs : List Nat} (w : FWork), g ∈ gs →
    openIn (gs.foldl (fun w g => openGroup t g w) w) false g ∧ ∀ c, groupOfOut c = g → openIn (gs.foldl (fun w g => openGroup t g w) w) true c
  | d :: gs, w, h => by
    rcases List.mem_cons.mp h with rfl | h
    · exact ⟨foldl_openGroup t gs (openIn_openGroup_ret t g w), fun c hc => foldl_openGroup t gs (openIn_openGroup_out t g w hc)⟩
    · exact foldl_openGroup_mem t (openGroup t d w) h

/-- Opening every switch opens every switch. -/
theorem openIn_openAll (t : Nat) (w : FWork) : (∀ c, c < 24 → openIn (openAll t w) true c) ∧ (∀ g, g < 6 → openIn (openAll t w) false g) :=
  ⟨fun c h => (foldl_openGroup_mem t w (mem_rangeFrom.mpr ⟨Nat.zero_le (groupOfOut c), by unfold groupOfOut; omega⟩)).2 c rfl,
    fun g h => (foldl_openGroup_mem t w (mem_rangeFrom.mpr ⟨Nat.zero_le g, by omega⟩)).1⟩

theorem outputsOff_of_fio {s t : State} (h : outputsOff s) (e1 : t.fio.outs = s.fio.outs) (e2 : t.fio.groups = s.fio.groups) : outputsOff t := by
  simpa [outputsOff, e1, e2] using h

theorem outputsOff_doOpenAll (s : State) : outputsOff (doField (fun env w => openAll env.tick w) s) := by
  simpa [outputsOff, openIn, FWork.out, FWork.grp] using openIn_openAll s.fenv.tick { f := s.fio }

/-- Every switch is open after the field controller has opened them (R487). -/
theorem outputsOff_openSwitches (s : State) : outputsOff (openSwitches s) := by
  have h := outputsOff_doOpenAll s
  unfold outputsOff at h ⊢
  unfold openSwitches; dsimp only; exact h

/-- A release with outputs off at once leaves every output off (R487). -/
theorem outputsOff_releaseOff (s : State) : outputsOff (releaseOff s) := by
  have h := outputsOff_openSwitches (stopHold s)
  unfold outputsOff at h ⊢
  unfold releaseOff; dsimp only; exact h

/-- After a release the module does not hold the line. -/
@[simp] theorem stopHold_hold (s : State) : (stopHold s).pair.hold = false := by
  unfold stopHold; split
  · simp
  · simp_all

@[simp] theorem openSwitches_hold (s : State) : (openSwitches s).pair.hold = s.pair.hold := by
  have := keeps_same (keeps_doField (fun env w => openAll env.tick w) s) (p := .pair) (by decide)
  simp only [samePart] at this
  simp [openSwitches, this]

@[simp] theorem releaseOff_hold (s : State) : (releaseOff s).pair.hold = false := by simp [releaseOff]

end Sys2Proof.Machine
end

