-- ==== Sys2Proof/Laws/HostWrite.lean ====
section
/-!
SUPPORT. Laws of a host write: what an accepted one does, the reply, and the change log.
-/
namespace Sys2Proof.Machine

/-! ### What is sent stays sent -/

/-- Nothing that has been sent is taken back. -/
def sends (s t : State) : Prop := ∀ o, o ∈ s.emitted → o ∈ t.emitted

theorem sends_trans {s t u : State} (h : sends s t) (k : sends t u) : sends s u := fun o m => k o (h o m)

theorem sends_of_eq {s t : State} (h : t.emitted = s.emitted) : sends s t := fun _ m => h ▸ m

theorem sends_emit (o : Output) (s : State) : sends s (emit o s) := fun x m => by simp [emit, m]

theorem mem_emit (o : Output) (s : State) : o ∈ (emit o s).emitted := by simp [emit]

theorem sends_foldl {α : Type} (f : State → α → State) (h : ∀ s a, sends s (f s a)) (l : List α) (s : State) : sends s (l.foldl f s) := by
  induction l generalizing s with
  | nil => exact fun _ m => m
  | cons a l ih => exact sends_trans (h s a) (ih _)

theorem sends_of_keeps {a : List Part} {s t : State} (h : keeps a s t) (m : .sent ∉ a) : sends s t := sends_of_eq (keeps_same h m)

theorem foldl_emit {α : Type} (g : α → Output) (l : List α) : ∀ s : State,
    (l.foldl (fun s t => emit (g t) s) s).emitted = s.emitted ++ l.map g := by
  induction l with
  | nil => simp
  | cons a l ih => intro s; rw [List.foldl_cons, ih]; simp [emit]

@[simp] theorem trackRef_emitted (s : State) : (trackRef s).emitted = s.emitted := keeps_same (keeps_trackRef s) (p := .sent) (by decide)

@[simp] theorem afterComms_emitted (b : Bool) (s : State) : (afterComms b s).emitted = s.emitted :=
  keeps_same (keeps_afterComms b s) (p := .sent) (by decide)

/-- What the work of the Efavo link sends. -/
@[simp] theorem doEfl_emitted (f : EfEnv → EWork → EWork) (s : State) :
    (doEfl f s).emitted = s.emitted ++ (f s.eenv { e := s.efl }).tx.map .efavo := by
  simp [doEfl, foldl_emit]

/-- What the work of the CAN controllers sends. -/
@[simp] theorem doCan_emitted (f : CEnv → CWork → CWork) (s : State) :
    (doCan f s).emitted = s.emitted ++ (f s.cenv { c := s.can }).tx.map .can := by
  simp [doCan, foldl_emit]

theorem sends_doEfl (f : EfEnv → EWork → EWork) (s : State) : sends s (doEfl f s) := fun o m => by simp [m]

theorem sends_doCan (f : CEnv → CWork → CWork) (s : State) : sends s (doCan f s) := fun o m => by simp [m]

/-! ### Replies -/

theorem keeps_sendReply (r : DictReply) (s : State) : keeps (replyParts r.carrier) s (sendReply r s) := by
  have he := keeps_emit (.dict r) s
  unfold sendReply; dsimp only
  split <;> rename_i hc <;> rw [hc]
  · exact keeps_comp he (keeps_doEfl _ _) (by decide) (by decide)
  · exact keeps_comp he (keeps_doCan _ _) (by decide) (by decide)
  all_goals exact keeps_mono he (by decide)

theorem mem_sendReply (r : DictReply) (s : State) : Output.dict r ∈ (sendReply r s).emitted := by
  have he := mem_emit (.dict r) s
  unfold sendReply; dsimp only
  split
  · exact sends_doEfl _ _ _ he
  · exact sends_doCan _ _ _ he
  all_goals exact he

theorem keeps_modSession (k : Nat) (f : Session → Session) (s : State) : keeps [.notices] s (modSession k f s) := by
  simp [keeps_iff, modSession, dictRest]

theorem keeps_answer (r : Req) (op st : Nat) (b : List Byte) (s : State) : keeps (replyParts r.carrier) s (answer r op st b s) := by
  have hr := fun t => keeps_sendReply (replyTo r op r.session st b s) t
  have hn : ∀ p ∈ [Part.notices], p ∈ replyParts r.carrier := by cases r.carrier <;> decide
  unfold answer; dsimp only
  split
  · exact keeps_trans (keeps_mono (keeps_modSession _ _ _) hn) (hr _)
  · exact hr _

theorem replied_answer (r : Req) (op st : Nat) (b : List Byte) (s : State) : replied r op st (answer r op st b s) := by
  refine ⟨replyTo r op r.session st b s, ?_, rfl, rfl, rfl, rfl, rfl⟩
  unfold answer; dsimp only
  exact mem_sendReply _ _

theorem keeps_refuseFrame (r : Req) (op st : Nat) (s : State) : keeps (replyParts r.carrier) s (refuseFrame r op st s) :=
  keeps_sendReply (replyTo r op r.session st [] s) s

theorem replied_refuseFrame (r : Req) (op st : Nat) (s : State) : replied r op st (refuseFrame r op st s) :=
  ⟨replyTo r op r.session st [] s, mem_sendReply _ _, rfl, rfl, rfl, rfl, rfl⟩

/-! ### The change log -/

/-- What an entry changes: the log of the dictionary server, in which it stands last with its number and tick, and events 240 and 241. -/
theorem writeLog_eq (e : LogEntry) (s : State) : ∃ d : Dict, d.sessions = s.dict.sessions ∧
    (∃ c, d.log.getLast? = some { e with seqNo := s.dict.logNext, tick := s.tick, check := c }) ∧
    (writeLog e s = { s with dict := d } ∨ writeLog e s = raise 240 { s with dict := d } ∨ writeLog e s = raise 241 { s with dict := d }) := by
  have h : ∀ (n : Nat) (l : List LogEntry) (x : LogEntry), 0 < n → (lastN n (l ++ [x])).getLast? = some x := fun n l x hn => by
    simp [lastN, List.getLast?_drop]
    omega
  unfold writeLog
  generalize hN : 4096 = N
  have hN' : 0 < N := by omega
  dsimp only
  split
  · refine ⟨_, ?_, ?_, .inl rfl⟩
    · rfl
    · exact ⟨_, h N _ _ hN'⟩
  split
  · refine ⟨_, ?_, ?_, .inr (.inl rfl)⟩
    · rfl
    · exact ⟨_, h N _ _ hN'⟩
  split
  · refine ⟨_, ?_, ?_, .inr (.inr rfl)⟩
    · rfl
    · exact ⟨_, h N _ _ hN'⟩
  · refine ⟨_, ?_, ?_, .inl rfl⟩
    · rfl
    · exact ⟨_, h N _ _ hN'⟩

theorem keeps_writeLog (e : LogEntry) (s : State) : keeps [.dict, .evt, .notices] s (writeLog e s) := by
  obtain ⟨d, hd, -, h | h | h⟩ := writeLog_eq e s <;> rw [h] <;> simp [keeps_iff, hd]

theorem evtGrows_writeLog (e : LogEntry) (s : State) : evtGrows s (writeLog e s) := by
  obtain ⟨d, -, -, h⟩ := writeLog_eq e s
  have h0 : evtGrows s { s with dict := d } := evtGrows_of_eq rfl rfl
  rcases h with h | h | h <;> rw [h]
  · exact h0
  · exact evtGrows_trans h0 (evtGrows_raise _ _)
  · exact evtGrows_trans h0 (evtGrows_raise _ _)

/-- The entry stands last, with its number and tick. -/
theorem writeLog_last (e : LogEntry) (s : State) :
    ∃ c, (writeLog e s).dict.log.getLast? = some { e with seqNo := s.dict.logNext, tick := s.tick, check := c } := by
  obtain ⟨d, -, ⟨c, hc⟩, h⟩ := writeLog_eq e s
  refine ⟨c, ?_⟩
  rcases h with h | h | h <;> rw [h] <;> simpa using hc

theorem keeps_hostLog (r : Req) (k i b o n : Nat) (s : State) : keeps [.dict, .evt, .notices] s (hostLog r k i b o n s) := keeps_writeLog _ _

theorem keeps_ownLog (k i o n : Nat) (s : State) : keeps [.dict, .evt, .notices] s (ownLog k i o n s) := keeps_writeLog _ _

theorem evtGrows_ownLog (k i o n : Nat) (s : State) : evtGrows s (ownLog k i o n s) := evtGrows_writeLog _ _

theorem logged_hostLog (r : Req) (k i b o n : Nat) (s : State) : logged r k i b o n s (hostLog r k i b o n s) := by
  unfold hostLog; dsimp only
  obtain ⟨c, h⟩ := writeLog_last _ s
  exact ⟨_, h, rfl, rfl, rfl, rfl, rfl, rfl, rfl, rfl⟩

theorem keeps_dropForce (f : Force) (s : State) : keeps [.dict, .evt, .notices] s (dropForce f s) :=
  keeps_comp (keeps_ownLog _ _ _ _ _) (keeps_raise _ _) (by decide) (by decide)

theorem evtGrows_dropForce (f : Force) (s : State) : evtGrows s (dropForce f s) :=
  evtGrows_trans (evtGrows_ownLog _ _ _ _ _) (evtGrows_raise _ _)

/-! ### An accepted write -/

theorem allowOp_takesUp {r : Req} {s : State} {x : Session} (h : takesUp r s x) : allowOp r s = .go := by
  obtain ⟨-, -, h0, hx, -, hb, hs, hn⟩ := h
  simp [allowOp, h0, hx, hb, hn, ← hs]

/-- A request that the server takes up is carried out by `k`. -/
theorem ifAllowed_takesUp {r : Req} {s : State} {x : Session} (op : Nat) (k : State → State) (h : takesUp r s x) :
    ifAllowed op r k s = k s := by simp [ifAllowed, allowOp_takesUp h]

theorem takesUp_clear {r : Req} {s : State} {x : Session} (h : takesUp r s x) : takesUp r { s with emitted := [] } x := h

theorem firstStatus_zero : ∀ {l : List Nat}, (∀ c ∈ l, c = 0) → firstStatus l = 0 := by
  intro l h
  have : l.filter (fun c => c != 0) = [] := by
    rw [List.filter_eq_nil_iff]; intro c hc; simp [h c hc]
  simp [firstStatus, this]

/-- The state in which the effect of an accepted write runs: logged, and marked with event 238 when it needs level 2 (R553). -/
def writeReady (r : Req) (index sub : Nat) (j : Job) (s : State) : State :=
  let s := match j.log with
    | some l => (l :: j.more).foldl (fun s e => hostLog r e.1 index sub e.2.1 e.2.2 s) s
    | none => s
  if j.right.level = 2 then raise 238 s else s

/-- An accepted write: its effect, and the reply with status 0. -/
theorem hostWrite_accepted {r : Req} {index sub : Nat} {j : State → Job} {s : State} {x : Session} (h : takesUp r s x)
    (hr : (j s).right ≠ .ro) (hl : (j s).right.level ≤ x.level) (hp : passwordSet (j s).right.level s.dict = true)
    (hc : (j s).console = true → r.carrier = .console) (hb : ∀ c ∈ (j s).bad, c = 0) (hm : served s.sys.mode index sub = true)
    (hg : (j s).log.isSome → s.dict.sinceExport + 1 + (j s).more.length ≤ 4096 ∧ s.pwr.failing = false) :
    hostWrite r index sub j s = answer r 2 0 [] ((j s).eff (writeReady r index sub (j s) s)) := by
  have hu := h.2.1
  have hst : firstStatus ((j s).bad ++ [bad (!served s.sys.mode index sub) 0x0201] ++
      writeAccess r (j s).right (j s).console (j s).openFirst s ++
      [bad ((j s).log.isSome && decide (4096 < s.dict.sinceExport + 1 + (j s).more.length)) 0x0403,
       bad ((j s).log.isSome && s.pwr.failing) 0x0404]) = 0 := by
    apply firstStatus_zero
    obtain ⟨-, -, h0, hx, ho, -⟩ := h
    intro c hcm
    simp only [List.mem_append, List.mem_cons, or_false, List.not_mem_nil] at hcm
    rcases hcm with ((hcm | hcm) | hcm) | (hcm | hcm)
    · exact hb c hcm
    · simp [hcm, bad, hm]
    · have hc' : ((j s).console && r.carrier != .console) = false := by
        cases hk : (j s).console with
        | false => rfl
        | true => simp [hc hk]
      simp only [writeAccess, h0, hx, ho] at hcm
      simp [hc', bad, hp, hr, Nat.not_lt.mpr hl] at hcm
      exact hcm
    · rw [hcm]; unfold bad
      cases hk : (j s).log.isSome with
      | false => rfl
      | true => have := (hg hk).1; simp; omega
    · rw [hcm]; unfold bad
      cases hk : (j s).log.isSome with
      | false => rfl
      | true => simp [(hg hk).2]
  unfold hostWrite
  rw [ifAllowed_takesUp 2 _ h]
  simp only [hu, Bool.not_true, Bool.false_eq_true, if_false, runJob, jobStatus, hst, ne_eq, not_true_eq_false]
  rfl

theorem keeps_hostLogs (r : Req) (index sub : Nat) (l : List (Nat × Nat × Nat)) (s : State) :
    keeps [.dict, .evt, .notices] s (l.foldl (fun s e => hostLog r e.1 index sub e.2.1 e.2.2 s) s) :=
  keeps_foldl _ (fun s _ => keeps_hostLog _ _ _ _ _ _ s) l s

theorem keeps_writeReady (r : Req) (index sub : Nat) (j : Job) (s : State) :
    keeps [.dict, .evt, .notices] s (writeReady r index sub j s) := by
  unfold writeReady
  cases j.log with
  | none =>
    dsimp only; split
    · exact keeps_mono (keeps_raise _ _) (by decide)
    · exact keeps_refl _ _
  | some l =>
    dsimp only; split
    · exact keeps_comp (keeps_hostLogs _ _ _ _ _) (keeps_raise _ _) (by decide) (by decide)
    · exact keeps_hostLogs _ _ _ _ _

end Sys2Proof.Machine
end

