-- ==== Sys2Proof/Laws/Memory.lean ====
section
/-!
SUPPORT. Laws of lane memory: every operation that writes it keeps its canonical form, and a commanded write changes only the bytes it names.
-/
namespace Sys2Proof.Machine

/-- The canonical form of one lane's memory. -/
abbrev memWf (m : List (Nat × Byte)) : Prop := spWf 0 m = true

theorem memWf_nil : memWf [] := rfl

theorem memWf_writes {β : Type} (k : β → Nat) (v : List (Nat × Byte) → β → Byte) (xs : List β) {m : List (Nat × Byte)} (h : memWf m) :
    memWf (xs.foldl (fun m x => spSet 0 (k x) (v m x) m) m) := spWf_foldl 0 _ (fun _ _ h => spWf_spSet 0 _ _ h) xs h

theorem memWf_putWord (a v : Nat) {m : List (Nat × Byte)} (h : memWf m) : memWf (putWord a v m) :=
  memWf_writes (fun i => a + i) (fun _ i => pairByte (v % 2 ^ 32) i) (rangeFrom 0 8) h

theorem memWf_storeWrites (ws : List (Nat × Nat)) {m : List (Nat × Byte)} (h : memWf m) : memWf (storeWrites ws m) :=
  spWf_foldl 0 _ (fun _ w h => memWf_writes (fun i => w.1 + i) (fun _ i => BitVec.ofNat 8 (w.2 / 2 ^ (8 * i))) _ h) ws h

theorem memWf_loadSections (secs : List Section) {m : List (Nat × Byte)} (h : memWf m) : memWf (loadSections secs m) :=
  spWf_foldl 0 _ (fun m c h => by
    split
    · exact h
    · exact memWf_writes (fun i => c.load + i) (fun _ i => nth 0 i c.content) _ h) secs h

theorem memWf_loadedMem (s : State) : memWf s.loadedMem := by
  unfold State.loadedMem
  split
  · exact memWf_loadSections _ memWf_nil
  · exact memWf_nil

theorem memWf_zeroWork (secs : List Section) {m : List (Nat × Byte)} (h : memWf m) : memWf (zeroWork secs m) :=
  spWf_foldl 0 _ (fun _ _ h => memWf_writes (fun a => a) (fun _ _ => 0) _ h) _ h

theorem memWf_warmTimers (gap : Nat) (ys : List Symbol) {m : List (Nat × Byte)} (h : memWf m) : memWf (warmTimers gap ys m) :=
  spWf_foldl 0 _ (fun _ _ h => memWf_putWord _ _ h) _ h

theorem memWf_warmMem (gap : Nat) (a : App) {loaded : List (Nat × Byte)} (snap : List (Nat × Byte)) (h : memWf loaded) :
    memWf (warmMem gap a loaded snap) :=
  memWf_warmTimers _ _ (spWf_foldl 0 _ (fun _ _ h => memWf_writes (fun x => x) (fun _ x => spGet 0 x snap) _ h) _ h)

theorem memWf_primeSymbol (y : Symbol) {p : List (Nat × Byte) × State} (h : memWf p.1) : memWf (primeSymbol y p).1 := by
  unfold primeSymbol
  generalize rangeFrom 0 (y.size / 8) = is
  induction is generalizing p with
  | nil => exact h
  | cons i is ih => exact ih (p := (putWord _ _ p.1, _)) (memWf_putWord _ _ h)

theorem memWf_primeSymbols (ys : List Symbol) {p : List (Nat × Byte) × State} (h : memWf p.1) :
    memWf (ys.foldl (fun p y => primeSymbol y p) p).1 := by
  induction ys generalizing p with
  | nil => exact h
  | cons y ys ih => exact ih (memWf_primeSymbol y h)

theorem memWf_coldMem (s : State) : memWf (coldMem s).1 :=
  memWf_primeSymbols _ (spWf_foldl 0 _ (fun _ _ h => memWf_putWord _ _ h) _ (memWf_loadedMem s))

theorem memWf_loadCandidate (old new : App) {m : List (Nat × Byte)} (h : memWf m) : memWf (loadCandidate old new m) :=
  spWf_foldl 0 _ (fun _ _ h => memWf_writes (fun x => x) (fun _ x => new.byteAt x) _ h) _ (memWf_loadSections _ h)

theorem memWf_store (bs : List (Nat × Byte)) {w : DWork} (h : memWf w.lane.mem) : memWf (w.store bs).lane.mem :=
  memWf_writes (fun p : Nat × Byte => p.1) (fun _ p => p.2) bs h

/-- Reset has the form. -/
theorem memWf_reset (l : LaneId) : memWf (State.reset.lanes.get l).mem := by cases l <;> rfl

/-- A run of writes leaves every byte that it does not name. -/
theorem spGet_writes_ne {β : Type} (k : β → Nat) (v : List (Nat × Byte) → β → Byte) {a : Nat} :
    ∀ (xs : List β) {m : List (Nat × Byte)}, memWf m → (∀ x ∈ xs, k x ≠ a) →
      spGet 0 a (xs.foldl (fun m x => spSet 0 (k x) (v m x) m) m) = spGet 0 a m
  | [], _, _, _ => rfl
  | x :: xs, m, h, hn => by
    rw [List.foldl_cons, spGet_writes_ne k v xs (spWf_spSet 0 _ _ h) (fun y hy => hn y (List.mem_cons_of_mem _ hy))]
    exact spGet_spSet_ne 0 _ (Ne.symm (hn x List.mem_cons_self)) h

end Sys2Proof.Machine
end

