-- ==== Sys2Proof/Laws/Modes.lean ====
section
/-!
SUPPORT. Laws of the entry to BOOT (01 transition 1): what a restart keeps, and that it leaves every output off.
-/
namespace Sys2Proof.Machine

theorem keeps_dropForces (l : List Force) (s : State) : keeps [.dict, .evt, .notices] s (l.foldl (fun s f => dropForce f s) s) :=
  keeps_foldl _ (fun s f => keeps_dropForce f s) l s

theorem evtGrows_dropForces (l : List Force) (s : State) : evtGrows s (l.foldl (fun s f => dropForce f s) s) :=
  evtGrows_foldl _ (fun s f => evtGrows_dropForce f s) l s

theorem evtGrows_trackRef (s : State) : evtGrows s (trackRef s) := by
  unfold trackRef; dsimp only
  repeat' split
  · exact evtGrows_refl s
  · exact evtGrows_of_eq rfl rfl
  · exact evtGrows_trans (evtGrows_of_eq (t := { s with frame := _ }) rfl rfl) (evtGrows_raise _ _)
  · exact evtGrows_trans (evtGrows_of_eq (t := { s with frame := _ }) rfl rfl) (evtGrows_raise _ _)
  · exact evtGrows_of_eq rfl rfl

/-- What has occurred since a state of the same tick. -/
theorem occurred_tick {n : Nat} {s t u : State} (ht : t.frame.tick = s.frame.tick) (h : occurred n t u) : occurred n s u := by
  unfold occurred at *; rwa [ht] at h

section
variable (k : RestartKind) (s : State)
@[simp] theorem bootState_mode : (bootState k s).sys.mode = .boot := rfl
@[simp] theorem bootState_kind : (bootState k s).sys.bootKind = k := rfl
@[simp] theorem bootState_restartReq : (bootState k s).sys.restartReq = none := rfl
@[simp] theorem bootState_safePend : (bootState k s).sys.safePend = none := rfl
@[simp] theorem bootState_tick : (bootState k s).frame.tick = s.frame.tick := rfl
@[simp] theorem bootState_ident : (bootState k s).ident = s.ident := rfl
@[simp] theorem bootState_keys : (bootState k s).upd.keys = s.upd.keys := rfl
@[simp] theorem bootState_forces : (bootState k s).upd.forces = [] := rfl
@[simp] theorem bootState_hold : (bootState k s).pair.hold = false := rfl
@[simp] theorem bootState_dead : (bootState k s).dead = false := rfl
@[simp] theorem bootState_lanes : (bootState k s).lanes = State.reset.lanes := rfl
@[simp] theorem bootState_voter : (bootState k s).voter = State.reset.voter := rfl
@[simp] theorem bootState_fw : (bootState k s).fw = State.reset.fw := rfl
@[simp] theorem bootState_ports : (bootState k s).efl.ports = State.reset.efl.ports := rfl
@[simp] theorem bootState_lops : (bootState k s).lops = State.reset.lops := rfl
@[simp] theorem bootState_pending : (bootState k s).pending = s.pending := rfl
@[simp] theorem bootState_powerUps : (bootState k s).pwr.powerUps = s.pwr.powerUps := rfl

theorem outputsOff_bootState : outputsOff (bootState k s) := by
  refine ⟨fun c h => ?_, fun g h => ?_⟩
  · show (nth {} c ({} : Fio).outs).driven = false
    revert c; decide
  · show (nth {} g ({} : Fio).groups).driven = false
    revert g; decide
end

/-- Outputs that are off stay off where the Field region is kept. -/
theorem outputsOff_keeps {a : List Part} {s t : State} (h : keeps a s t) (m : .fio ∉ a) (o : outputsOff s) : outputsOff t := by
  have := keeps_same h m
  simp only [samePart] at this
  unfold outputsOff at *; rw [this]; exact o

/-- The entry to BOOT, but for the log, the events and the reference in use, is the boot state after the release. -/
theorem keeps_enterBoot (k : RestartKind) (s : State) : keeps [.dict, .evt, .notices, .frame] (bootState k (releaseOff s)) (enterBoot k s) := by
  unfold enterBoot; dsimp only
  exact keeps_then (keeps_then (keeps_mono (keeps_then (keeps_dropForces _ _) (keeps_raiseAll _ _) (by decide)) (by decide)) (keeps_raise _ _) (by decide))
    (keeps_trackRef _) (by decide)

@[simp] theorem enterBoot_tick (k : RestartKind) (s : State) : (enterBoot k s).frame.tick = s.frame.tick := by
  unfold enterBoot; dsimp only
  rw [(evtGrows_trackRef _).1, (evtGrows_raise _ _).1, (evtGrows_raiseAll _ _).1, (evtGrows_dropForces _ _).1, bootState_tick]
  have := keeps_same (keeps_releaseOff s) (p := .frame) (by decide)
  simp only [samePart] at this
  rw [this]

/-- The entry to BOOT is a mode entry: event 29. -/
theorem occurred_enterBoot (k : RestartKind) (s : State) : occurred 29 s (enterBoot k s) := by
  have ht := enterBoot_tick k s
  have : ∀ u : State, u.frame.tick = s.frame.tick → occurred 29 s (trackRef (raise 29 u)) := fun u hu =>
    (evtGrows_trackRef _).2 s 29 (by simpa using hu) (occurred_tick hu (occurred_raise (by decide) u))
  unfold enterBoot at ht ⊢; dsimp only at ht ⊢
  apply this
  rw [(evtGrows_trackRef _).1, (evtGrows_raise _ _).1] at ht
  exact ht

/-- What the entry to BOOT leaves. -/
theorem enterBoot_spec (k : RestartKind) (s : State) : (enterBoot k s).sys.mode = .boot ∧ (enterBoot k s).sys.bootKind = k ∧
    (enterBoot k s).sys.restartReq = none ∧ outputsOff (enterBoot k s) ∧ (enterBoot k s).pair.hold = false ∧ (enterBoot k s).ident = s.ident ∧
    (enterBoot k s).upd.keys = s.upd.keys ∧ (enterBoot k s).upd.forces = [] ∧ (enterBoot k s).lanes = State.reset.lanes ∧
    (enterBoot k s).pending = s.pending := by
  have h := keeps_enterBoot k s
  have hs := keeps_same h (p := .sys) (by decide)
  have hp := keeps_same h (p := .pair) (by decide)
  have hi := keeps_same h (p := .ident) (by decide)
  have hu := keeps_same h (p := .upd) (by decide)
  have hl := keeps_same h (p := .lanes) (by decide)
  have r := keeps_releaseOff s
  have ri := keeps_same r (p := .ident) (by decide)
  have ru := keeps_same r (p := .upd) (by decide)
  simp only [samePart] at hs hp hi hu hl ri ru
  exact ⟨by simp [hs], by simp [hs], by simp [hs], outputsOff_keeps h (by decide) (outputsOff_bootState _ _), by simp [hp], by simp [hi, ri],
    by simp [hu, ru], by simp [hu], by simp [hl], by rw [h.1, bootState_pending, r.1]⟩

end Sys2Proof.Machine
end

