-- ==== Sys2Proof/Laws/State.lean ====
section
/-!
SUPPORT. What the named updates of the state change, field by field: each leaves every field but its own. Record updates written out in
the model reduce by themselves.
-/
namespace Sys2Proof.Machine

section
variable (s : State) (l : LaneId) (f : Lane → Lane)
@[simp] theorem modLane_pending : (modLane l f s).pending = s.pending := rfl
@[simp] theorem modLane_freeCtr : (modLane l f s).freeCtr = s.freeCtr := rfl
@[simp] theorem modLane_emitted : (modLane l f s).emitted = s.emitted := rfl
@[simp] theorem modLane_dead : (modLane l f s).dead = s.dead := rfl
@[simp] theorem modLane_ident : (modLane l f s).ident = s.ident := rfl
@[simp] theorem modLane_sys : (modLane l f s).sys = s.sys := rfl
@[simp] theorem modLane_frame : (modLane l f s).frame = s.frame := rfl
@[simp] theorem modLane_evt : (modLane l f s).evt = s.evt := rfl
@[simp] theorem modLane_fw : (modLane l f s).fw = s.fw := rfl
@[simp] theorem modLane_params : (modLane l f s).params = s.params := rfl
@[simp] theorem modLane_voter : (modLane l f s).voter = s.voter := rfl
@[simp] theorem modLane_ite : (modLane l f s).ite = s.ite := rfl
@[simp] theorem modLane_vit : (modLane l f s).vit = s.vit := rfl
@[simp] theorem modLane_vitW : (modLane l f s).vitW = s.vitW := rfl
@[simp] theorem modLane_sfu : (modLane l f s).sfu = s.sfu := rfl
@[simp] theorem modLane_sfuW : (modLane l f s).sfuW = s.sfuW := rfl
@[simp] theorem modLane_img : (modLane l f s).img = s.img := rfl
@[simp] theorem modLane_vin : (modLane l f s).vin = s.vin := rfl
@[simp] theorem modLane_outs : (modLane l f s).outs = s.outs := rfl
@[simp] theorem modLane_fio : (modLane l f s).fio = s.fio := rfl
@[simp] theorem modLane_efl : (modLane l f s).efl = s.efl := rfl
@[simp] theorem modLane_can : (modLane l f s).can = s.can := rfl
@[simp] theorem modLane_pair : (modLane l f s).pair = s.pair := rfl
@[simp] theorem modLane_dict : (modLane l f s).dict = s.dict := rfl
@[simp] theorem modLane_lops : (modLane l f s).lops = s.lops := rfl
@[simp] theorem modLane_upd : (modLane l f s).upd = s.upd := rfl
@[simp] theorem modLane_pwr : (modLane l f s).pwr = s.pwr := rfl
@[simp] theorem modLane_totals : (modLane l f s).totals = s.totals := rfl
@[simp] theorem modLane_frozen : (modLane l f s).frozen = s.frozen := rfl
end

section
variable (s : State) (o : Output)
@[simp] theorem emit_pending : (emit o s).pending = s.pending := rfl
@[simp] theorem emit_freeCtr : (emit o s).freeCtr = s.freeCtr := rfl
@[simp] theorem emit_dead : (emit o s).dead = s.dead := rfl
@[simp] theorem emit_ident : (emit o s).ident = s.ident := rfl
@[simp] theorem emit_sys : (emit o s).sys = s.sys := rfl
@[simp] theorem emit_frame : (emit o s).frame = s.frame := rfl
@[simp] theorem emit_evt : (emit o s).evt = s.evt := rfl
@[simp] theorem emit_fw : (emit o s).fw = s.fw := rfl
@[simp] theorem emit_params : (emit o s).params = s.params := rfl
@[simp] theorem emit_lanes : (emit o s).lanes = s.lanes := rfl
@[simp] theorem emit_voter : (emit o s).voter = s.voter := rfl
@[simp] theorem emit_ite : (emit o s).ite = s.ite := rfl
@[simp] theorem emit_vit : (emit o s).vit = s.vit := rfl
@[simp] theorem emit_vitW : (emit o s).vitW = s.vitW := rfl
@[simp] theorem emit_sfu : (emit o s).sfu = s.sfu := rfl
@[simp] theorem emit_sfuW : (emit o s).sfuW = s.sfuW := rfl
@[simp] theorem emit_img : (emit o s).img = s.img := rfl
@[simp] theorem emit_vin : (emit o s).vin = s.vin := rfl
@[simp] theorem emit_outs : (emit o s).outs = s.outs := rfl
@[simp] theorem emit_fio : (emit o s).fio = s.fio := rfl
@[simp] theorem emit_efl : (emit o s).efl = s.efl := rfl
@[simp] theorem emit_can : (emit o s).can = s.can := rfl
@[simp] theorem emit_pair : (emit o s).pair = s.pair := rfl
@[simp] theorem emit_dict : (emit o s).dict = s.dict := rfl
@[simp] theorem emit_lops : (emit o s).lops = s.lops := rfl
@[simp] theorem emit_upd : (emit o s).upd = s.upd := rfl
@[simp] theorem emit_pwr : (emit o s).pwr = s.pwr := rfl
@[simp] theorem emit_totals : (emit o s).totals = s.totals := rfl
@[simp] theorem emit_frozen : (emit o s).frozen = s.frozen := rfl
end

section
variable (s : State) (k : Nat) (f : Session → Session)
@[simp] theorem modSession_pending : (modSession k f s).pending = s.pending := rfl
@[simp] theorem modSession_freeCtr : (modSession k f s).freeCtr = s.freeCtr := rfl
@[simp] theorem modSession_emitted : (modSession k f s).emitted = s.emitted := rfl
@[simp] theorem modSession_dead : (modSession k f s).dead = s.dead := rfl
@[simp] theorem modSession_ident : (modSession k f s).ident = s.ident := rfl
@[simp] theorem modSession_sys : (modSession k f s).sys = s.sys := rfl
@[simp] theorem modSession_frame : (modSession k f s).frame = s.frame := rfl
@[simp] theorem modSession_evt : (modSession k f s).evt = s.evt := rfl
@[simp] theorem modSession_fw : (modSession k f s).fw = s.fw := rfl
@[simp] theorem modSession_params : (modSession k f s).params = s.params := rfl
@[simp] theorem modSession_lanes : (modSession k f s).lanes = s.lanes := rfl
@[simp] theorem modSession_voter : (modSession k f s).voter = s.voter := rfl
@[simp] theorem modSession_ite : (modSession k f s).ite = s.ite := rfl
@[simp] theorem modSession_vit : (modSession k f s).vit = s.vit := rfl
@[simp] theorem modSession_vitW : (modSession k f s).vitW = s.vitW := rfl
@[simp] theorem modSession_sfu : (modSession k f s).sfu = s.sfu := rfl
@[simp] theorem modSession_sfuW : (modSession k f s).sfuW = s.sfuW := rfl
@[simp] theorem modSession_img : (modSession k f s).img = s.img := rfl
@[simp] theorem modSession_vin : (modSession k f s).vin = s.vin := rfl
@[simp] theorem modSession_outs : (modSession k f s).outs = s.outs := rfl
@[simp] theorem modSession_fio : (modSession k f s).fio = s.fio := rfl
@[simp] theorem modSession_efl : (modSession k f s).efl = s.efl := rfl
@[simp] theorem modSession_can : (modSession k f s).can = s.can := rfl
@[simp] theorem modSession_pair : (modSession k f s).pair = s.pair := rfl
@[simp] theorem modSession_lops : (modSession k f s).lops = s.lops := rfl
@[simp] theorem modSession_upd : (modSession k f s).upd = s.upd := rfl
@[simp] theorem modSession_pwr : (modSession k f s).pwr = s.pwr := rfl
@[simp] theorem modSession_totals : (modSession k f s).totals = s.totals := rfl
@[simp] theorem modSession_frozen : (modSession k f s).frozen = s.frozen := rfl
end

section
variable (s : State) 
@[simp] theorem closeGates_pending : (closeGates s).pending = s.pending := rfl
@[simp] theorem closeGates_freeCtr : (closeGates s).freeCtr = s.freeCtr := rfl
@[simp] theorem closeGates_emitted : (closeGates s).emitted = s.emitted := rfl
@[simp] theorem closeGates_dead : (closeGates s).dead = s.dead := rfl
@[simp] theorem closeGates_ident : (closeGates s).ident = s.ident := rfl
@[simp] theorem closeGates_sys : (closeGates s).sys = s.sys := rfl
@[simp] theorem closeGates_frame : (closeGates s).frame = s.frame := rfl
@[simp] theorem closeGates_evt : (closeGates s).evt = s.evt := rfl
@[simp] theorem closeGates_fw : (closeGates s).fw = s.fw := rfl
@[simp] theorem closeGates_params : (closeGates s).params = s.params := rfl
@[simp] theorem closeGates_voter : (closeGates s).voter = s.voter := rfl
@[simp] theorem closeGates_ite : (closeGates s).ite = s.ite := rfl
@[simp] theorem closeGates_vit : (closeGates s).vit = s.vit := rfl
@[simp] theorem closeGates_vitW : (closeGates s).vitW = s.vitW := rfl
@[simp] theorem closeGates_sfu : (closeGates s).sfu = s.sfu := rfl
@[simp] theorem closeGates_sfuW : (closeGates s).sfuW = s.sfuW := rfl
@[simp] theorem closeGates_img : (closeGates s).img = s.img := rfl
@[simp] theorem closeGates_vin : (closeGates s).vin = s.vin := rfl
@[simp] theorem closeGates_outs : (closeGates s).outs = s.outs := rfl
@[simp] theorem closeGates_fio : (closeGates s).fio = s.fio := rfl
@[simp] theorem closeGates_efl : (closeGates s).efl = s.efl := rfl
@[simp] theorem closeGates_can : (closeGates s).can = s.can := rfl
@[simp] theorem closeGates_pair : (closeGates s).pair = s.pair := rfl
@[simp] theorem closeGates_dict : (closeGates s).dict = s.dict := rfl
@[simp] theorem closeGates_lops : (closeGates s).lops = s.lops := rfl
@[simp] theorem closeGates_upd : (closeGates s).upd = s.upd := rfl
@[simp] theorem closeGates_pwr : (closeGates s).pwr = s.pwr := rfl
@[simp] theorem closeGates_totals : (closeGates s).totals = s.totals := rfl
@[simp] theorem closeGates_frozen : (closeGates s).frozen = s.frozen := rfl
end

section
variable (s : State) 
@[simp] theorem endReadmission_pending : (endReadmission s).pending = s.pending := rfl
@[simp] theorem endReadmission_freeCtr : (endReadmission s).freeCtr = s.freeCtr := rfl
@[simp] theorem endReadmission_emitted : (endReadmission s).emitted = s.emitted := rfl
@[simp] theorem endReadmission_dead : (endReadmission s).dead = s.dead := rfl
@[simp] theorem endReadmission_ident : (endReadmission s).ident = s.ident := rfl
@[simp] theorem endReadmission_sys : (endReadmission s).sys = s.sys := rfl
@[simp] theorem endReadmission_frame : (endReadmission s).frame = s.frame := rfl
@[simp] theorem endReadmission_evt : (endReadmission s).evt = s.evt := rfl
@[simp] theorem endReadmission_fw : (endReadmission s).fw = s.fw := rfl
@[simp] theorem endReadmission_params : (endReadmission s).params = s.params := rfl
@[simp] theorem endReadmission_lanes : (endReadmission s).lanes = s.lanes := rfl
@[simp] theorem endReadmission_ite : (endReadmission s).ite = s.ite := rfl
@[simp] theorem endReadmission_vit : (endReadmission s).vit = s.vit := rfl
@[simp] theorem endReadmission_vitW : (endReadmission s).vitW = s.vitW := rfl
@[simp] theorem endReadmission_sfu : (endReadmission s).sfu = s.sfu := rfl
@[simp] theorem endReadmission_sfuW : (endReadmission s).sfuW = s.sfuW := rfl
@[simp] theorem endReadmission_img : (endReadmission s).img = s.img := rfl
@[simp] theorem endReadmission_vin : (endReadmission s).vin = s.vin := rfl
@[simp] theorem endReadmission_outs : (endReadmission s).outs = s.outs := rfl
@[simp] theorem endReadmission_fio : (endReadmission s).fio = s.fio := rfl
@[simp] theorem endReadmission_efl : (endReadmission s).efl = s.efl := rfl
@[simp] theorem endReadmission_can : (endReadmission s).can = s.can := rfl
@[simp] theorem endReadmission_pair : (endReadmission s).pair = s.pair := rfl
@[simp] theorem endReadmission_dict : (endReadmission s).dict = s.dict := rfl
@[simp] theorem endReadmission_lops : (endReadmission s).lops = s.lops := rfl
@[simp] theorem endReadmission_upd : (endReadmission s).upd = s.upd := rfl
@[simp] theorem endReadmission_pwr : (endReadmission s).pwr = s.pwr := rfl
@[simp] theorem endReadmission_totals : (endReadmission s).totals = s.totals := rfl
@[simp] theorem endReadmission_frozen : (endReadmission s).frozen = s.frozen := rfl
end

section
variable (s : State) 
@[simp] theorem takeHandOver_pending : (takeHandOver s).pending = s.pending := rfl
@[simp] theorem takeHandOver_freeCtr : (takeHandOver s).freeCtr = s.freeCtr := rfl
@[simp] theorem takeHandOver_emitted : (takeHandOver s).emitted = s.emitted := rfl
@[simp] theorem takeHandOver_dead : (takeHandOver s).dead = s.dead := rfl
@[simp] theorem takeHandOver_ident : (takeHandOver s).ident = s.ident := rfl
@[simp] theorem takeHandOver_sys : (takeHandOver s).sys = s.sys := rfl
@[simp] theorem takeHandOver_frame : (takeHandOver s).frame = s.frame := rfl
@[simp] theorem takeHandOver_evt : (takeHandOver s).evt = s.evt := rfl
@[simp] theorem takeHandOver_fw : (takeHandOver s).fw = s.fw := rfl
@[simp] theorem takeHandOver_params : (takeHandOver s).params = s.params := rfl
@[simp] theorem takeHandOver_lanes : (takeHandOver s).lanes = s.lanes := rfl
@[simp] theorem takeHandOver_voter : (takeHandOver s).voter = s.voter := rfl
@[simp] theorem takeHandOver_ite : (takeHandOver s).ite = s.ite := rfl
@[simp] theorem takeHandOver_vit : (takeHandOver s).vit = s.vit := rfl
@[simp] theorem takeHandOver_vitW : (takeHandOver s).vitW = s.vitW := rfl
@[simp] theorem takeHandOver_sfu : (takeHandOver s).sfu = s.sfu := rfl
@[simp] theorem takeHandOver_sfuW : (takeHandOver s).sfuW = s.sfuW := rfl
@[simp] theorem takeHandOver_img : (takeHandOver s).img = s.img := rfl
@[simp] theorem takeHandOver_vin : (takeHandOver s).vin = s.vin := rfl
@[simp] theorem takeHandOver_outs : (takeHandOver s).outs = s.outs := rfl
@[simp] theorem takeHandOver_fio : (takeHandOver s).fio = s.fio := rfl
@[simp] theorem takeHandOver_efl : (takeHandOver s).efl = s.efl := rfl
@[simp] theorem takeHandOver_can : (takeHandOver s).can = s.can := rfl
@[simp] theorem takeHandOver_dict : (takeHandOver s).dict = s.dict := rfl
@[simp] theorem takeHandOver_lops : (takeHandOver s).lops = s.lops := rfl
@[simp] theorem takeHandOver_upd : (takeHandOver s).upd = s.upd := rfl
@[simp] theorem takeHandOver_pwr : (takeHandOver s).pwr = s.pwr := rfl
@[simp] theorem takeHandOver_totals : (takeHandOver s).totals = s.totals := rfl
@[simp] theorem takeHandOver_frozen : (takeHandOver s).frozen = s.frozen := rfl
end

section
variable (s : State) (i : Nat) (f : LongOp → LongOp)
@[simp] theorem modLop_pending : (modLop i f s).pending = s.pending := rfl
@[simp] theorem modLop_freeCtr : (modLop i f s).freeCtr = s.freeCtr := rfl
@[simp] theorem modLop_emitted : (modLop i f s).emitted = s.emitted := rfl
@[simp] theorem modLop_dead : (modLop i f s).dead = s.dead := rfl
@[simp] theorem modLop_ident : (modLop i f s).ident = s.ident := rfl
@[simp] theorem modLop_sys : (modLop i f s).sys = s.sys := rfl
@[simp] theorem modLop_frame : (modLop i f s).frame = s.frame := rfl
@[simp] theorem modLop_evt : (modLop i f s).evt = s.evt := rfl
@[simp] theorem modLop_fw : (modLop i f s).fw = s.fw := rfl
@[simp] theorem modLop_params : (modLop i f s).params = s.params := rfl
@[simp] theorem modLop_lanes : (modLop i f s).lanes = s.lanes := rfl
@[simp] theorem modLop_voter : (modLop i f s).voter = s.voter := rfl
@[simp] theorem modLop_ite : (modLop i f s).ite = s.ite := rfl
@[simp] theorem modLop_vit : (modLop i f s).vit = s.vit := rfl
@[simp] theorem modLop_vitW : (modLop i f s).vitW = s.vitW := rfl
@[simp] theorem modLop_sfu : (modLop i f s).sfu = s.sfu := rfl
@[simp] theorem modLop_sfuW : (modLop i f s).sfuW = s.sfuW := rfl
@[simp] theorem modLop_img : (modLop i f s).img = s.img := rfl
@[simp] theorem modLop_vin : (modLop i f s).vin = s.vin := rfl
@[simp] theorem modLop_outs : (modLop i f s).outs = s.outs := rfl
@[simp] theorem modLop_fio : (modLop i f s).fio = s.fio := rfl
@[simp] theorem modLop_efl : (modLop i f s).efl = s.efl := rfl
@[simp] theorem modLop_can : (modLop i f s).can = s.can := rfl
@[simp] theorem modLop_pair : (modLop i f s).pair = s.pair := rfl
@[simp] theorem modLop_dict : (modLop i f s).dict = s.dict := rfl
@[simp] theorem modLop_upd : (modLop i f s).upd = s.upd := rfl
@[simp] theorem modLop_pwr : (modLop i f s).pwr = s.pwr := rfl
@[simp] theorem modLop_totals : (modLop i f s).totals = s.totals := rfl
@[simp] theorem modLop_frozen : (modLop i f s).frozen = s.frozen := rfl
end

section
variable (s : State) (i n v : Nat)
@[simp] theorem keepValue_pending : (keepValue i n v s).pending = s.pending := rfl
@[simp] theorem keepValue_freeCtr : (keepValue i n v s).freeCtr = s.freeCtr := rfl
@[simp] theorem keepValue_emitted : (keepValue i n v s).emitted = s.emitted := rfl
@[simp] theorem keepValue_dead : (keepValue i n v s).dead = s.dead := rfl
@[simp] theorem keepValue_ident : (keepValue i n v s).ident = s.ident := rfl
@[simp] theorem keepValue_sys : (keepValue i n v s).sys = s.sys := rfl
@[simp] theorem keepValue_frame : (keepValue i n v s).frame = s.frame := rfl
@[simp] theorem keepValue_evt : (keepValue i n v s).evt = s.evt := rfl
@[simp] theorem keepValue_fw : (keepValue i n v s).fw = s.fw := rfl
@[simp] theorem keepValue_lanes : (keepValue i n v s).lanes = s.lanes := rfl
@[simp] theorem keepValue_voter : (keepValue i n v s).voter = s.voter := rfl
@[simp] theorem keepValue_ite : (keepValue i n v s).ite = s.ite := rfl
@[simp] theorem keepValue_vit : (keepValue i n v s).vit = s.vit := rfl
@[simp] theorem keepValue_vitW : (keepValue i n v s).vitW = s.vitW := rfl
@[simp] theorem keepValue_sfu : (keepValue i n v s).sfu = s.sfu := rfl
@[simp] theorem keepValue_sfuW : (keepValue i n v s).sfuW = s.sfuW := rfl
@[simp] theorem keepValue_img : (keepValue i n v s).img = s.img := rfl
@[simp] theorem keepValue_vin : (keepValue i n v s).vin = s.vin := rfl
@[simp] theorem keepValue_outs : (keepValue i n v s).outs = s.outs := rfl
@[simp] theorem keepValue_fio : (keepValue i n v s).fio = s.fio := rfl
@[simp] theorem keepValue_efl : (keepValue i n v s).efl = s.efl := rfl
@[simp] theorem keepValue_can : (keepValue i n v s).can = s.can := rfl
@[simp] theorem keepValue_pair : (keepValue i n v s).pair = s.pair := rfl
@[simp] theorem keepValue_dict : (keepValue i n v s).dict = s.dict := rfl
@[simp] theorem keepValue_lops : (keepValue i n v s).lops = s.lops := rfl
@[simp] theorem keepValue_upd : (keepValue i n v s).upd = s.upd := rfl
@[simp] theorem keepValue_pwr : (keepValue i n v s).pwr = s.pwr := rfl
@[simp] theorem keepValue_totals : (keepValue i n v s).totals = s.totals := rfl
@[simp] theorem keepValue_frozen : (keepValue i n v s).frozen = s.frozen := rfl
end

section
variable (s : State) (ws : List (Nat × Nat))
@[simp] theorem feedV_pending : (feedV ws s).pending = s.pending := rfl
@[simp] theorem feedV_freeCtr : (feedV ws s).freeCtr = s.freeCtr := rfl
@[simp] theorem feedV_emitted : (feedV ws s).emitted = s.emitted := rfl
@[simp] theorem feedV_dead : (feedV ws s).dead = s.dead := rfl
@[simp] theorem feedV_ident : (feedV ws s).ident = s.ident := rfl
@[simp] theorem feedV_sys : (feedV ws s).sys = s.sys := rfl
@[simp] theorem feedV_frame : (feedV ws s).frame = s.frame := rfl
@[simp] theorem feedV_evt : (feedV ws s).evt = s.evt := rfl
@[simp] theorem feedV_fw : (feedV ws s).fw = s.fw := rfl
@[simp] theorem feedV_params : (feedV ws s).params = s.params := rfl
@[simp] theorem feedV_voter : (feedV ws s).voter = s.voter := rfl
@[simp] theorem feedV_ite : (feedV ws s).ite = s.ite := rfl
@[simp] theorem feedV_vit : (feedV ws s).vit = s.vit := rfl
@[simp] theorem feedV_vitW : (feedV ws s).vitW = s.vitW := rfl
@[simp] theorem feedV_sfu : (feedV ws s).sfu = s.sfu := rfl
@[simp] theorem feedV_sfuW : (feedV ws s).sfuW = s.sfuW := rfl
@[simp] theorem feedV_img : (feedV ws s).img = s.img := rfl
@[simp] theorem feedV_vin : (feedV ws s).vin = s.vin := rfl
@[simp] theorem feedV_outs : (feedV ws s).outs = s.outs := rfl
@[simp] theorem feedV_fio : (feedV ws s).fio = s.fio := rfl
@[simp] theorem feedV_efl : (feedV ws s).efl = s.efl := rfl
@[simp] theorem feedV_can : (feedV ws s).can = s.can := rfl
@[simp] theorem feedV_pair : (feedV ws s).pair = s.pair := rfl
@[simp] theorem feedV_dict : (feedV ws s).dict = s.dict := rfl
@[simp] theorem feedV_lops : (feedV ws s).lops = s.lops := rfl
@[simp] theorem feedV_upd : (feedV ws s).upd = s.upd := rfl
@[simp] theorem feedV_pwr : (feedV ws s).pwr = s.pwr := rfl
@[simp] theorem feedV_totals : (feedV ws s).totals = s.totals := rfl
@[simp] theorem feedV_frozen : (feedV ws s).frozen = s.frozen := rfl
end

section
variable (s : State) (ws : List (Nat × Nat))
@[simp] theorem feedE_pending : (feedE ws s).pending = s.pending := rfl
@[simp] theorem feedE_freeCtr : (feedE ws s).freeCtr = s.freeCtr := rfl
@[simp] theorem feedE_emitted : (feedE ws s).emitted = s.emitted := rfl
@[simp] theorem feedE_dead : (feedE ws s).dead = s.dead := rfl
@[simp] theorem feedE_ident : (feedE ws s).ident = s.ident := rfl
@[simp] theorem feedE_sys : (feedE ws s).sys = s.sys := rfl
@[simp] theorem feedE_frame : (feedE ws s).frame = s.frame := rfl
@[simp] theorem feedE_evt : (feedE ws s).evt = s.evt := rfl
@[simp] theorem feedE_fw : (feedE ws s).fw = s.fw := rfl
@[simp] theorem feedE_params : (feedE ws s).params = s.params := rfl
@[simp] theorem feedE_voter : (feedE ws s).voter = s.voter := rfl
@[simp] theorem feedE_ite : (feedE ws s).ite = s.ite := rfl
@[simp] theorem feedE_vit : (feedE ws s).vit = s.vit := rfl
@[simp] theorem feedE_vitW : (feedE ws s).vitW = s.vitW := rfl
@[simp] theorem feedE_sfu : (feedE ws s).sfu = s.sfu := rfl
@[simp] theorem feedE_sfuW : (feedE ws s).sfuW = s.sfuW := rfl
@[simp] theorem feedE_img : (feedE ws s).img = s.img := rfl
@[simp] theorem feedE_vin : (feedE ws s).vin = s.vin := rfl
@[simp] theorem feedE_outs : (feedE ws s).outs = s.outs := rfl
@[simp] theorem feedE_fio : (feedE ws s).fio = s.fio := rfl
@[simp] theorem feedE_efl : (feedE ws s).efl = s.efl := rfl
@[simp] theorem feedE_can : (feedE ws s).can = s.can := rfl
@[simp] theorem feedE_pair : (feedE ws s).pair = s.pair := rfl
@[simp] theorem feedE_dict : (feedE ws s).dict = s.dict := rfl
@[simp] theorem feedE_lops : (feedE ws s).lops = s.lops := rfl
@[simp] theorem feedE_upd : (feedE ws s).upd = s.upd := rfl
@[simp] theorem feedE_pwr : (feedE ws s).pwr = s.pwr := rfl
@[simp] theorem feedE_totals : (feedE ws s).totals = s.totals := rfl
@[simp] theorem feedE_frozen : (feedE ws s).frozen = s.frozen := rfl
end

@[simp] theorem modLane_self (s : State) (l : LaneId) (f : Lane → Lane) : (modLane l f s).lane l = f (s.lane l) := by cases l <;> rfl

@[simp] theorem modLane_other (s : State) {l k : LaneId} (f : Lane → Lane) (h : k ≠ l) : (modLane l f s).lane k = s.lane k := by
  cases l <;> cases k <;> first | rfl | exact absurd rfl h

@[simp] theorem get_mapWith {α β : Type} (f : LaneId → α → β) (t : Tri α) (l : LaneId) : (t.mapWith f).get l = f l (t.get l) := by cases l <;> rfl

@[simp] theorem get_mod_self {α : Type} (f : α → α) (t : Tri α) (l : LaneId) : (t.mod l f).get l = f (t.get l) := by cases l <;> rfl

@[simp] theorem get_mod_other {α : Type} (f : α → α) (t : Tri α) {l k : LaneId} (h : k ≠ l) : (t.mod l f).get k = t.get k := by
  cases l <;> cases k <;> first | rfl | exact absurd rfl h

@[simp] theorem emit_emitted (s : State) (o : Output) : (emit o s).emitted = s.emitted ++ [o] := rfl

@[simp] theorem fresh_frame (w : Nat) (s : State) : (fresh w s).2 = { s with freeCtr := s.freeCtr + 1 } := rfl

end Sys2Proof.Machine
end

