-- ==== Sys2Proof/WellFormed.lean ====
section
/-!
DEFINITION. Well-formed commands: operands within the numbers that the spec gives the thing they name. A sender sends no other; the
commands themselves are defined on all operands.
-/
namespace Sys2Proof
open Machine

/-- An access of a firewall master that exists (R39). -/
def accessOk (a : Access) : Bool := decide (a.master < 68) && decide (a.addr < 2 ^ 40)

/-- Operand ranges of the commands that name a channel, group, port, slot, route, instance or controller. -/
def Instr.wellFormed : Instr → Bool
  | .domainPowerGoodLost d | .domainPowerGoodTimeout d => decide (d < 12)
  | .fieldDomainLost n | .fieldDomainReturn n | .fieldSupplyInRange n => decide (n < 3)
  | .fieldSupplyOutOfRange n code => decide (n < 3) && decide (1 ≤ code) && decide (code ≤ 3)
  | .recoveryPressJammed g | .groupTest g _ | .groupOverload g => decide (g < 6)
  | .darkPulse c _ | .lightPulse c _ | .outputHoldExpiry c | .channelOverload c | .openLoad c | .openLoadCleared c => decide (c < 24)
  | .couplerFault (.input i) => decide (i < 48)
  | .couplerFault (.output c) => decide (c < 24)
  | .couplerFault (.ret g) => decide (g < 6)
  | .resetJammed k => decide (k < 64)
  | .discrepancyExpiry i | .twoHandContactExpiry i | .synchronisationWindowExpiry i | .pairWindowExpiry i | .mutingLimitExpiry i
  | .clearTimeExpiry i | .stopDelayExpiry i | .switchOnWindowExpiry i | .switchOffWindowExpiry i => decide (i < 64)
  | .settingSupervision r | .trelExpiry r | .tovlExpiry r => decide (r < 16384)
  | .throwTimeExpiry e | .provingTimeExpiry e | .clearDelayExpiry e | .warningTimeExpiry e | .movementLimitExpiry e
  | .closingLimitExpiry e | .releaseWindowExpiry e => decide (e < 65536)
  | .evtFlagClear n _ => decide (n < 8)
  | .portLinkChange p _ _ _ => decide (p < 4)
  | .firewallViolation a => accessOk a
  | .canFrameReceived n _ _ _ _ | .canFrameTransmitted n _ _ _ _ | .referenceMessage n _ _ _ _ | .sendReferenceMessage n _
  | .timeMasterTakeover n | .timeSyncLost n | .errorPassiveEntry n | .busOff n | .canFaultRetryEnd n | .cancelObject _ n _ _
  | .busOffRecovery n | .protocolError n _ _ _ _ | .remoteFrameReceived n | .canSegment n _ => decide (n < 4)
  | .notify k e => decide (k < 8) && decide (e < 256)
  | .sessionExpired k => decide (k < 8)
  | .eventFlagClear _ e _ => decide (e < 256)
  | .dmaStart _ c _ | .dmaStop _ c _ | .descriptorFetch _ c | .dmaBeatResponse _ c _ | .dmaBusTimeout _ c
  | .completionRecordWrite _ c => decide (c < 16)
  | .checkUnitConfigure _ u _ => decide (u < 8)
  | .icmpEchoRequest p _ => decide (p < 2)
  | .arpRequest p ip => decide (p < 2) && decide (ip < 2 ^ 32)
  | .setRequest o | .releaseRequest o | .emergencyCancel o => decide (o.tag < 4096) && decide (o.route < 65536)
  | .movePoint o | .block o | .unblock o | .proveClear o | .closeCrossing o | .openCrossing o | .releaseDoors o | .closeDoors o
  | .keyReleaseRequest o | .keyReleaseCancel o => decide (o.slot < 65536) && decide (o.arg < 256)
  | .registerWrite _ a v => decide (a < 2 ^ 40) && decide (v < 2 ^ 32)
  | .moduleWideWrite w => decide (w.addr < 2 ^ 40)
  | .ringTailAdvance _ v => decide (v < 2 ^ 32)
  | .powerUp | .backplaneSupplyLow _ | .backplaneSupplyHigh _ | .backplaneSupplyRestored _ | .powerFailSequence | .presenceMated
  | .insertionCompleted | .extractionRequested | .temperatureHigh _ | .temperatureLimit _ | .thermalCutOff _
  | .supervisorWatchdogExpiry | .restart | .bootEnd _ | .flintListenEnd | .ppsEdge _ _ | .todTelegram _ _ | .stationInputTimeout
  | .inputLatch _ | .fastTaskStart _ | .fastTaskReturn _ _ _ | .fastTaskWatchdog _ | .signatureCloseAndVote | .vitalTaskReturn _ _ _
  | .enablePathCheck _ | .outputCommit _ | .gateSelfClose _ | .vitalCycleStart _ | .routeEnginePass _ | .setRequestExpired | .runAhead
  | .spcan _ | .restartReleaseTimeExpiry | .blankingEnd | .fieldRegionReset _ _ | .fieldRegionResetCompleted _ _ _ | .quarantine
  | .bulkCopyEnd _ | .joinLane | .readmissionFailed | .selfTestStart | .selfTestInjection _ | .startSelfTestNow _ _
  | .lanePowerDown _ _ | .lanePowerDownCompleted _ | .laneRegionReset _ _ | .laneRegionResetEnd _ _ | .modeRequestConfigure _
  | .modeRequestStandby _ | .warmRestartCommand _ | .coldRestartCommand _ | .recoveryRestartCommand _ | .tableLoadStart _
  | .tableLoadComplete | .checkpointTransferStart _ | .changeLogExportStart _ | .changeLogExportDone | .imageDownloadStart _
  | .longOperationSuspend _ _ | .longOperationResume _ _ | .longOperationCancel _ _ | .suspendLimitExpiry _ | .partnerLineNotHeld
  | .snapshotLoaded | .pullReceived | .pullRailFault | .pullFailed | .outputHoldEnd | .telegramContinuationEnd | .fullImageStart
  | .identRecord _ | .fullBeginRecord _ | .fullDataRecord _ | .fullEndRecord _ | .deltaRecord _ | .sessionsRecord _ | .outputRecord _
  | .statusRecord _ | .pairLinkDown | .cycleFrame _ | .pollFrame _ | .responseFrame _ | .messageFrame _ | .delayReq _ | .delayResp _
  | .claim _ | .topoReq _ | .topoResp _ | .topo _ | .sendCycleFrame _ | .sendPoll _ _ | .sendResponse _ _ | .sendMessage _ _
  | .hopDelayMeasurement _ | .masterLost _ | .inaugurationStart _ | .startInauguration _ _ _ | .claimSend _ | .backoffEnd _
  | .claimWindowEnd _ | .topoRespSend _ | .topoPublish _ _ | .lockRetryExpiry _ | .overloadCleared | .scheduleModeRequest _ _
  | .readEntry _ | .writeEntry _ | .openSession _ | .proveSession _ | .closeSession _ | .ping _ | .subscribe _ | .loginLockoutEnd _
  | .parameterSet _ _ | .restoreDefaults _ _ | .passwordWrite _ _ _ | .exportAcknowledgement _ _ | .clearDiagnosticRecords _ _
  | .integratorKeyWrite _ _ _ | .imageHeader _ _ | .imageChunk _ _ | .firmwareActivation _ _ | .activationRestart | .prepareChange _
  | .preparationReady | .applyChange _ | .cancelChange _ | .onlineChangeHandover | .onlineChangeWaitExpiry | .forceSymbol _ _
  | .forceOutputOff _ _ | .removeSymbolForce _ _ | .removeOutputForce _ _ | .partnerLineHeld _ _ | .presenceLoopChange _ _
  | .lockstepMismatch | .readmissionStartTestEnd _ | .ejectorClosed | .boardTemperatureFall _ | .unknownOperation _ | .slotErased => true

end Sys2Proof
end

