-- ==== Sys2Proof/Tests/Slice0.lean ====
section
/-!
SUPPORT. Tests of the model's author: a smoke test of well-formedness, single commands on small states against values worked out by hand from
spec/, and, for every statement, a concrete state and operands that meet its hypotheses together (`witness_<Name>`, clause by clause).
-/
namespace Sys2Proof.Tests
open Machine
set_option Elab.async false

/-! ### Small states -/

/-- A module in RUN at tick 1000, Field region and lanes powered. -/
def running : State :=
  { State.reset with
    sys := { mode := .run }, frame := { tick := 1000, cycle := 3, vitalDue := true, committed := true },
    pwr := { domains := 0x7FF, mv := 24000, present := true, inputSwitch := true } }

/-- The same in another mode. -/
def inMode (m : Mode) : State := { running with sys := { mode := m } }

/-- `s` with a parameter set to a value. -/
def withPar (index sub v : Nat) (s : State) : State := { s with params := parPut s.params index sub v }

/-- An open session of level 2 in slot 0, over the first Ethernet port. -/
def ses : Session := { phase := .opened, id := 17, level := 2, carrier := .eth0, lastSeq := 7 }

/-- `s` with that session, both passwords set. -/
def host (s : State) : State :=
  { s with dict := { s.dict with
      sessions := ses :: List.replicate 7 {}, engineer := some { salt := zeros 16, key := zeros 32 },
      maintainer := some { salt := zeros 16, key := zeros 32 } } }

/-- A request of that session. -/
def req : Req := { carrier := .eth0, session := 17, seq := 8 }

theorem host_takesUp (s : State) (h0 : s.dead = false) (h1 : s.serverUp .eth0 = true) : takesUp req (host s) ses :=
  ⟨h0, h1, by decide, by simp [State.sessionOf, host, findSlot, indices, req, ses, State.session, nth]; decide, rfl, rfl, by decide, by decide⟩

theorem host_mayWrite (s : State) (n : Nat) (hn : n ≤ 2) (h0 : s.dead = false) (h1 : s.serverUp .eth0 = true) : mayWrite req n (host s) :=
  ⟨ses, host_takesUp s h0 h1, hn, by
    match n, hn with
    | 0, _ => rfl
    | 1, _ => rfl
    | 2, _ => rfl⟩

/-! ### Witnesses: power -/

theorem witness_PowerAndRestart :
    ({ running with pwr := { running.pwr with precharge := true } }).pwr.precharge = true ∧ running.dead = false ∧
    (∃ s : State, s.dead = false ∧ s.sys.safePend = none ∧ s.sys.restartReq = some .warm) :=
  ⟨rfl, rfl, { running with sys := { mode := .run, restartReq := some .warm } }, rfl, rfl, rfl⟩

theorem witness_DomainLost :
    (running.dead = false ∧ 7 < 8 ∧ running.pwr.lost.testBit 7 = false ∧ running.pwr.lost.testBit 0 = false ∧ running.pwr.lost.testBit 3 = false) ∧
    (State.reset.dead = false ∧ State.reset.sys.mode = .boot ∧ State.reset.pwr.lost.testBit 7 = false) ∧
    (running.pwr.lost.testBit LaneId.c.num = false ∧ running.sys.mode = .run ∧ (running.lane .c).colour ≠ .slate) := by decide +kernel

/-- A supply whose domain is off, and one that is out of range with its groups' inputs at 0. -/
def supplyOff : State := { running with pwr := { running.pwr with lost := 0x400 } }
def supplyOut : State :=
  { running with fio := { running.fio with running := true, groups := List.replicate 6 { sup := 1, inZero := true } } }

theorem witness_SupplyEvents :
    (running.dead = false ∧ 2 < 3 ∧ running.pwr.lost.testBit 10 = false) ∧ (supplyOff.dead = false ∧ supplyOff.pwr.lost.testBit 10 = true) ∧
    (supplyOut.dead = false ∧ supplyOut.fieldRuns = true ∧ (1 ≤ 3 ∧ 3 ≤ 3) ∧
      ∀ g ∈ groupsOf 2, (nth {} g supplyOut.fio.groups).inZero = true ∧ (nth {} g supplyOut.fio.groups).back = false) ∧
    (({ running with fio := { running.fio with running := true } }).fieldRuns = true ∧
      ({ running with fio := { running.fio with running := true } }).supplyIsOut 0 = false) ∧
    (supplyOut.pwr.lost.testBit 8 = false ∧ supplyOut.supplyIsOut 0 = true) ∧
    (16799 < 16800 ∧ running.pwr.low = false ∧ ({ running with pwr := { running.pwr with low := true } }).pwr.low = true) ∧
    (137500 < 137501 ∧ running.pwr.high = false ∧ ({ running with pwr := { running.pwr with high := true } }).pwr.high = true) ∧
    (16800 ≤ 16800 ∧ 137500 ≤ 137500) := by decide +kernel

theorem witness_TemperatureAndHotPlug :
    (running.dead = false ∧ (700 : Int) < 701 ∧ running.pwr.over70 = false ∧ running.pwr.limit = false ∧ (700 : Int) ≤ 700) ∧
    (({ running with pwr := { running.pwr with tempMax := some 701 } }).pwr.tempMax = some 701) ∧
    (running.pwr.inputSwitch = true ∧ running.pwr.precharge = false ∧ running.pwr.ejectOpen = false) := by decide +kernel

/-! ### Witnesses: lanes, field -/

/-- Lane B Amber in a step of its re-admission. -/
def amberB (step : RadmStep) (m : Mode) : State :=
  let s := inMode m
  { s with
    lanes := { s.lanes with b := { colour := .amber, stopped := true } }, voter := { radmLane := some .b, radmStep := step },
    frame := { s.frame with cycle := 3 } }

theorem witness_ReadmissionSteps :
    ((amberB .none .run).dead = false ∧ (amberB .none .run).voter.radmLane = some .b ∧ (amberB .none .run).sys.mode = .run ∧
      (amberB .none .run).voter.radmStep = .none ∧ (amberB .none .run).copyEngine = true) ∧
    ((amberB .quarantine .run).copying = true ∧ (amberB .copy .run).copying = true ∧ (amberB .copy .run).copyEngine = true ∧
      (amberB .copy .run).sys.safePend = none ∧ ((amberB .copy .run).lane .a).colour = .green) ∧
    ((amberB .waitJoin .run).dead = false ∧ (amberB .waitJoin .run).mayJoin = true) ∧
    ((amberB .copy .run).frame.vitalDue = true ∧ (amberB .copy .run).voter.radmStep ≠ .trial ∧
      (amberB .copy .run).voter.amberCycle + 3 ≤ (amberB .copy .run).frame.cycle) ∧
    ((amberB .startTest .configure).sys.mode = .configure ∧ (amberB .startTest .configure).voter.radmStep = .startTest ∧
      ((amberB .startTest .configure).lane .b).colour = .amber) := by decide +kernel

/-- The same module `n` injections into a self-test. -/
def testing (n : Nat) : State := { running with voter := { stRunning := true, stDone := n } }

theorem witness_SelfTestSteps :
    (({ running with frame := { running.frame with tick := 14400000 * 24 * 365 } }).selfTestDue = true ∧ running.dead = false ∧ running.sys.mode = .run) ∧
    ((testing 0).dead = false ∧ (testing 0).voter.stRunning = true ∧ (testing 0).voter.lost = false ∧ (testing 0).sys.safePend = none ∧
      0 + 1 < 441 ∧ (testing 440).voter.stDone + 1 = 441) ∧
    (mayWrite req 1 (host running) ∧ (host running).sys.mode ≠ .boot ∧ (host running).sys.mode ≠ .recovery ∧
      (host running).voter.stRunning = false) ∧
    (mayWrite req 1 (host (testing 5)) ∧ (host (testing 5)).voter.stRunning = true) :=
  ⟨by decide +kernel, by decide +kernel,
   ⟨host_mayWrite _ _ (by decide) rfl (by decide +kernel), by decide +kernel, by decide +kernel, by decide +kernel⟩,
   ⟨host_mayWrite _ _ (by decide) rfl (by decide +kernel), by decide +kernel⟩⟩

/-- Lane C Slate with work of the supervisor. -/
def slateC (w : LaneWork) (m : Mode) : State :=
  let s := inMode m
  { s with lanes := { s.lanes with c := { colour := .slate, work := w } } }

theorem witness_LanePowerAndReset :
    (mayWrite req 1 (host (inMode .run)) ∧ (1 ≤ 3 ∧ 3 ≤ 3) ∧ (host (inMode .run)).sys.mode = .run ∧ (host (inMode .run)).capacity = 3) ∧
    (mayWrite req 1 (host (slateC .none .standby)) ∧ ((host (slateC .none .standby)).lane (laneNamed 3)).colour = .slate ∧
      (host (slateC .none .standby)).sys.mode = .standby ∧
      (host (slateC .none .standby)).lanes.count (fun x => x.colour == .amber) = 0 ∧
      (host (slateC .none .standby)).lanes.count (fun x => x.work == .resetting) = 0 ∧
      ((host (slateC .none .standby)).lane (laneNamed 3)).work ≠ .poweringDown) ∧
    ((slateC .poweringDown .run).dead = false ∧ ((slateC .poweringDown .run).lane .c).work = .poweringDown ∧
      ((slateC .poweringDown .run).lane .c).colour = .slate) ∧
    (((slateC .resetting .run).lane .c).work = .resetting ∧ (slateC .resetting .run).sys.mode = .run ∧
      ((slateC .resetting .safe).lane .c).work = .resetting ∧ (slateC .resetting .safe).sys.mode = .safe) ∧
    (∃ s : State, s.dead = false ∧ (s.lane .a).gateOpen = true ∧ s.sys.mode = .run ∧ s.sys.safePend = none) :=
  ⟨⟨host_mayWrite _ _ (by decide) rfl (by decide +kernel), by decide +kernel, by decide +kernel, by decide +kernel⟩,
   ⟨host_mayWrite _ _ (by decide) rfl (by decide +kernel), by decide +kernel, by decide +kernel, by decide +kernel, by decide +kernel,
    by decide +kernel⟩,
   by decide +kernel, by decide +kernel,
   { running with lanes := { running.lanes with a := { gateOpen := true } } }, by decide +kernel⟩

/-- The field controller at work at a tick, with output 0 and group 0 as given. -/
def field (tick : Nat) (o : OutChan) (g : Group) : State :=
  { running with
    frame := { running.frame with tick := tick },
    fio := { running.fio with running := true, outs := o :: List.replicate 23 {}, groups := g :: List.replicate 5 {} } }

/-- A driven output and a driven group. -/
def onOut : OutChan := { command := true, driven := true }
def onGroup : Group := { command := true, driven := true }

theorem witness_FieldPulses :
    ((field 8 onOut onGroup).dead = false ∧ (field 8 onOut onGroup).fieldTests = true ∧ 0 < (field 8 onOut onGroup).fio.outs.length ∧
      (field 8 onOut onGroup).inSlot 8 = true ∧ (nth {} 0 (field 8 onOut onGroup).fio.outs).driven = true) ∧
    ((field 970 onOut onGroup).fieldTests = true ∧ 0 < (field 970 onOut onGroup).fio.groups.length ∧
      (field 970 onOut onGroup).inSlot 970 = true ∧ (nth {} 0 (field 970 onOut onGroup).fio.groups).driven = true) ∧
    (∃ s t : State, s.fieldTests = true ∧ 0 < s.fio.outs.length ∧ s.inSlot 28 = true ∧ s.par 0x6100 1 = 1 ∧ (nth {} 0 s.fio.outs).driven = false ∧
      outHeld (nth {} 0 s.fio.outs) (nth {} (groupOfOut 0) s.fio.groups) = false ∧ (nth {} 0 s.fio.outs).lightRetry = none ∧
      t.fieldTests = true ∧ t.inSlot 28 = true ∧ t.par 0x6100 1 = 1 ∧ (nth {} 0 t.fio.outs).driven = false ∧
      outHeld (nth {} 0 t.fio.outs) (nth {} (groupOfOut 0) t.fio.groups) = false ∧ (nth {} 0 t.fio.outs).lightRetry ≠ none ∧
      (nth {} 0 t.fio.outs).retired = false) :=
  ⟨by decide +kernel, by decide +kernel, withPar 0x6100 1 1 (field 1052 {} onGroup),
   withPar 0x6100 1 1 (field 1052 { lightRetry := some 28 } onGroup), by decide +kernel⟩

theorem witness_FieldFaults :
    ((field 9 onOut onGroup).dead = false ∧ (field 9 onOut onGroup).fieldRuns = true ∧ (nth {} 0 (field 9 onOut onGroup).fio.outs).driven = true ∧
      (nth {} 0 (field 9 onOut onGroup).fio.outs).retired = false ∧ (nth {} 0 (field 9 onOut onGroup).fio.outs).onRetry = none ∧
      (nth {} 0 (field 9 onOut onGroup).fio.outs).openLoad = false) ∧
    (∃ s : State, s.fieldRuns = true ∧ (nth {} 0 s.fio.outs).driven = true ∧ (nth {} 0 s.fio.outs).retired = false ∧
      (nth {} 0 s.fio.outs).onRetry ≠ none ∧ (nth {} 0 s.fio.outs).hold = none) ∧
    ((nth {} 0 (field 9 onOut onGroup).fio.groups).driven = true ∧ (nth {} 0 (field 9 onOut onGroup).fio.groups).retired = false ∧
      (nth {} 0 (field 9 onOut onGroup).fio.groups).onRetry = none) ∧
    (47 < (field 9 onOut onGroup).fio.ins.length ∧ (nth {} 47 (field 9 onOut onGroup).fio.ins).retired = false ∧
      (nth {} 47 (field 9 onOut onGroup).fio.ins).coupler = none ∧ 23 < (field 9 onOut onGroup).fio.outs.length ∧
      (nth {} 0 (field 9 onOut onGroup).fio.outs).coupler = none ∧ (nth {} 0 (field 9 onOut onGroup).fio.groups).coupler = none) ∧
    (∃ s : State, 0 < s.fio.ins.length ∧ s.fieldRuns = true ∧ (nth {} 0 s.fio.ins).retired = false ∧
      (nth {} 0 s.fio.ins).coupler = some (s.couplerTick - 1) ∧ 0 < s.couplerTick) :=
  ⟨by decide +kernel, ⟨field 500 { onOut with onRetry := some 9 } onGroup, by decide +kernel⟩, by decide +kernel, by decide +kernel,
   { field 9 onOut onGroup with fio := { (field 9 onOut onGroup).fio with ins := { coupler := some 9 } :: List.replicate 47 {} } }, by decide +kernel⟩

/-- A group whose recovery press began at tick 100. -/
def pressed : Group := { pend := some 50, press := some 100, filt := { st := true, fresh := false } }

theorem witness_FieldRegion :
    ((field 12100 {} pressed).dead = false ∧ 0 < (field 12100 {} pressed).fio.groups.length ∧
      (nth {} 0 (field 12100 {} pressed).fio.groups).filt.st = true ∧ (nth {} 0 (field 12100 {} pressed).fio.groups).jam = false ∧
      (nth {} 0 (field 12100 {} pressed).fio.groups).pend ≠ none ∧ (nth {} 0 (field 12100 {} pressed).fio.groups).press = some 100 ∧
      100 + 12000 ≤ (field 12100 {} pressed).frame.tick) ∧
    (∃ s : State, s.dead = false ∧ s.fio.blank = true ∧ s.fio.blankUntil ≤ s.frame.tick) ∧
    (mayWrite req 1 (host (inMode .standby)) ∧ (host (inMode .standby)).sys.mode = .standby ∧ (host (inMode .standby)).fio.reset ≠ .running) ∧
    (∃ s : State, s.dead = false ∧ s.fio.reset = .running) ∧ (running.dead = false ∧ running.sys.mode = .run ∧ running.sys.safePend = none) :=
  ⟨by decide +kernel, ⟨{ running with fio := { running.fio with blank := true, blankUntil := 1000 } }, by decide +kernel⟩,
   ⟨host_mayWrite _ _ (by decide) rfl (by decide +kernel), by decide +kernel, by decide +kernel⟩,
   ⟨{ running with fio := { running.fio with reset := .running } }, by decide +kernel⟩, by decide +kernel⟩

/-! ### Witnesses: safety functions -/

/-- Instance 0 of the safety configuration with its block, every channel in service. -/
def sfuAt (c : SfInst) (x : SfState) : State :=
  { running with
    sfuW := { insts := [(0, c)], states := [(0, x)] },
    fio := { running.fio with record := { inSvc := 2 ^ 48 - 1, inUse := 2 ^ 48 - 1, outOk := 2 ^ 24 - 1 } } }

/-- The same with no channel in service. -/
def sfuDark (c : SfInst) (x : SfState) : State := { sfuAt c x with fio := running.fio }

def gate : SfInst := { typ := 2, mode := 1, ch1 := 0, ch2 := 1, disc := 100 }
def hands : SfInst := { typ := 4, mode := 1, ch1 := 0, ch2 := 1, ch3 := 2, ch4 := 3, disc := 100 }
def edge : SfInst := { typ := 5, mode := 1, ch1 := 0, ch2 := 1, disc := 100, p1 := 40 }
def muting : SfInst := { typ := 6, mode := 1, ch1 := 0, ch2 := 1, lamp := 5, p1 := 100, p2 := 200, link := 1 }
def stop : SfInst := { typ := 7, mode := 1, out1 := 0, fb1 := 4, flags := 2, p1 := 50, p3 := 80 }

theorem witness_SafetyFaultExpiries :
    (sfuReady (sfuAt gate { state := sfACTIVE, d := { run := true, t := 100 } }) 0 [1, 2, 3, 5] gate ∧
      (sfOf (sfuAt gate { state := sfACTIVE, d := { run := true, t := 100 } }).sfuW 0).state ≠ sfFAULT ∧
      tmDue (sfOf (sfuAt gate { state := sfACTIVE, d := { run := true, t := 100 } }).sfuW 0).d gate.disc = true ∧
      faultAhead (sfuAt gate {}).senv gate = none ∧ faultAhead (sfuDark gate {}).senv gate = some 3) ∧
    (sfuReady (sfuAt hands { state := sfARMED, d := { run := true, t := 100 } }) 0 [4] hands ∧
      (sfOf (sfuAt hands { state := sfARMED, d := { run := true, t := 100 } }).sfuW 0).state ≠ sfFAULT ∧
      tmDue (sfOf (sfuAt hands { state := sfARMED, d := { run := true, t := 100 } }).sfuW 0).d hands.disc = true) ∧
    (sfuReady (sfuAt muting { state := sfARMED, d := { run := true, t := 100 } }) 0 [6] muting ∧
      (sfOf (sfuAt muting { state := sfARMED, d := { run := true, t := 100 } }).sfuW 0).state = sfARMED ∧
      tmDue (sfOf (sfuAt muting { state := sfARMED, d := { run := true, t := 100 } }).sfuW 0).d muting.p1 = true ∧
      (sfOf (sfuAt muting { state := sfARMED, d := { run := true, t := 100 } }).sfuW 0).c1.st = false) ∧
    (sfuReady (sfuAt muting { state := sfMUTED, p := { run := true, t := 200 } }) 0 [6] muting ∧
      (sfOf (sfuAt muting { state := sfMUTED, p := { run := true, t := 200 } }).sfuW 0).state = sfMUTED ∧
      tmDue (sfOf (sfuAt muting { state := sfMUTED, p := { run := true, t := 200 } }).sfuW 0).p muting.p2 = true ∧
      spWf {} (sfuAt muting { state := sfMUTED, p := { run := true, t := 200 } }).sfuW.states = true) := by
  unfold sfuReady; decide +kernel

theorem witness_SafetyTimerExpiries :
    (sfuReady (sfuAt hands { state := sfARMED, p := { run := true, t := 2000 } }) 0 [4] hands ∧
      (sfOf (sfuAt hands { state := sfARMED, p := { run := true, t := 2000 } }).sfuW 0).state = sfARMED ∧
      tmDue (sfOf (sfuAt hands { state := sfARMED, p := { run := true, t := 2000 } }).sfuW 0).p 2000 = true ∧
      faultAhead (sfuAt hands {}).senv hands = none ∧ faultAhead (sfuDark hands {}).senv hands = some 3) ∧
    (sfuReady (sfuAt edge { state := sfOBSTRUCTED, p := { run := true, t := 40 } }) 0 [5] edge ∧
      (sfOf (sfuAt edge { state := sfOBSTRUCTED, p := { run := true, t := 40 } }).sfuW 0).state = sfOBSTRUCTED ∧
      tmDue (sfOf (sfuAt edge { state := sfOBSTRUCTED, p := { run := true, t := 40 } }).sfuW 0).p edge.p1 = true) ∧
    (sfuReady (sfuAt stop { state := sfSTOPPING, p := { run := true, t := 50 } }) 0 [7] stop ∧
      (sfOf (sfuAt stop { state := sfSTOPPING, p := { run := true, t := 50 } }).sfuW 0).state = sfSTOPPING ∧
      tmDue (sfOf (sfuAt stop { state := sfSTOPPING, p := { run := true, t := 50 } }).sfuW 0).p stop.p1 = true) ∧
    (sfuReady (sfuAt stop { state := sfACTIVE, f1 := { run := true, t := 80 } }) 0 [7] stop ∧
      (sfOf (sfuAt stop { state := sfACTIVE, f1 := { run := true, t := 80 } }).sfuW 0).state = sfACTIVE ∧
      windowMissed stop (sfOf (sfuAt stop { state := sfACTIVE, f1 := { run := true, t := 80 } }).sfuW 0) = true) ∧
    (sfuReady (sfuAt stop { state := sfTRIPPED, f1 := { run := true, t := 80 } }) 0 [7] stop ∧
      (sfOf (sfuAt stop { state := sfTRIPPED, f1 := { run := true, t := 80 } }).sfuW 0).state = sfTRIPPED ∧
      windowMissed stop (sfOf (sfuAt stop { state := sfTRIPPED, f1 := { run := true, t := 80 } }).sfuW 0) = true) ∧
    (∃ (s : State) (k : Checker), s.dead = false ∧ s.sfuRuns = true ∧ s.sfuW.checkers[0]? = some k ∧ k.pressing = true ∧ k.filt.st = true ∧
      k.jammed = false ∧ k.r + 12000 ≤ s.frame.tick) := by
  unfold sfuReady
  exact ⟨by decide +kernel, by decide +kernel, by decide +kernel, by decide +kernel, by decide +kernel,
    { running with
      frame := { running.frame with tick := 12000 },
      sfuW := { checkers := [{ chan := 5, filt := { st := true, fresh := false }, pressing := true }] } },
    { chan := 5, filt := { st := true, fresh := false }, pressing := true }, by decide +kernel⟩

/-! ### Witnesses: elements and routes -/

/-- One element in slot 7 of a kind, with a timer limit of 5 cycles and two detection bits on channels 0 and 1, valid and 0. -/
def elem (d : ElemDef) (e : Elem) : State :=
  { running with
    ite := { running.ite with bank0 := some { elems := [(7, d)], keySets := [[9]] } }, vin := { valid := 2 ^ 48 - 1 },
    vitW := { elems := [(7, e)] } }

/-- The definition of a kind. -/
def kindOf (k : Nat) : ElemDef := { kind := k, detsrc := 0x1000, ndet := 2, t1 := 5, t2 := 5 }

/-- A record in a state whose timer stands at its limit. -/
def late (st : Nat) : Elem := { state := st, running := true, timer := 5 }

/-- A key lock with its key in. -/
def keyIn : State := { elem (kindOf 6) (late 3) with vin := { valid := 2 ^ 48 - 1, chans := 1 } }

theorem witness_ElementTimers :
    timerDue (elem (kindOf 1) (late 4)) 7 1 [3, 4] ∧ timerDue (elem (kindOf 2) (late 2)) 7 2 [2, 4] ∧
    (timerDue (elem (kindOf 3) (late 2)) 7 3 [2, 5] ∧ reportedClear (detectedElem (elem (kindOf 3) (late 2)) 7) = true) ∧
    timerDue (elem (kindOf 4) (late 2)) 7 4 [2] ∧ timerDue (elem (kindOf 4) (late 3)) 7 4 [3, 5] ∧
    timerDue (elem (kindOf 5) (late 4)) 7 5 [4] ∧ timerDue keyIn 7 6 [3] := by
  unfold timerDue
  refine ⟨?_, ?_, ⟨?_, ?_⟩, ?_, ?_, ?_, ?_⟩ <;> decide +kernel

/-- A valid argument of each command code on a slot of its kind, from a fresh telegram and from the dictionary. -/
def takes (code kind arg : Nat) : Prop :=
  let s := { elem (kindOf kind) {} with img := { streams := [{ can := false, num := 3, valid := true, payload := [] }] } }
  let o : ElemOp := { source := .telegram false 3 0, slot := 7, arg := arg }
  s.sys.mode = .run ∧ commandValid s.tables (elemCmdOf (elemWord code 7 arg) o.source) = true ∧ s.dead = false ∧ o.req = none ∧
    s.sourceFresh o.source = true

/-- The same command in a request of a session, with the entry free and busy. -/
def takesReq (code kind arg : Nat) (busy : Bool) : Prop :=
  let s := host { elem (kindOf kind) {} with ite := { (elem (kindOf kind) {}).ite with cmdBusy := busy } }
  let o : ElemOp := { source := .dictionary, req := some req, slot := 7, arg := arg }
  s.sys.mode = .run ∧ commandValid s.tables (elemCmdOf (elemWord code 7 arg) .dictionary) = true ∧ o.req = some req ∧ s.ite.cmdBusy = busy

theorem witness_ElementCommands :
    takes 0x01 1 2 ∧ takes 0x10 3 0 ∧ takes 0x11 3 0 ∧ takes 0x20 3 0 ∧ takes 0x30 4 0 ∧ takes 0x31 4 0 ∧ takes 0x40 5 0 ∧ takes 0x41 5 0 ∧
    takes 0x50 6 0 ∧ takes 0x51 6 0 ∧
    (∀ p ∈ [(0x01, 1, 2), (0x10, 3, 0), (0x11, 3, 0), (0x20, 3, 0), (0x30, 4, 0), (0x31, 4, 0), (0x40, 5, 0), (0x41, 5, 0), (0x50, 6, 0), (0x51, 6, 0)],
      takesReq p.1 p.2.1 p.2.2 false ∧ takesReq p.1 p.2.1 p.2.2 true) ∧
    mayWrite req 1 (host (elem (kindOf 4) {})) := by
  unfold takes takesReq
  exact ⟨by decide +kernel, by decide +kernel, by decide +kernel, by decide +kernel, by decide +kernel, by decide +kernel, by decide +kernel,
    by decide +kernel, by decide +kernel, by decide +kernel, by decide +kernel, host_mayWrite _ _ (by decide) rfl (by decide +kernel)⟩

/-- A point in slot 7 with section 8 as its own section. -/
def pointTables : TableSet := { elems := [(7, { kind := 1, flags := 2, ownsec := 8 }), (8, { kind := 3 })] }

/-- The command of code 0x01 to position 2. -/
def move2 : ElemCmd := { slot := 7, code := 1, arg := 2, source := .dictionary }

theorem witness_CommandJudgement :
    (move2.code = 0x01 ∧ (elemOf { elems := [(7, { lock := bitIf lockKEY true })] } 7).has lockKEY = true ∧
      ownClear { elems := [(7, {}), (8, { state := 2 })] } (defOf pointTables 7) = false) ∧
    ((elemOf { elems := [(7, {}), (8, { state := 1 })] } 7).has lockRESTART = false ∧
      (elemOf { elems := [(7, {}), (8, { state := 1 })] } 7).has lockKEY = false ∧
      (elemOf { elems := [(7, {}), (8, { state := 1 })] } 7).has lockBLOCKED = false ∧
      (elemOf { elems := [(7, {}), (8, { state := 1 })] } 7).holds = 0 ∧
      ownClear { elems := [(7, {}), (8, { state := 1 })] } (defOf pointTables 7) = true) ∧
    (({ move2 with code := 0x30 }).code = 0x30 ∧ ({ move2 with code := 0x31 }).code = 0x31 ∧ ({ move2 with code := 0x10 }).code = 0x10 ∧
      ({ move2 with code := 0x11 }).code = 0x11) := by decide +kernel

/-- Route 4 over section 8 with an overlap on section 9, and its record. -/
def line4 : RouteDef :=
  { cls := 1, sectional := false, entry := 5, exit := 6, path := [{ slot := 8, pos := 0 }], flank := [],
    overlaps := [{ prio := 1, entries := [{ slot := 9, pos := 0 }] }], approach := [], appMode := 0, aspect := 0, trel := 10, tovl := 20, conflict := 0,
    raw := [] }
def lineTables : TableSet := { elems := [(8, { kind := 3 }), (9, { kind := 3 })], routes := [(4, line4)] }
def routed (x : Route) : State :=
  { running with
    frame := { running.frame with passDue := true, cycleOpen := true },
    ite := { running.ite with bank0 := some lineTables }, vitW := { elems := [(8, { state := 1 }), (9, { state := 1 })], routes := [(4, x)] },
    img := { streams := [{ can := true, num := 3, valid := true, payload := [] }] } }

/-- A set request in the queue. -/
def waiting : RouteReq := { kind := 1, tag := 0, route := 4, eligible := 4, fresh := true, latch := 1, source := .dictionary }

/-- A telegram request for route 4, and one of a session. -/
def ask4 : RouteOp := { source := .telegram true 3 0, tag := 17, route := 4 }
def hostAsk4 : RouteOp := { source := .dictionary, req := some req, tag := 17, route := 4 }

theorem witness_RouteRequests :
    ((routed {}).sys.mode = .run ∧ (routed {}).dead = false ∧ ask4.req = none ∧ (routed {}).sourceFresh ask4.source = true ∧
      routeStatus (routeWord 1 17 4) (routed {}) = 0 ∧ routeStatus (routeWord 2 17 4) (routed {}) = 0 ∧ routeStatus (routeWord 3 17 4) (routed {}) = 0) ∧
    (∃ s : State, s.sys.mode = .run ∧ s.dead = false ∧ s.sourceFresh ask4.source = true ∧ routeStatus (routeWord 1 17 4) s = 0x0402) ∧
    (hostAsk4.req = some req ∧ mayWrite req 1 (host (routed {})) ∧ routeStatus (routeWord 1 17 4) (host (routed {})) = 0 ∧
      (host (routed {})).ite.dictBusy = false) ∧
    (∃ s : State, mayWrite req 1 s ∧ s.sys.mode = .run ∧ routeStatus (routeWord 1 17 4) s = 0 ∧ s.ite.dictBusy = true) :=
  ⟨by decide +kernel,
   ⟨{ routed {} with ite := { (routed {}).ite with setQ := List.replicate 6144 waiting } },
    by decide +kernel, by decide +kernel, by decide +kernel, by decide +kernel⟩,
   ⟨rfl, host_mayWrite _ _ (by decide) rfl (by decide +kernel), by decide +kernel, by decide +kernel⟩,
   ⟨host { routed {} with ite := { (routed {}).ite with dictBusy := true } },
    host_mayWrite _ _ (by decide) rfl (by decide +kernel), by decide +kernel, by decide +kernel, by decide +kernel⟩⟩

theorem witness_RouteExpiries :
    ((routed {}).dead = false ∧ (routed {}).sys.mode = .run ∧ (routed {}).frame.passDue = true) ∧
    (∃ s : State, ∃ q ∈ s.ite.setQ, q.latch + s.setLife ≤ s.frame.tick) ∧
    (∃ s : State, (routeOf s.vitW 4).code = rsPROVING ∧ s.setLimit < (routeOf s.vitW 4).setTicks ∧ (routeOf s.vitW 4).setRaised = false) ∧
    (routeDef (routed { code := rsTIMERELEASE, running := true, timer := 10 }).tables 4 = some line4 ∧
      (routeOf (routed { code := rsTIMERELEASE, running := true, timer := 10 }).vitW 4).code = rsTIMERELEASE ∧
      (routeOf (routed { code := rsTIMERELEASE, running := true, timer := 10 }).vitW 4).running = true ∧
      line4.trel ≤ (routeOf (routed { code := rsTIMERELEASE, running := true, timer := 10 }).vitW 4).timer ∧
      s1Occupied lineTables (routed {}).vitW line4 = false ∧
      spWf {} (routed { code := rsTIMERELEASE, running := true, timer := 10 }).vitW.routes = true) ∧
    (∃ s : State, routeDef s.tables 4 = some line4 ∧ (routeOf s.vitW 4).code = rsOVERLAPHELD ∧ (routeOf s.vitW 4).alt ≠ 0 ∧
      (routeOf s.vitW 4).tovlArmed = true ∧ (routeOf s.vitW 4).running = true ∧ line4.tovl ≤ (routeOf s.vitW 4).timer ∧
      overlapOccupied s.tables s.vitW line4 (routeOf s.vitW 4).alt = false) ∧
    (∃ s : State, s.frame.vitalDue = true ∧ s.vitW.restartRun = true ∧ s.restartLimit ≤ s.vitW.restartTicks) :=
  ⟨by decide +kernel,
   ⟨{ routed {} with
        frame := { (routed {}).frame with tick := 10 ^ 9 },
        ite := { (routed {}).ite with setQ := [waiting] } },
    _, List.mem_singleton.mpr rfl, by decide +kernel⟩,
   ⟨routed { code := rsPROVING, setTicks := 10 ^ 9 }, by decide +kernel⟩, by decide +kernel,
   ⟨routed { code := rsOVERLAPHELD, alt := 1, tovlArmed := true, running := true, timer := 20 }, by decide +kernel⟩,
   ⟨{ routed {} with vitW := { restartRun := true, restartTicks := 10 ^ 9 } }, by decide +kernel⟩⟩

theorem witness_VitalCycle :
    ((routed {}).dead = false ∧ (routed {}).sys.mode = .run ∧ (routed {}).frame.vitalDue = true ∧ (routed {}).frame.passDue = true ∧
      (routed {}).laneWorks .c = true ∧ (routed {}).laneRuns .c = true) ∧
    (∃ s : State, s.dead = false ∧ s.sys.mode = .run ∧ s.frame.cycleOpen = true ∧ s.frame.passDue = false ∧ s.frame.vitalDue = false ∧
      s.frame.firstTick < s.frame.tick ∧ s.ite.raen = true ∧ s.par 0x4130 2 = 1 ∧ s.ite.raAllowed = true ∧ s.ite.raDone = false) :=
  ⟨by decide +kernel,
   withPar 0x4130 2 1 { routed {} with
      frame := { (routed {}).frame with passDue := false, vitalDue := false }, ite := { (routed {}).ite with raen := true } },
   by decide +kernel⟩

/-! ### Witnesses: the tick -/

/-- With the fast task of lane A running and its vital task in the open cycle. -/
def busyA : State :=
  { running with
    frame := { running.frame with cycleOpen := true, vitalDue := false },
    lanes := { running.lanes with a := { fastRun := true, vitalRun := true, gateOpen := true } } }

theorem witness_InputLatch :
    (running.dead = false ∧ running.sys.mode = .run ∧ running.dict.staged = [] ∧ running.sys.toStandby = false ∧ running.frame.cycleOpen = false) ∧
    (busyA.dead = false ∧ busyA.sys.mode = .run ∧ busyA.dict.staged = [] ∧ busyA.sys.toStandby = false ∧ busyA.frame.cycleOpen = true) := by decide +kernel

theorem witness_TaskStartsAndReturns :
    running.dead = false ∧ running.fastRuns = true ∧ running.laneWorks .a = true ∧ (amberB .quarantine .run).laneWorks .b = false ∧ busyA.fastRuns = true ∧
    (busyA.lane .a).fastRun = true ∧ busyA.sys.mode = .run ∧ (busyA.lane .a).colour = .green ∧ (busyA.lane .a).vitalRun = true ∧
    busyA.frame.passDue = false := by decide +kernel

/-- In the last tick of the cycle and before it, all vital tasks returned or not. -/
def atEnd (fin : Bool) (run : Nat) : State :=
  { running with
    frame := { running.frame with tick := 1039, firstTick := 1000, cycleOpen := true, vitalDue := false, overrun := run },
    lanes := Tri.all3 { vitalRun := !fin, vitalDone := fin, fastDone := true } }

theorem witness_PhaseThree :
    ((atEnd true 0).dead = false ∧ (atEnd true 0).fastRuns = true ∧ (atEnd true 0).vitalCase = .vote ∧ ((atEnd true 0).lane .c).fastDone = true ∧
      (running.lane .c).fastDone = false) ∧
    (∃ s : State, s.dead = false ∧ s.fastRuns = true ∧ s.vitalCase = .overrun ∧ s.frame.overrun = 0) ∧
    ((inMode .safe).dead = false ∧ (inMode .safe).fastRuns = true ∧ (inMode .safe).sys.mode = .safe ∧ (inMode .safe).voter.radmLane = none) :=
  ⟨by decide +kernel, ⟨{ atEnd false 0 with frame := { (atEnd false 0).frame with tick := 1040 } }, by decide +kernel⟩, by decide +kernel⟩

theorem witness_CompareOfThree :
    LaneId.a ≠ .b ∧ LaneId.b ≠ .c ∧ LaneId.a ≠ .c ∧ (none : Option Nat) ≠ some 5 ∧ some 6 ≠ some 5 ∧
    ((none : Option Nat) = none ∨ (none : Option Nat) ≠ none) ∧ (some 1 = none ∨ some 1 ≠ some 2) := by decide

theorem witness_CompareReactions : running.sys.mode = .run ∧ running.sys.safePend = none ∧ (running.lane .a).colour = .green ∧ (3 = 1 ∨ 3 = 3) := by
  decide +kernel

theorem witness_EnablePath :
    (running.dead = false ∧ running.sys.mode = .run ∧ ∀ l, (Tri.all3 0).get l % 2 ^ 30 = 0) ∧
    ((∀ k, (running.lane k).colour = .green) ∧ (∀ k, (running.lane k).pend = none) ∧ ({ a := 0, b := 0, c := 2 ^ 29 } : Tri Nat).get .c % 2 ^ 30 ≠ 0 ∧
      ∀ k, k ≠ .c → ({ a := 0, b := 0, c := 2 ^ 29 } : Tri Nat).get k % 2 ^ 30 = 0) ∧
    ((slateC .none .run).sys.mode = .run ∧ (slateC .none .run).capacity = 2 ∧ ((slateC .none .run).lane .a).colour = .green ∧
      (slateC .none .run).sys.safePend = none) ∧
    (busyA.dead = false ∧ (busyA.lane .a).gateOpen = true ∧ busyA.sys.mode = .run ∧ busyA.sys.safePend = none) :=
  ⟨⟨rfl, rfl, fun l => by cases l <;> rfl⟩,
   ⟨fun k => by cases k <;> rfl, fun k => by cases k <;> rfl, by decide, fun k h => by cases k <;> first | rfl | exact absurd rfl h⟩,
   by decide +kernel, by decide +kernel⟩

/-- A tick whose votes have the results given, all gates open, output 2 on in lanes A and C. -/
def voted (fast vital : Bool) : State :=
  { running with
    frame := { running.frame with fastOk := fast, vitalOk := vital, committed := false },
    lanes := { a := { gateOpen := true, lines := 4 }, b := { gateOpen := true }, c := { gateOpen := true, lines := 4 } } }

/-- The same with one gate or two gates closed. -/
def shutB : State := { voted true true with lanes := { (voted true true).lanes with b := {} } }
def shutBC : State := { shutB with lanes := { shutB.lanes with c := {} } }

theorem witness_OutputCommits :
    (∃ s : State, s.dead = false ∧ s.sys.mode = .run ∧ s.sys.safePend = some 43 ∧ heldCause 43 = true) ∧
    (∃ s : State, s.dead = false ∧ s.sys.mode = .run ∧ s.sys.safePend = some 11 ∧ heldCause 11 = false) ∧
    ((voted false false).dead = false ∧ (voted false false).sys.mode = .run ∧ (voted false false).sys.safePend = none ∧
      (voted false false).frame.fastOk = false ∧ (voted false false).frame.vitalOk = false) ∧
    ((voted true true).frame.fastOk = true ∧ (voted true true).frame.vitalOk = true ∧ (voted true false).frame.fastOk = true ∧
      (voted true false).frame.vitalOk = false ∧ (voted true true).laneWorks .b = true) ∧
    ((inMode .standby).dead = false ∧ (inMode .standby).sys.mode ≠ .run ∧ (inMode .standby).fastRuns = true ∧ (inMode .standby).pair.outputHold = none) :=
  ⟨⟨{ running with sys := { mode := .run, safePend := some 43 } }, by decide +kernel⟩,
   ⟨{ running with sys := { mode := .run, safePend := some 11 } }, by decide +kernel⟩, by decide +kernel, by decide +kernel, by decide +kernel⟩

theorem witness_OutputMajority :
    ((voted true true).dead = false ∧ (voted true true).sys.mode = .run ∧ (voted true true).sys.safePend = none ∧ (voted true true).frame.fastOk = true ∧
      ((voted true true).lane .a).gateOpen = true ∧ ((voted true true).lane .a).lines.testBit 2 = true ∧
      ((voted true true).lane .c).gateOpen = true ∧ ((voted true true).lane .c).lines.testBit 2 = true) ∧
    (shutB.dead = false ∧ shutB.sys.mode = .run ∧ shutB.sys.safePend = none ∧ shutB.frame.fastOk = true ∧ (shutB.lane .b).gateOpen = false) ∧
    (shutBC.frame.fastOk = true ∧ (shutBC.lane .b).gateOpen = false ∧ (shutBC.lane .c).gateOpen = false ∧ LaneId.b ≠ .c) := by decide +kernel

/-! ### Witnesses: modes, restarts, registers, long operations -/

theorem host_mayLog (s : State) (n : Nat) (h : s.dict.sinceExport + n ≤ 4096) (hf : s.pwr.failing = false) : mayLog n (host s) := ⟨h, hf⟩

/-- The header of an image with an empty body under Dorior's production key, which is a constant without a known value. -/
def doriorHeader : Header :=
  { cls := 1, version := 7, reqFw := 0, length := 0x110, keySet := 1, keySlot := 0,
    keyId := leNat ((sha256 (toLE 32 (Config.doriorKey 1).toNat)).take 4), bodyCrc := 0, bodyHash := sha512 [] }
def goodSlot : Slot := { state := .valid, header := some doriorHeader }

/-- A module in BOOT with every slot A valid. -/
def booting : State := { inMode .boot with upd := { slots := List.replicate 8 { a := goodSlot } } }

theorem goodSlot_passes (dev : Bool) (keys : List (List Byte)) (fw : Option Nat) : slotStatus dev keys fw goodSlot = 0 := by
  have hk : keyOk keys doriorHeader = true := by
    simp only [keyOk, keyOf, doriorHeader]
    simp [toLE]
  cases fw <;> simp only [slotStatus, goodSlot, hk] <;> simp [doriorHeader]

theorem booting_loads : (loadDoriors booting).ok = true := by
  simp [loadDoriors, loadDorior, booting, Upd.slot, Upd.modSlot, nth, modNth, goodSlot_passes]

theorem witness_EndOfBoot :
    (booting.dead = false ∧ booting.sys.mode = .boot ∧ booting.fw.lock = false ∧ (loadDoriors booting).ok = true ∧ booting.sys.bootKind ≠ .recovery ∧
      ({ missed := some 3 } : BootIn).missed ≠ none ∧ ({} : BootIn).missed = none ∧ booting.pwr.lost.testBit 3 = false ∧
      booting.pwr.lost.testBit 7 = false ∧ (withPar 0x2000 3 3 booting).par 0x2000 3 = 3 ∧ booting.upd.fromMode = none) ∧
    (∃ s : State, s.dead = false ∧ s.sys.mode = .boot ∧ s.fw.lock = false ∧ s.sys.bootKind = .recovery) ∧
    (∃ s : State, s.sys.mode = .boot ∧ s.pair.listening = some 900 ∧ 900 ≤ s.frame.tick ∧ s.pair.position = 0) ∧
    (∃ s : State, s.sys.mode = .boot ∧ s.pair.listening = some 1000 ∧ 1000 ≤ s.frame.tick ∧ s.pair.position ≠ 0 ∧ s.pair.partnerHeld = true) ∧
    (∃ s : State, s.sys.mode = .boot ∧ s.pair.listening = some 1000 ∧ 1000 ≤ s.frame.tick ∧ s.pair.position ≠ 0 ∧ s.pair.heldWhenStarted = false ∧
      s.pair.partnerHeld = false) :=
  ⟨⟨rfl, rfl, rfl, booting_loads, by decide, by decide, rfl, by decide +kernel, by decide +kernel, by decide +kernel, rfl⟩,
   ⟨{ inMode .boot with sys := { mode := .boot, bootKind := .recovery } }, by decide +kernel⟩,
   ⟨{ inMode .boot with pair := { listening := some 900 } }, by decide +kernel⟩,
   ⟨{ inMode .boot with pair := { listening := some 1000, closed := true, cablePos := 2, partnerHeld := true } }, by decide +kernel⟩,
   ⟨{ inMode .boot with pair := { listening := some 1000, closed := true, cablePos := 1 } }, by decide +kernel⟩⟩

/-- A time-of-day telegram for SECONDS 78 from a locked source, and a station input that awaits the name of its fourth edge. -/
def telegram : List Byte :=
  let head : List Byte := [0xAA, 0x55, 1, 1] ++ toBE 8 78 ++ toBE 2 37
  head ++ toBE 2 (crcOf .crc16 head)
def station (x : Station) : State := { running with pwr := { running.pwr with station := x } }

theorem witness_StationInput :
    (running.dead = false ∧ (station { anyEdge := true, named := true }).pwr.station.anyEdge = true ∧
      (station { anyEdge := true, named := true }).pwr.station.named = true ∧ 999900000 ≤ 999900000 ∧ 999900000 ≤ 1000100000 ∧ 1000100000 < 1000100001) ∧
    (∃ s : State, s.frame.ref ≠ .own ∧ s.frame.refOrder ≠ 0) ∧
    ((station { anyEdge := true, named := false, missing := 2 }).pwr.station.named = false ∧
      2 ≤ (station { anyEdge := true, named := false, missing := 2 }).pwr.station.missing) ∧
    (todSound 100000000 telegram = true ∧ (beAt 3 1 telegram).testBit 0 = true ∧
      (station { anyEdge := true, named := false, edgeOk := true, run := 3, seconds := some 77 }).pwr.station.seconds = some 77 ∧
      beAt 4 8 telegram = 77 + 1 ∧ todSound 800000000 telegram = false) ∧
    ((station { anyEdge := true, edgeTick := 0 }).pwr.station.anyEdge = true ∧ ∃ s : State, s.pwr.station.anyEdge = true ∧
      s.pwr.station.edgeTick + 6000 ≤ s.frame.tick) :=
  ⟨by decide +kernel, ⟨{ running with frame := { running.frame with ref := .efavo } }, by decide +kernel⟩, by decide +kernel, by decide +kernel,
   by decide +kernel, ⟨{ station { anyEdge := true, edgeTick := 0 } with frame := { running.frame with tick := 6000 } }, by decide +kernel⟩⟩

/-- In RUN with a synchronised standby of the same identity. -/
def paired : State := { running with pair := { linkUp := true, partner := some running.identBlock, partnerMode := 4, partnerSync := true } }

/-- A mode request waits for the output commit. -/
def asking (v : Nat) (s : State) : State := { host s with dict := { (host s).dict with asked := [(req, v)] } }

theorem witness_ModeRequests :
    (mayWrite req 2 (host (inMode .standby)) ∧ mayLog 1 (host (inMode .standby)) ∧ (host (inMode .standby)).sys.mode = .standby ∧
      (host (inMode .standby)).overtaken = false) ∧
    (takesUp req (host running) ses ∧ (host running).sys.mode ≠ .standby) ∧
    (∃ s : State, mayWrite req 2 s ∧ mayLog 1 s ∧ s.sys.mode = .standby ∧ s.overtaken = true) ∧
    (mayWrite req 2 (host paired) ∧ mayLog 1 (host paired) ∧ (host paired).sys.mode = .run ∧ (host paired).pairCause = 0 ∧ (host paired).overtaken = false) ∧
    (mayWrite req 2 (host running) ∧ mayLog 1 (host running) ∧ (host running).pairCause ≠ 0 ∧ (host running).overtaken = false) ∧
    (takesUp req (host (inMode .safe)) ses ∧ (host (inMode .safe)).sys.mode ≠ .run) ∧
    ((asking 3 (inMode .standby)).dead = false ∧ (asking 3 (inMode .standby)).serverUp req.carrier = true ∧
      (asking 3 (inMode .standby)).sys.mode = .standby ∧ (asking 3 (inMode .standby)).dict.asked = [(req, 3)] ∧
      (asking 3 (inMode .standby)).pair.hold = false ∧ (asking 3 (inMode .standby)).pair.claiming = false ∧ (asking 3 (inMode .standby)).overtaken = false) ∧
    (∃ s : State, s.dead = false ∧ s.serverUp req.carrier = true ∧ s.sys.mode = .standby ∧ s.dict.asked = [(req, 3)] ∧ s.pair.hold = false ∧ s.pair.claiming = false ∧
      s.sys.safePend.isSome) ∧
    ((asking 4 running).dead = false ∧ (asking 4 running).serverUp req.carrier = true ∧ (asking 4 running).sys.mode = .run ∧
      (asking 4 running).dict.asked = [(req, 4)] ∧ (asking 4 running).sys.safePend = none ∧ (asking 4 running).overtaken = false) ∧
    (∃ s : State, s.dead = false ∧ s.serverUp req.carrier = true ∧ s.sys.mode = .run ∧ s.dict.asked = [(req, 4)] ∧ s.sys.safePend = some 43) ∧
    (mayWrite req 1 (host running) ∧ (host running).sys.mode ≠ .boot) :=
  ⟨⟨host_mayWrite _ _ (by decide) rfl (by decide +kernel), host_mayLog _ _ (by decide) rfl, by decide +kernel, by decide +kernel⟩,
   ⟨host_takesUp _ rfl (by decide +kernel), by decide +kernel⟩,
   ⟨host { inMode .standby with sys := { mode := .standby, restartReq := some .cold } }, host_mayWrite _ _ (by decide) rfl (by decide +kernel),
    host_mayLog _ _ (by decide) rfl, by decide +kernel, by decide +kernel⟩,
   ⟨host_mayWrite _ _ (by decide) rfl (by decide +kernel), host_mayLog _ _ (by decide) rfl, by decide +kernel, by decide +kernel, by decide +kernel⟩,
   ⟨host_mayWrite _ _ (by decide) rfl (by decide +kernel), host_mayLog _ _ (by decide) rfl, by decide +kernel, by decide +kernel⟩,
   ⟨host_takesUp _ rfl (by decide +kernel), by decide +kernel⟩,
   by decide +kernel, ⟨asking 3 { inMode .standby with sys := { mode := .standby, safePend := some 60 } }, by decide +kernel⟩,
   by decide +kernel, ⟨asking 4 { running with sys := { mode := .run, safePend := some 43 } }, by decide +kernel⟩,
   ⟨host_mayWrite _ _ (by decide) rfl (by decide +kernel), by decide +kernel⟩⟩

theorem witness_NoRequestLeavesSafe : (host (inMode .safe)).sys.mode = .safe ∧ takesUp req (host (inMode .safe)) ses :=
  ⟨rfl, host_takesUp _ rfl (by decide +kernel)⟩

/-- Accesses: of the vital core of lane B, of its DMA channel 3, of the server and of the pair master, to an address that no window holds. -/
def stray (m : Nat) : Access := { master := m, write := true, execute := false, addr := 0x1000, width := 4, runtime := false }

theorem witness_FirewallFreeze :
    (∃ s : State, s.dead = false ∧ accessCause s.fw (stray 2) = none) ∧
    (({ running with fw := { frozen := [2] } }).fw.frozen.contains (stray 2).master = true ∧ reservedAddr 0x01000000 = true ∧ reservedAddr 0xFFFFFFFF = true) ∧
    (running.dead = false ∧ (∃ c, accessCause running.fw (stray 2) = some c) ∧ (∃ c, accessCause running.fw (stray 27) = some c) ∧
      (∃ c, accessCause running.fw (stray 6) = some c) ∧ (∃ c, accessCause running.fw (stray 7) = some c) ∧
      running.fw.frozen.contains 2 = false ∧ running.fw.vValid = false ∧ ({ running with fw := { vValid := true } }).fw.vValid = true ∧
      laneOfMaster 2 = some .b ∧ laneOfMaster 27 = some .b ∧ running.sys.mode = .run ∧ (running.lane .b).colour ≠ .slate ∧ (27 - 8) % 16 < (running.lane .b).dma.length) :=
  ⟨⟨{ running with fw := { app := [(2, [{ base := 1, pages := 1, p := false, x := false, w := true, r := true }])] } }, by decide +kernel⟩,
   by decide +kernel, rfl, ⟨_, rfl⟩, ⟨_, rfl⟩, ⟨_, rfl⟩, ⟨_, rfl⟩, by decide +kernel⟩

theorem witness_RegisterWrites :
    running.dead = false ∧ 7 < 8 ∧ 2 ^ 32 - 1 < 2 ^ 32 ∧ running.laneRuns .a = true ∧ running.laneRuns .b = true ∧ 0xF00C0000 ≤ 0xF00CFFFC ∧
    0xF00CFFFC < 0xF00D0000 ∧ 1 < 2 ∧ 2 ≤ 255 ∧ 255 < 256 ∧ (slateC .none .run).laneRuns .c = false ∧ running.sys.mode = .run := by decide +kernel

/-- Every long operation in a state. -/
def lopsIn (st : LopState) (m : Mode) : State :=
  let o : LongOp := { state := st, suspendedAt := 10 }
  { inMode m with lops := { tableLoad := o, checkpoint := o, logExport := o, download := o } }

/-- The pair link up, and a staged header of an application image. -/
def linked (st : LopState) : State := { lopsIn st .run with pair := { linkUp := true } }
def stagedApp : State := { inMode .configure with upd := { staged := some { doriorHeader with cls := 0x10, keySet := 3 } } }

theorem witness_LongOperationStarts :
    (mayWrite req 2 (host (lopsIn .idle .standby)) ∧ mayLog 1 (host (lopsIn .idle .standby)) ∧ (host (lopsIn .idle .standby)).sys.mode = .standby ∧
      (host (lopsIn .idle .standby)).lops.tableLoad.live = false ∧ (host (lopsIn .idle .standby)).loadingApp = false ∧
      (host (lopsIn .idle .standby)).upd.change.state.pending = false) ∧
    (mayWrite req 2 (host (lopsIn .suspended .run)) ∧ mayLog 1 (host (lopsIn .suspended .run)) ∧ (host (lopsIn .suspended .run)).lops.tableLoad.live = true) ∧
    (mayWrite req 1 (host (linked .idle)) ∧ (host (linked .idle)).sys.mode = .run ∧ (host (linked .idle)).pair.linkUp = true ∧
      (host (linked .idle)).lops.checkpoint.live = false ∧ (host (linked .idle)).lops.logExport.live = false) ∧
    (mayWrite req 1 (host (linked .running)) ∧ (host (linked .running)).lops.checkpoint.live = true ∧ (host (linked .running)).lops.logExport.live = true) ∧
    (mayWrite req 1 (host stagedApp) ∧ (host stagedApp).sys.mode ≠ .boot ∧ (∃ h, (host stagedApp).upd.staged = some h) ∧
      firstStatus (downloadChecks (host stagedApp)) = 0) ∧
    (mayWrite req 1 (host running) ∧ (host running).upd.staged = none ∧ doriorClass (host running).upd.target = false) :=
  ⟨⟨host_mayWrite _ _ (by decide) rfl (by decide +kernel), host_mayLog _ _ (by decide) rfl, by decide +kernel⟩,
   ⟨host_mayWrite _ _ (by decide) rfl (by decide +kernel), host_mayLog _ _ (by decide) rfl, by decide +kernel⟩,
   ⟨host_mayWrite _ _ (by decide) rfl (by decide +kernel), by decide +kernel⟩, ⟨host_mayWrite _ _ (by decide) rfl (by decide +kernel), by decide +kernel⟩,
   ⟨host_mayWrite _ _ (by decide) rfl (by decide +kernel), by decide +kernel, ⟨_, rfl⟩, by decide +kernel⟩,
   ⟨host_mayWrite _ _ (by decide) rfl (by decide +kernel), by decide +kernel⟩⟩

/-- A change-log entry whose check value holds, and one whose check value does not. -/
def entry0 : LogEntry := { seqNo := 0, kind := 1, slot := 0, level := 2, carrier := 0, tick := 9, index := 0x2000, sub := 2, old := 0, new := 3, check := 0 }
def entryGood : LogEntry := { entry0 with check := logCheck 0 entry0 }
def entryBad : LogEntry := { entry0 with check := logCheck 0 entry0 + 1 }

theorem witness_LongOperationCommands :
    (∀ ix ∈ lopIndexes, ((host (lopsIn .running .run)).lops.get ix).state = .running ∧ ((host (lopsIn .suspended .run)).lops.get ix).state = .suspended ∧
      ((host (lopsIn .running .run)).lops.get ix).live = true ∧ ((host (lopsIn .idle .run)).lops.get ix).live = false) ∧
    (0xA020 ∈ lopIndexes ∧ mayWrite req 2 (host (lopsIn .running .run)) ∧ mayWrite req 1 (host (lopsIn .running .run)) ∧ mayLog 1 (host (lopsIn .running .run)) ∧
      (host (lopsIn .running .run)).sys.mode ≠ .boot ∧ (host (lopsIn .running .run)).sys.mode ≠ .recovery) ∧
    (∃ s : State, s.dead = false ∧ (s.lops.get 0x4020).state = .suspended ∧ (s.lops.get 0x4020).suspendedAt + 4000 * s.par 0x2040 1 < s.frame.tick) ∧
    ((lopsIn .running .run).dead = false ∧ (lopsIn .running .run).lops.tableLoad.state = .running ∧ (∃ st, (lopsIn .running .run).tableSource = .error st) ∧
      (lopsIn .running .run).lops.logExport.state = .running ∧ chainHolds 0 [entryGood] = true ∧ chainHolds 0 [entryBad] = false) ∧
    (∃ s : State, s.dead = false ∧ s.upd.erasing = true) :=
  ⟨by decide +kernel,
   ⟨by decide, host_mayWrite _ _ (by decide) rfl (by decide +kernel), host_mayWrite _ _ (by decide) rfl (by decide +kernel),
    host_mayLog _ _ (by decide) rfl, by decide +kernel, by decide +kernel⟩,
   ⟨{ lopsIn .suspended .run with frame := { running.frame with tick := 10 ^ 9 } }, by decide +kernel⟩,
   ⟨rfl, rfl, ⟨0x0241, rfl⟩, by decide +kernel⟩, ⟨{ running with upd := { erasing := true } }, rfl, rfl⟩⟩

/-! ### Witnesses: the pair -/

/-- A standby member at a position, its pair interface in service. -/
def standby (pos : Nat) (p : Pair) : State := withPar 0x8010 1 1 { inMode .standby with pair := { p with closed := decide (pos ≠ 0), cablePos := pos } }

theorem witness_FlintLine :
    (running.dead = false ∧ running.pairUp = true ∧ true ≠ false ∧ givesWay running = false) ∧
    (∃ s : State, s.dead = false ∧ s.pairUp = true ∧ s.sys.mode = .boot ∧ s.pair.hold = true ∧ s.pair.position = 2 ∧ s.frame.tick ≤ s.pair.holdStart + 4) ∧
    ((standby 2 { partnerHeld := true }).dead = false ∧ (standby 2 { partnerHeld := true }).pairUp = true ∧
      (standby 2 { partnerHeld := true }).pair.partnerHeld = true ∧ (standby 2 { partnerHeld := true }).sys.mode = .standby ∧
      (standby 2 { partnerHeld := true }).member = true ∧ (standby 2 { partnerHeld := true }).pair.position = 2 ∧
      2 ≤ (standby 2 { partnerHeld := true }).capacity ∧ (standby 2 { partnerHeld := true }).sys.safePend = none ∧
      (standby 2 { partnerHeld := true }).pair.hold = false) ∧
    ((standby 0 {}).pair.position = 0 ∧ (standby 0 {}).pair.partnerHeld = false ∧ running.sys.mode ≠ .standby) ∧
    ((standby 1 { claiming := true }).sys.mode = .standby ∧ (standby 1 { claiming := true }).pair.claiming = true ∧
      (standby 1 { hold := true }).pair.hold = true) ∧
    ((standby 0 {}).pairUp = true ∧ (standby 0 {}).member = true ∧ (1 = 1 ∨ 1 = 2) ∧ 2 ≤ (standby 0 {}).capacity ∧ (standby 0 {}).sys.safePend = none ∧
      (standby 0 {}).pair.hold = false ∧ (standby 0 {}).pair.partnerHeld = false ∧ (standby 0 {}).pair.claiming = false) :=
  ⟨by decide +kernel,
   ⟨{ inMode .boot with pair := { hold := true, closed := true, cablePos := 2, holdStart := 996 } }, by decide +kernel⟩,
   by decide +kernel, by decide +kernel, by decide +kernel, by decide +kernel⟩

theorem witness_PullRailFault : running.dead = false ∧ running.voter.lost = false := by decide +kernel

theorem witness_PullsAndHoldEnds :
    (running.dead = false ∧ running.voter.lost = false ∧ running.sys.mode ≠ .boot ∧ running.sys.mode = .run ∧ running.sys.safePend = none) ∧
    ((standby 1 { pulling := true, partnerHeld := true }).pair.pulling = true ∧ (standby 1 { pulling := true, partnerHeld := true }).pair.partnerHeld = true) ∧
    ((standby 1 { outputHold := some 1000 }).pair.outputHold = some 1000 ∧ 1000 ≤ (standby 1 { outputHold := some 1000 }).frame.tick) ∧
    ((standby 1 { outputHold := some 1001 }).pair.outputHold = some 1001 ∧ (standby 1 { outputHold := some 1001 }).frame.tick < 1001) ∧
    ((standby 1 { contUntil := some 1000 }).pair.contUntil = some 1000 ∧ 1000 ≤ (standby 1 { contUntil := some 1000 }).frame.tick) := by decide +kernel

/-- A record of each type: two paired words of value 5 for OUTPUT and STATUS, sixteen for an identity, one line of ones. -/
def lineOf1 : List Byte := List.replicate 64 1
def record (k : Nat) : PairRec :=
  match k with
  | 1 => { kind := 1, cycle := 7, tick := 900, full := 0, index := 0, payload := (List.replicate 16 (wirePair 5)).flatten }
  | 2 => { kind := 2, cycle := 7, tick := 900, full := 7, index := 0, payload := (List.replicate 16 (wirePair 5)).flatten }
  | 3 => { kind := 3, cycle := 7, tick := 900, full := 7, index := 0, payload := lineOf1 }
  | 4 => { kind := 4, cycle := 7, tick := 900, full := 7, index := 1, payload := toBE 8 (imageCrc 1 [(0, lineOf1)]) }
  | 5 => { kind := 5, cycle := 8, tick := 940, full := 0, index := 2 ^ 31 + 1, payload := wirePair 3 ++ lineOf1 }
  | 6 => { kind := 6, cycle := 8, tick := 940, full := 0, index := 1, payload := zeros 16 }
  | 7 => { kind := 7, cycle := 8, tick := 940, full := 0, index := 0, payload := wirePair 5 ++ wirePair 5 }
  | _ => { kind := 8, cycle := 8, tick := 940, full := 0, index := 0, payload := wirePair 5 ++ wirePair 5 }

set_option maxRecDepth 200000 in
theorem record_good1 : readRecord (writeRecord (record 1)) = some (record 1) := by decide +kernel
set_option maxRecDepth 200000 in
theorem record_good2 : readRecord (writeRecord (record 2)) = some (record 2) := by decide +kernel
set_option maxRecDepth 200000 in
theorem record_good3 : readRecord (writeRecord (record 3)) = some (record 3) := by decide +kernel
set_option maxRecDepth 200000 in
theorem record_good4 : readRecord (writeRecord (record 4)) = some (record 4) := by decide +kernel
set_option maxRecDepth 200000 in
theorem record_good5 : readRecord (writeRecord (record 5)) = some (record 5) := by decide +kernel
set_option maxRecDepth 200000 in
theorem record_good6 : readRecord (writeRecord (record 6)) = some (record 6) := by decide +kernel
set_option maxRecDepth 200000 in
theorem record_good7 : readRecord (writeRecord (record 7)) = some (record 7) := by decide +kernel
set_option maxRecDepth 200000 in
theorem record_good8 : readRecord (writeRecord (record 8)) = some (record 8) := by decide +kernel

/-- The store with an incoming image of one line. -/
def storing : State := standby 2 { linkUp := true, shale := { incoming := some { cycle := 7, stamp := 900, ident := [], count := 1, lines := [(0, lineOf1)] } } }

set_option maxRecDepth 200000 in
theorem witness_PairRecords :
    (storing.dead = false ∧ storing.pairUp = true ∧ storing.member = true ∧ readRecord ((writeRecord (record 7)).set 70 0xFF) = none) ∧
    (∀ k ∈ [1, 2, 3, 4, 5, 6, 7, 8], (record k).kind = k) ∧
    (storing.storing = true ∧ storing.upd.change.state ≠ .ready ∧ storing.comparing = true ∧ storing.lops.checkpoint.live = false) ∧
    (∃ i, storing.pair.shale.incoming = some i ∧ i.cycle % 2 ^ 32 = (record 4).full ∧ (record 4).index = i.count ∧
      beNat (record 4).payload = imageCrc i.count i.lines ∧ beNat (zeros 8) ≠ imageCrc i.count i.lines) ∧
    ((standby 2 {}).pair.linkUp = false ∧
      (∃ s : State, s.dead = false ∧ s.pairUp = true ∧ s.member = true ∧ s.storing = false)) :=
  ⟨by decide +kernel, by decide, by decide +kernel,
   ⟨{ cycle := 7, stamp := 900, ident := [], count := 1, lines := [(0, lineOf1)] }, by decide +kernel⟩, by decide +kernel,
   ⟨withPar 0x8010 1 1 running, by decide +kernel⟩⟩

/-- The state of a vital commit of this tick, and the same module with an image being sent. -/
def snapNow : OwnSnap := { cycle := 3, stamp := 1000, ident := [], vital := {}, sfu := {}, words := [], mem := [], sessions := [] }
def sendingNow : Sending := { snap := snapNow, count := 4 }

theorem witness_FullImageAndLinkDown :
    (∃ s : State, s.dead = false ∧ s.sys.mode = .run ∧ s.pair.latest = some snapNow ∧ snapNow.stamp = s.frame.tick ∧ s.frame.committed = true ∧
      s.fullDue = true ∧ s.pair.sending = none) ∧
    (∃ s : State, s.dead = false ∧ s.sys.mode = .run ∧ s.pair.latest = some snapNow ∧ snapNow.stamp = s.frame.tick ∧ s.frame.committed = true ∧
      s.fullDue = true ∧ s.pair.sending = some sendingNow) ∧
    (∃ s : State, s.dead = false ∧ s.sys.mode = .run ∧ s.pair.latest = some snapNow ∧ snapNow.stamp = s.frame.tick ∧ s.frame.committed = true ∧
      s.fullDue = false) ∧
    (∃ s : State, s.dead = false ∧ s.pair.linkUp = true ∧ s.pair.lastRx + 4 ≤ s.frame.tick ∧ s.lops.checkpoint.live = true) ∧
    (∃ s : State, s.dead = false ∧ s.pair.linkUp = true ∧ s.pair.lastRx + 4 ≤ s.frame.tick ∧ s.lops.checkpoint.live = false) :=
  ⟨⟨{ running with pair := { latest := some snapNow, transferDue := true } }, by decide +kernel⟩,
   ⟨{ running with pair := { latest := some snapNow, transferDue := true, sending := some sendingNow } }, by decide +kernel⟩,
   ⟨{ running with pair := { latest := some snapNow } }, by decide +kernel⟩,
   ⟨{ running with pair := { linkUp := true, lastRx := 996 }, lops := { checkpoint := { state := .running } } }, by decide +kernel⟩,
   ⟨{ running with pair := { linkUp := true, lastRx := 996 } }, by decide +kernel⟩⟩

/-! ### Witnesses: the Efavo link and CAN -/

/-- A schedule of two modes with a CYCLE slot, a polled slot of function 11 for stream 3, and a message slot of it. -/
def plan : Schedule :=
  { version := 1, crc := 2, segment := 1, modes := 2, lcyc := [4, 8, 0, 0, 0, 0, 0, 0], guard := 2000, accept := 500,
    slots := [{ mode := 0, kind := 1, owner := 0, start := 0, length := 20000, respoff := 0, stream := 0xFFFF, size := 128 },
      { mode := 0, kind := 2, owner := 11, start := 100000, length := 50000, respoff := 20000, stream := 3, size := 128 },
      { mode := 0, kind := 4, owner := 11, start := 200000, length := 50000, respoff := 0, stream := 0xFFFF, size := 128 }],
    streams := [{ stream := 3, source := 9, cls := 1, timeout := 100, plen := 8, connkey := 5 }] }

/-- Slot `i` of its mode 0. -/
def slot1 : SlotDef := { mode := 0, kind := 2, owner := 11, start := 100000, length := 50000, respoff := 20000, stream := 3, size := 128 }
def slot2 : SlotDef := { mode := 0, kind := 4, owner := 11, start := 200000, length := 50000, respoff := 0, stream := 0xFFFF, size := 128 }

/-- A node that carries function 11, with all ports up and the link as given. -/
def node (e : Efl) : State := withPar 0x7001 3 11 { running with efl := { e with ports := List.replicate 4 { up := true }, sched := some plan } }

/-- A frame on port 0 at an instant of the link cycle. -/
def heard (rel typ slot : Nat) (body : EfBody) : EfRx :=
  { port := 0, rel := rel, fcsOk := true, lenOk := true, frame := { typ := typ, slot := slot, cycle := 1, body := body } }

/-- A lock state with a run of good offsets. -/
def follower (l : LockState) (run : Nat) : Efl := { lock := l, goodRun := run, address := 0x101 }

theorem witness_EfavoFramesReceived :
    (onLivePort (node (follower .locked 20)) { heard 0 1 0xFFFF (.bytes []) with fcsOk := false } ∧ goodFrame (node (follower .locked 20)) (heard 50 1 0xFFFF (.bytes (zeros 48)))) ∧
    ((readCycle (zeros 48)).key ≠ (node { follower .locked 20 with masterKey := 5 }).efl.masterKey ∧ (node { follower .locked 20 with masterKey := 5 }).efl.inaug = false) ∧
    ((readCycle (zeros 48)).key = (node (follower .locked 20)).efl.masterKey ∧ (node (follower .locked 20)).efl.master = false ∧
      (heard 50 1 0xFFFF (.bytes (zeros 48))).frame.topo = (node (follower .locked 20)).efl.topoCounter ∧
      firstSeen (node (follower .locked 20)) (heard 50 1 0xFFFF (.bytes (zeros 48))) ∧
      ((node (follower .locked 20)).efl.linkNs + (heard 50 1 0xFFFF (.bytes (zeros 48))).rel : Nat) - ((readCycle (zeros 48)).time + 0 + 0) = 50 ∧
      2 * (50 : Int).natAbs ≤ plan.guard ∧ plan.guard < 2 * (1001 : Int).natAbs ∧ (50 : Int).natAbs < 100) ∧
    ((node (follower .unlocked 0)).efl.lock = .unlocked ∧ 15 ≤ (node (follower .locking 15)).efl.goodRun ∧ (node (follower .locking 15)).efl.lock = .locking ∧
      7 ≤ (node (follower .silent 7)).efl.goodRun ∧ (node (follower .silent 7)).efl.lock = .silent) ∧
    (slotAt (node (follower .locked 20)).efl 1 = some slot1 ∧
      (slotChecks (node (follower .locked 20)).eenv (heard 100000 2 1 (.bytes [])) (dueOf slot1 2) { e := (node (follower .locked 20)).efl }).2 = true ∧
      addressed (node (follower .locked 20)).efl 0x101 = true ∧ (node (follower .locked 20)).eenv.functions.contains 11 = true ∧
      (node (follower .locked 20)).efl.polled.contains 1 = false ∧
      (slotChecks (node (follower .locked 20)).eenv (heard 120000 3 1 (.bytes [1])) (dueOf slot1 3) { e := (node (follower .locked 20)).efl }).2 = true ∧
      (node (follower .locked 20)).efl.sched = some plan ∧ ((plan.streamDef 3).map (·.cls)).getD 0 = 1) ∧
    (slotAt (node (follower .locked 20)).efl 2 = some slot2 ∧ slot2.kind ≠ 2 ∧
      (slotChecks (node (follower .locked 20)).eenv (heard 200000 4 2 (.bytes [1])) (dueOf slot2 4) { e := (node (follower .locked 20)).efl }).2 = true ∧
      (∀ p ∈ (node (follower .locked 20)).efl.delivered, p.1 = slot2.owner → p.2 ≤ 1) ∧ addressed (node (follower .locked 20)).efl 0xFFFF = true ∧
      (node (follower .locked 20)).efl.ingress.length < 64) := by
  unfold goodFrame onLivePort firstSeen
  exact ⟨by decide +kernel, by decide +kernel, by decide +kernel, by decide +kernel, by decide +kernel, by decide +kernel⟩

/-- A telegram of stream 3 in a session with a SEQ and a STAMP, and a CAN telegram, each with its safety code. -/
def tele (seq : Nat) : List Byte :=
  let head := toBE 2 3 ++ toBE 2 9 ++ toBE 2 1 ++ toBE 2 8 ++ toBE 4 seq ++ zeros 4 ++ toBE 8 40 ++ zeros 8
  head ++ toBE 4 (crc32c (toBE 8 5 ++ head))
def stream3 : StreamDef := { stream := 3, source := 9, cls := 1, timeout := 100, plen := 8, connkey := 5 }
def canTele (seq : Nat) : List Byte :=
  let head := toBE 2 9 ++ toBE 2 1 ++ toBE 4 seq ++ toBE 4 40 ++ zeros 8
  head ++ toBE 4 (crc32c (toBE 8 5 ++ toBE 2 3 ++ head))
def canStream3 : CanStream := { stream := 3, source := 9, cls := 1, ctrl := 0, transmit := false, timeout := 100, plen := 8, period := 4, connkey := 5 }
def slotOf (seq : Nat) : RxStream := { stream := 3, accepted := true, session := 1, seq := seq }

set_option maxRecDepth 100000 in
theorem witness_TelegramChecks :
    (beAt 2 2 (tele 7) = stream3.source ∧ beAt 6 2 (tele 7) = stream3.plen ∧ beAt 12 4 (tele 7) = 0 ∧
      beAt (24 + 8) 4 (tele 7) = crc32c (toBE 8 stream3.connkey ++ slice 0 (24 + 8) (tele 7)) ∧ beAt 16 8 (tele 7) = 40 ∧ (40 ≤ 139 ∧ 139 - 40 < stream3.timeout) ∧
      (39 < 40 ∧ stream3.timeout ≤ 140 - 40) ∧ beAt 4 2 (tele 7) = (slotOf 6).session ∧ (slotOf 6).accepted = true ∧ ({ stream := 3 } : RxStream).accepted = false) ∧
    ((beAt 8 4 (tele 7) + 2 ^ 32 - (slotOf 7).seq) % 2 ^ 32 = 0 ∧ (beAt 8 4 (tele 7) + 2 ^ 32 - (slotOf 6).seq) % 2 ^ 32 = 1 ∧
      (beAt 8 4 (tele 7) + 2 ^ 32 - (slotOf 5).seq) % 2 ^ 32 = 2 ∧ beAt (24 + 8) 4 (zeros 36) ≠ crc32c (toBE 8 5 ++ slice 0 (24 + 8) (zeros 36))) ∧
    (beAt 0 2 (canTele 7) = canStream3.source ∧ (canTele 7).length = 16 + canStream3.plen ∧
      beAt (12 + 8) 4 (canTele 7) = crc32c (toBE 8 canStream3.connkey ++ toBE 2 canStream3.stream ++ slice 0 (12 + 8) (canTele 7)) ∧
      (139 + 2 ^ 32 - beAt 8 4 (canTele 7)) % 2 ^ 32 < canStream3.timeout ∧ canStream3.timeout ≤ (140 + 2 ^ 32 - beAt 8 4 (canTele 7)) % 2 ^ 32 ∧
      (beAt 4 4 (canTele 7) + 2 ^ 32 - (slotOf 5).seq) % 2 ^ 32 = 2 ∧
      beAt (12 + 8) 4 (zeros 24) ≠ crc32c (toBE 8 5 ++ toBE 2 3 ++ slice 0 (12 + 8) (zeros 24))) := by decide +kernel

/-- A master with node 2 of a published topology carrying function 12. -/
def topo2 : Topology :=
  { counter := 0, segment := 1, masterKey := 0, nodes := [{ uniqueId := 77, number := 2, position := 2, residence := 0, functions := [11], hopA := 0, hopB := 0 }] }
def chief : Efl := { lock := .locked, address := 0x101, master := true, topo := some topo2 }
def letter : NvFrame := { prio := 3, source := 11, data := [1], dst := 0xFFFF }

theorem witness_EfavoFramesSent :
    ((node chief).dead = false ∧ (node chief).commsUp = true ∧ (node chief).efl.master = true ∧ (node chief).efl.inaug = false ∧ (node chief).efl.sched ≠ none ∧
      (node chief).efl.address ≠ 0 ∧ -guardWindow (node chief) ≤ -500 ∧ (500 : Int) < guardWindow (node chief) + 1 ∧ (-501 : Int) < -guardWindow (node chief) ∧
      guardWindow (node chief) + 1 ≤ 501 ∧ livePorts (node chief).efl 1 ≠ []) ∧
    (slotAt (node chief).efl 1 = some slot1 ∧ slotTraffic (node chief).eenv (node chief).efl = true ∧ ownerAddress (node chief).efl 11 = some 0x102 ∧
      0x102 ≠ (node chief).efl.address) ∧
    (slotTraffic (node { chief with master := false, polled := [1] }).eenv (node { chief with master := false, polled := [1] }).efl = true ∧
      (node { chief with master := false, polled := [1] }).eenv.functions.contains 11 = true ∧
      (node { chief with master := false, polled := [1] }).efl.polled.contains 1 = true ∧ (node chief).efl.polled.contains 1 = false) ∧
    (slotAt (node chief).efl 2 = some slot2 ∧ slot2.kind = 4 ∧
      (node { chief with egress := [letter] }).efl.egress.find? (fun f => f.prio == highestPrio (node { chief with egress := [letter] }).efl.egress) = some letter) := by
  unfold guardWindow; decide +kernel

/-- The same node in an inauguration, in a phase. -/
def claiming (p : ClaimPhase) (lowest : Nat) : Efl := { inaug := true, phase := p, lowest := some lowest, phaseEnd := 1000 }

/-- A report of a node. -/
def report5 : TopoReport := { uniqueId := 5, line := 0, side := 0, hops := 1, residence := 0, functions := [], counter := 0, schedCrc := 0 }

theorem witness_InaugurationFrames :
    goodFrame (node (claiming .window 9)) (heard 0 5 0xFFFF .delayReq) ∧
    (∃ (s : State) (rx : EfRx), goodFrame s rx ∧ rx.frame.body = .delayResp 500 600 ∧ (nth {} rx.port s.efl.ports).sentAt = some 100 ∧
      (nth {} rx.port s.efl.ports).delay = 200 ∧ hopDelay 100 500 600 (s.efl.linkNs + rx.rel) = 220) ∧
    (∃ (s : State) (rx : EfRx), goodFrame s rx ∧ rx.frame.body = .delayResp 500 600 ∧ (nth {} rx.port s.efl.ports).sentAt = some 100 ∧
      (nth {} rx.port s.efl.ports).delay = 200 ∧ hopDelay 100 500 600 (s.efl.linkNs + rx.rel) = 221 ∧ (nth {} rx.port s.efl.ports).candidate = none) ∧
    ((node {}).efl.inaug = false ∧ (node (claiming .window 9)).efl.inaug = true ∧ (node (claiming .window 9)).efl.lowest = some 9 ∧
      (node (claiming .window 9)).efl.phase = .window ∧
      (node (claiming .window 9)).efl.linkNs + 999 < (node (claiming .window 9)).efl.phaseEnd ∧ (node (claiming .window 9)).efl.backoffs < 4) ∧
    ((withPar 0x7001 1 0 (node (claiming .window 9))).eenv.candidate = true ∧ (withPar 0x7001 1 0 (node (claiming .window 9))).eenv.key < 9 ∧
      5 < (withPar 0x7001 1 1 (node (claiming .window 9))).eenv.key) ∧
    ((heard 0 8 0xFFFF (.topoReq 1 2)).frame.body = .topoReq 1 2 ∧ (node (claiming .window 9)).efl.master = false ∧
      (heard 0 9 0xFFFF (.topoResp report5)).frame.body = .topoResp report5 ∧
      (node { claiming .collecting 9 with master := true }).efl.master = true ∧
      (node { claiming .collecting 9 with master := true }).efl.reports.any (fun x => x.uniqueId == 5 && x.line == 0) = false ∧
      (node { claiming .collecting 9 with master := true, reports := [report5] }).efl.reports.any (fun x => x.uniqueId == 5 && x.line == 0) = true ∧
      (heard 0 10 0xFFFF (.topo topo2)).frame.body = .topo topo2) := by
  unfold goodFrame onLivePort
  exact ⟨by decide +kernel,
    ⟨{ node {} with efl := { (node {}).efl with ports := { up := true, sentAt := some 100, delay := 200 } :: List.replicate 3 { up := true } } },
     heard 640 6 0xFFFF (.delayResp 500 600), by decide +kernel⟩,
    ⟨{ node {} with efl := { (node {}).efl with ports := { up := true, sentAt := some 100, delay := 200 } :: List.replicate 3 { up := true } } },
     heard 641 6 0xFFFF (.delayResp 500 600), by decide +kernel⟩,
    by decide +kernel, by decide +kernel, by decide +kernel⟩

/-- The same with an own priority, so that the node is a candidate. -/
def rival (e : Efl) : State := withPar 0x7001 1 3 (node e)

theorem witness_InaugurationSteps :
    ((node {}).dead = false ∧ (node {}).efl.ports.length = 4 ∧ 3 < 4 ∧ (nth {} 3 (node {}).efl.ports).up ≠ false ∧ (nth {} 3 (node {}).efl.ports).retired = false ∧
      commsRun (node {}).sys.mode = true ∧ (node {}).commsUp = true) ∧
    (∃ s : State, s.efl.overload = true ∧ s.efl.lastDrop + 4000 ≤ s.frame.tick) ∧
    ((rival {}).eenv.candidate = true ∧ (node { topo := some topo2 }).efl.inaug = false ∧ (node { topo := some topo2 }).efl.topo ≠ none ∧
      0 < cycleNs (node { topo := some topo2 }).efl ∧ (node { topo := some topo2 }).efl.lastGood + 3 * cycleNs (node { topo := some topo2 }).efl ≤ 3000000) ∧
    ((node (claiming .waiting 9)).efl.phase = .waiting ∧ (node (claiming .backoff 9)).efl.phase = .backoff ∧ (node (claiming .window 9)).efl.phaseEnd ≤ 1000 ∧
      (rival (claiming .window (rival {}).eenv.key)).efl.lowest = some (rival (claiming .window (rival {}).eenv.key)).eenv.key ∧
      (rival (claiming .window 9)).efl.lowest ≠ some (rival (claiming .window 9)).eenv.key) ∧
    ((node { claiming .waiting 9 with hopsA := some (1, 2) }).efl.hopsA = some (1, 2) ∧ livePorts (node { claiming .waiting 9 with hopsA := some (1, 2) }).efl 0 ≠ [] ∧
      (node { claiming .collecting 9 with master := true }).efl.master = true ∧ (node { claiming .collecting 9 with master := true }).efl.phase = .collecting ∧
      portLive (nth {} 3 (node (claiming .waiting 9)).efl.ports) = true) ∧
    ((node { lock := .silent, lockRetry := some (0, 10) }).efl.lockRetry = some (0, 10) ∧ (node { lock := .silent, lockRetry := some (0, 10) }).efl.lock = .silent ∧
      0 + 100 ≤ cycleAt (node { lock := .silent, lockRetry := some (0, 10) }).efl 100000000) :=
  ⟨by decide +kernel, ⟨{ node {} with efl := { overload := true }, frame := { running.frame with tick := 4000 } }, by decide +kernel⟩, by decide +kernel,
   by decide +kernel, by decide +kernel, by decide +kernel⟩

/-- A transmit object 5 of controller 1, with and without a pending request. -/
def canTx : State := withPar 0x7D05 1 1 running
def canAsked : State :=
  { canTx with can := { canTx.can with ctls := {} :: { objs := [(5, { request := some [1] })] } :: List.replicate 2 {} } }

theorem witness_NetworkCommands :
    (mayWrite req 1 (host (node {})) ∧ (host (node {})).sys.mode ≠ .boot ∧ (host (node {})).sys.mode ≠ .recovery ∧ (host (node {})).efl.inaug = false ∧
      (host (node {})).efl.sched = some plan ∧ 7 < 8 ∧ 2 ≤ 7 ∧ plan.defines 2 = false ∧ plan.defines 1 = true ∧ (host (node {})).efl.master = false) ∧
    (mayWrite req 1 (host (node (claiming .waiting 9))) ∧ (host (node (claiming .waiting 9))).efl.inaug = true) ∧
    (mayWrite req 1 (host (node chief)) ∧ (host (node chief)).efl.master = true ∧ (host (node chief)).efl.inaug = false ∧
      (host (node chief)).efl.swState ≠ .announced ∧ (host (node chief)).efl.swState ≠ .confirmed ∧ 1 ≠ (host (node chief)).efl.mode ∧
      plan.defines 0 = true ∧ 0 = (host (node chief)).efl.mode) ∧
    (mayWrite req 1 (host canAsked) ∧ ((host canAsked).cenv.objCfg 1 5).dir = 1 ∧ (spGet {} 5 (nth {} 1 (host canAsked).can.ctls).objs).request ≠ none) ∧
    (mayWrite req 1 (host canTx) ∧ ((host canTx).cenv.objCfg 1 5).dir = 1 ∧ (spGet {} 5 (nth {} 1 (host canTx).can.ctls).objs).request = none ∧
      ((host canTx).cenv.objCfg 1 6).dir ≠ 1) :=
  ⟨⟨host_mayWrite _ _ (by decide) rfl (by decide +kernel), by decide +kernel⟩, ⟨host_mayWrite _ _ (by decide) rfl (by decide +kernel), by decide +kernel⟩,
   ⟨host_mayWrite _ _ (by decide) rfl (by decide +kernel), by decide +kernel⟩, ⟨host_mayWrite _ _ (by decide) rfl (by decide +kernel), by decide +kernel⟩,
   ⟨host_mayWrite _ _ (by decide) rfl (by decide +kernel), by decide +kernel⟩⟩

/-- Controller 0 in a state, with rule 0 (0x100 to 0x10F into object 5, two bytes, bound to stream 3) and rule 1 (0x200 rejected). -/
def bus (x : CanCtl) : State :=
  let s := withPar 0x7900 1 1 (withPar 0x7900 4 5 (withPar 0x7900 5 0x100 (withPar 0x7900 6 0x10F (withPar 0x7901 1 2 (withPar 0x7901 3 1
    (withPar 0x7901 5 0x200 (withPar 0x7C05 1 2 (withPar 0x7C05 4 2 (withPar 0x7C05 5 3 running)))))))))
  { s with can := { ctls := x :: List.replicate 3 {}, defs := [canStream3], rx := [{ stream := 3 }] } }

/-- A frame of an identifier. -/
def msg (id n : Nat) : CanFrame := { id := id, data := List.replicate n 1 }

/-- A controller with a request in object 6, cancelled or not. -/
def asked (c : Bool) : CanCtl :=
  { state := .active, objs := [(5, { seen := false }), (6, { request := some [1, 2], cancelling := c, byWrite := c })], dictQ := [[3]] }

theorem witness_CanFrameEffects :
    (canLive (bus (asked false)) 0 ∧ (canCtl (bus (asked false)) 0).state.up = true ∧
      acceptFrame ((bus (asked false)).cenv.rules 0) (msg 0x10F 2) = some 5 ∧ (canObj (bus (asked false)) 0 5).retired = false ∧
      fitsObj (bus (asked false)) 0 5 (msg 0x10F 2) ∧ (canObj (bus (asked false)) 0 5).seen = false ∧
      (bus (asked false)).can.defs.find? (fun d => d.stream == ((bus (asked false)).cenv.objCfg 0 5).binding && !d.transmit) = some canStream3 ∧
      (bus (asked false)).can.rx.find? (fun y => y.stream == canStream3.stream) = some { stream := 3 } ∧ ¬ fitsObj (bus (asked false)) 0 5 (msg 0x10F 3)) ∧
    (acceptFrame ((bus { state := .active, objs := [(5, { retired := true })] }).cenv.rules 0) (msg 0x100 2) = some 5 ∧
      (canObj (bus { state := .active, objs := [(5, { retired := true })] }) 0 5).retired = true) ∧
    (acceptFrame ((bus (asked false)).cenv.rules 0) (msg 0x200 2) = none ∧ anyRule ((bus (asked false)).cenv.rules 0) (msg 0x200 2) = true ∧
      acceptFrame ((bus (asked false)).cenv.rules 0) (msg 0x110 2) = none ∧ anyRule ((bus (asked false)).cenv.rules 0) (msg 0x110 2) = false) ∧
    ((canCtl (bus (asked true)) 0).state.sends = true ∧ (canObj (bus (asked true)) 0 6).request = some [1, 2] ∧ (canObj (bus (asked true)) 0 6).byWrite = true ∧
      (canObj (bus (asked true)) 0 6).cancelling = true ∧ (canObj (bus (asked true)) 0 6).next = none ∧ (canObj (bus (asked false)) 0 6).cancelling = false ∧
      (canCtl (bus (asked false)) 0).dictQ = [[3]]) ∧
    (∃ s : State, (s.cenv.objCfgs 0).find? (fun o => o.dir == 1 && o.binding == 0xFFFE) = some (s.cenv.objCfg 0 6)) := by
  unfold canLive fitsObj
  exact ⟨by decide +kernel, by decide +kernel, by decide +kernel, by decide +kernel,
    withPar 0x7C06 1 1 (withPar 0x7C06 5 0xFFFE (bus (asked false))), by decide +kernel⟩

/-- A controller that keeps network time, follower or master. -/
def timed (master synced stepped : Bool) : CanCtl :=
  { state := .active, role := 2, index := 3, keeps := true, master := master, masterIdx := some 1, synced := synced, stepped := stepped, goodRun := 3, lastRef := 0,
    refLatch := some (7, 5000), netNs := 900000 }

/-- The same at a tick. -/
def later (x : CanCtl) : State := { bus x with frame := { running.frame with tick := 100000 } }

theorem witness_CanFaultsAndTime :
    (canLive (later { state := .active }) 0 ∧ (canCtl (later { state := .active }) 0).state = .active ∧ (canCtl (later { state := .active }) 0).state.sends = true ∧
      (canCtl (later { state := .active }) 0).busOffRetry = none) ∧
    ((canCtl (later { state := .active, busOffRetry := some (9, none, false) }) 0).busOffRetry = some (9, none, false) ∧
      (canCtl (later { state := .passive, busOffRetry := some (9, none, true) }) 0).busOffRetry = some (9, none, true) ∧
      (canCtl (later { state := .passive, busOffRetry := some (9, none, true) }) 0).state.sends = true ∧
      (lastN ((later {}).par 0x7810 1) ([] ++ [9])).length < (later {}).par 0x7810 1) ∧
    ((canCtl (later { state := .busOff }) 0).state = .busOff) ∧
    ((canCtl (later { state := .active, passiveRetry := some 9 }) 0).passiveRetry = some 9 ∧
      (canCtl (later { state := .active, passiveRetry := some 9 }) 0).busOffRetry = none ∧ 9 + 4000 ≤ (later {}).frame.tick ∧
      (later {}).par 0x7810 1 ≤ (lastN ((later {}).par 0x7810 1) (List.replicate 15 8 ++ [9])).length ∧
      9 - (lastN ((later {}).par 0x7810 1) (List.replicate 15 8 ++ [9])).headD 9 < (later {}).par 0x7810 2 * 4000 ∧
      (canCtl (later { state := .passive, passiveRetry := some 9 }) 0).state = .passive) ∧
    ((canCtl (later (timed true false false)) 0).master = true ∧ masterMode (later {}).sys.mode = true ∧
      (canCtl (later (timed true false false)) 0).lastSent + (later {}).par 0x7830 4 ≤ (later {}).frame.tick ∧
      (canCtl (later (timed true false false)) 0).refLatch = some (7, 5000) ∧ 2 < (canCtl (later (timed true false false)) 0).index ∧
      (canCtl (later (timed true false false)) 0).index ≤ 3 ∧ (canCtl (later (timed true false false)) 0).state.up = true) ∧
    ((canCtl (later (timed false true true)) 0).role = 2 ∧ (canCtl (later (timed false true true)) 0).keeps = true ∧
      (canCtl (later (timed false true true)) 0).master = false ∧
      (canCtl (later (timed false true true)) 0).lastRef + (3 + (canCtl (later (timed false true true)) 0).index) * (later {}).par 0x7830 4 ≤ (later {}).frame.tick ∧
      (canCtl (later (timed false true true)) 0).lastOffset + 3 * (later {}).par 0x7830 4 ≤ (later {}).frame.tick ∧
      (canCtl (later (timed false true true)) 0).masterIdx = some 1 ∧ (canCtl (later (timed false true true)) 0).masterIdx ≠ some 2 ∧ (7 + 1) % 256 = 8 ∧ (7 + 1) % 256 ≠ 9 ∧
      (canCtl (later (timed false true true)) 0).synced = true ∧ (canCtl (later (timed false false true)) 0).synced = false ∧
      (canCtl (later (timed false false true)) 0).stepped = true ∧ (canCtl (later (timed false false false)) 0).stepped = false ∧
      3 ≤ (canCtl (later (timed false false true)) 0).goodRun ∧ ((5000 : Int) - ((5000 / 2 ^ 48 * 2 ^ 48 + 3001 % 2 ^ 48 : Nat) : Int)).natAbs < 2000 ∧
      10000 < ((5000 : Int) - ((5000 / 2 ^ 48 * 2 ^ 48 + 15001 % 2 ^ 48 : Nat) : Int)).natAbs) := by
  unfold canLive
  exact ⟨by decide +kernel, by decide +kernel, by decide +kernel, by decide +kernel, by decide +kernel, by decide +kernel⟩

/-! ### Witnesses: the dictionary -/

/-- `s` with an open session of level 0 in slot 0, whose tag is zero bytes, and segments of a DOMAIN write received so far. -/
def guestSes (g : Option Segments) : Session := { ses with level := 0, segments := g }
def guest (g : Option Segments) (s : State) : State := { s with dict := { s.dict with sessions := guestSes g :: List.replicate 7 {} } }

/-- A sound frame of an operation. -/
def frame (op session : Nat) (body : List Byte) : DictFrame :=
  { carrier := .eth0, magic := 0xD1C7, version := 1, op := op, session := session, seq := 8, status := 0, len := body.length, body := body,
    tag := zeros 16, crc := crc32c (frameHead 1 op session 8 0 body.length body ++ zeros 16) }

/-- Bodies: a READ, and a WRITE of a type at an offset with FLAGS. -/
def readOf (index sub : Nat) : List Byte := toBE 2 index ++ toBE 1 sub ++ zeros 1 ++ zeros 4 ++ toBE 2 64
def writeOf (index sub typ offset flags : Nat) (data : List Byte) : List Byte :=
  toBE 2 index ++ toBE 1 sub ++ toBE 1 typ ++ toBE 4 offset ++ toBE 1 flags ++ zeros 3 ++ data

/-- The queue of requests full. -/
def fullQueue : State :=
  { running with dict := { running.dict with staged := List.replicate 32 { req := req, index := 0x2031, sub := 1, typ := 2, offset := 0, data := [1] } } }

/-- The last segment on CAN of a PING in 37 bytes, and the reassembly before it. -/
def pingBytes : List Byte :=
  let head := frameHead 1 6 17 8 0 0 []
  head ++ zeros 16 ++ toBE 4 (crc32c (head ++ zeros 16))
def lastSegment : List Byte := toBE 1 (64 + 1) ++ pingBytes.drop 20 ++ zeros (63 - 16)
def assembling : State := { running with dict := { running.dict with reassembly := [(2, { next := 1, data := pingBytes.take 20 })] } }

set_option maxRecDepth 100000 in
theorem witness_DictionaryFrames :
    (running.dead = false ∧ running.serverUp .eth0 = true ∧ ({ frame 1 0 [] with version := 2 }).sound = false ∧ (frame 6 17 []).sound = true ∧
      (frame 6 17 []).session ≠ 0 ∧ findSlot 17 (guest none running).dict = some 0 ∧
      ({ frame 6 17 [] with tag := List.replicate 16 1 }).tag ≠ tagFor (some ((guest none running).session 0)) (headOf (frame 6 17 [])) ∧
      ({ frame 6 17 [] with tag := List.replicate 16 1, crc := crc32c (frameHead 1 6 17 8 0 0 [] ++ List.replicate 16 1) }).sound = true) ∧
    (noSession running (frame 1 0 (readOf 0x2000 1)) 1 ∧ inSession (guest none running) (frame 1 17 (readOf 0x2000 1)) 1 0 (guestSes none) ∧
      (readOf 0x2000 1).length = 10 ∧ beAt 3 1 (readOf 0x2000 1) = 0 ∧ (entryInfo running.atLatch 0x2000 1).any (fun e => e.right.readable) = true ∧
      (entryInfo running.atLatch 0x1210 1).any (fun e => !e.right.readable) = true ∧ (entryInfo running.atLatch 0xFFFF 1).isNone = true ∧
      served running.sys.mode 0x2000 1 = true ∧ noSession running (frame 1 0 []) 1) ∧
    (inSession (guest none running) (frame 2 17 (writeOf 0x2031 1 2 0 1 [5])) 2 0 (guestSes none) ∧ 12 ≤ (writeOf 0x2031 1 2 0 1 [5]).length ∧
      beAt 8 1 (writeOf 0x2031 1 2 0 1 [5]) = 1 ∧ beAt 9 3 (writeOf 0x2031 1 2 0 1 [5]) = 0 ∧ (guest none running).dict.staged.length < 32 ∧
      inSession (guest none fullQueue) (frame 2 17 (writeOf 0x2031 1 2 0 1 [5])) 2 0 (guestSes none) ∧ 32 ≤ (guest none fullQueue).dict.staged.length) ∧
    (inSession (guest (some { index := 0x1100, sub := 2, data := [7] }) running) (frame 2 17 (writeOf 0x1100 2 12 1 0 [5])) 2 0
        (guestSes (some { index := 0x1100, sub := 2, data := [7] })) ∧ beAt 4 4 (writeOf 0x1100 2 12 1 0 [5]) = [(7 : Byte)].length ∧
      beAt 8 1 (writeOf 0x1100 2 12 1 0 [5]) % 2 = 0 ∧ beAt 3 1 (writeOf 0x1100 2 12 1 0 [5]) = 0x0C ∧ (guestSes none).segments = none) ∧
    (inSession (guest none running) (frame 6 17 []) 6 0 (guestSes none) ∧ inSession (guest none running) (frame 0x11 17 (zeros 32)) 0x11 0 (guestSes none) ∧
      (zeros 32).length = 32 ∧ 0x20 ∉ [1, 2, 3, 4, 5, 6, 0x11] ∧ noSession running (frame 0x20 0 []) 0x20 ∧
      inSession (guest none running) (frame 0x20 17 []) 0x20 0 (guestSes none)) ∧
    (assembling.dead = false ∧ assembling.serverUp .can = true ∧ lastSegment.length = 64 ∧ beAt 0 1 lastSegment < 128 ∧ (beAt 0 1 lastSegment).testBit 6 = true ∧
      assembling.dict.reassembly.lookup 2 = some { next := 1, data := pingBytes.take 20 } ∧ beAt 0 1 lastSegment % 64 = 1 % 64 ∧
      (∃ g, readDictFrame .can 2 (pingBytes.take 20 ++ lastSegment.drop 1) = some g ∧ g.op = 6) ∧ beAt 0 1 (toBE 1 128 ++ zeros 63) % 128 = 0 ∧ 2 % 64 ≠ 1 % 64) := by
  unfold noSession inSession takesUp
  exact ⟨by decide +kernel, by decide +kernel, by decide +kernel, by decide +kernel, by decide +kernel,
    rfl, by decide +kernel, by decide +kernel, by decide +kernel, by decide +kernel, by decide +kernel, by decide +kernel, ⟨_, rfl, by decide +kernel⟩,
    by decide +kernel, by decide⟩

/-- Bodies of OPEN and PROVE; a session that waits for PROVE, of level 1. -/
def openOf (level : Nat) : List Byte := toBE 1 level ++ zeros 3 ++ List.replicate 16 9
def proving : Session := { ses with phase := .proving, level := 1, hostNonce := zeros 16, modNonce := List.replicate 16 3 }
def login (d : Dict) : State := { running with dict := { d with sessions := proving :: List.replicate 7 {}, maintainer := some { salt := zeros 16, key := zeros 32 } } }
def proof : List Byte := hmac256 (zeros 32) (List.replicate 16 3 ++ zeros 16 ++ toBE 1 1 ++ toBE 4 17)

/-- Every slot free, the engineer's password set. -/
def vacant : State := { running with dict := { running.dict with engineer := some { salt := zeros 16, key := zeros 32 } } }

/-- A session with a notification waiting, sent last at a tick. -/
def note : Notice := { event := 40, count := 1, tick := 900 }
def noted40 (sent : List (Nat × Nat)) : State :=
  { running with dict := { running.dict with sessions := { ses with queue := [note], lastSent := sent } :: List.replicate 7 {} } }

set_option maxRecDepth 100000 in
theorem witness_SessionRequestsAndExpiries :
    (noSession vacant (frame 3 0 (openOf 2)) 3 ∧ (openOf 2).length = 20 ∧ beAt 0 1 (openOf 2) = 2 ∧ slice 1 3 (openOf 2) = zeros 3 ∧
      carrierPermits vacant 2 .eth0 = true ∧ (indices (fun (x : Session) => x.phase == .free) vacant.dict.sessions).head? = some 0 ∧
      lockedOut vacant .eth0 = false ∧ passwordSet 2 vacant.dict = true ∧ (∀ x ∈ vacant.dict.sessions, x.phase ≠ .free → x.level ≠ 2) ∧
      noSession vacant (frame 3 0 (openOf 0)) 3 ∧ carrierPermits vacant 0 .eth0 = true ∧ noSession running (frame 3 0 (openOf 2)) 3 ∧
      carrierPermits running 2 .eth0 = true ∧ lockedOut running .eth0 = false ∧ passwordSet 2 running.dict = false) ∧
    (∃ s : State, noSession s (frame 3 0 (openOf 0)) 3 ∧ ∀ x ∈ s.dict.sessions, x.phase ≠ .free) ∧
    (∃ s : State, noSession s (frame 3 0 (openOf 1)) 3 ∧ lockedOut s .eth0 = true) ∧
    ((login running.dict).dead = false ∧ (login running.dict).serverUp .eth0 = true ∧ (frame 4 17 proof).sound = true ∧ findSlot 17 (login running.dict).dict = some 0 ∧
      (login running.dict).session 0 = proving ∧ proving.phase = .proving ∧ (frame 4 17 proof).seq = add32 proving.lastSeq 1 ∧ proof.length = 32 ∧ zeros 32 ≠ proof ∧
      (frame 4 17 (zeros 32)).sound = true) ∧
    (∃ s : State, s.dict.proofFails.lookup 0 = some [900, 950] ∧ s.frame.tick - 900 < 240000) ∧
    (inSession (guest none running) (frame 5 17 []) 5 0 (guestSes none)) ∧
    (∃ s : State, (s.session 0).phase ≠ .free ∧ (s.session 0).lastUsed + s.par 0x1200 2 * 4000 ≤ s.frame.tick) ∧
    (((guest none running).session 0).phase ≠ .free ∧ running.frame.tick < ((guest none running).session 0).lastUsed + running.par 0x1200 2 * 4000) ∧
    (∃ s : State, s.dict.lockedUntil.lookup 0 = some 1000 ∧ 1000 ≤ s.frame.tick) ∧ (∃ s : State, s.dict.lockedUntil.lookup 0 = some 1001 ∧ s.frame.tick < 1001) ∧
    (((noted40 [(40, 600)]).session 0).queue.find? (fun y => y.event == 40) = some note ∧ ((noted40 [(40, 600)]).session 0).phase = .opened ∧
      (noted40 [(40, 600)]).serverUp ((noted40 [(40, 600)]).session 0).carrier = true ∧ ((noted40 [(40, 600)]).session 0).lastSent.lookup 40 = some 600 ∧
      600 + 400 ≤ running.frame.tick ∧ running.frame.tick < 601 + 400 ∧ ((noted40 [(40, 601)]).session 0).lastSent.lookup 40 = some 601) ∧
    (running.pwr.lost.testBit 5 = false ∧ 0xC0A80A02 = nth 0 0 running.dict.eth ∧ 0xC0A80A03 ≠ nth 0 0 running.dict.eth) := by
  unfold noSession inSession takesUp
  exact ⟨by decide +kernel,
    ⟨{ running with dict := { running.dict with sessions := List.replicate 8 ses } }, by decide +kernel⟩,
    ⟨{ running with dict := { running.dict with lockedUntil := [(0, 5000)] } }, by decide +kernel⟩, by decide +kernel,
    ⟨{ running with dict := { running.dict with proofFails := [(0, [900, 950])] } }, by decide +kernel⟩, by decide +kernel,
    ⟨{ guest none running with frame := { running.frame with tick := 10 ^ 9 } }, by decide +kernel⟩, by decide +kernel,
    ⟨{ running with dict := { running.dict with lockedUntil := [(0, 1000)] } }, by decide +kernel⟩,
    ⟨{ running with dict := { running.dict with lockedUntil := [(0, 1001)] } }, by decide +kernel⟩, by decide +kernel, by decide +kernel⟩

/-! ### Witnesses: parameters, images, activation -/

/-- A module in CONFIGURE with one WRITE of a parameter waiting for the latch, and one that a console session of level 2 speaks to. -/
def stagedWrite : Staged := { req := req, index := 0x1200, sub := 2, typ := 3, offset := 0, data := [0, 30] }
def waitingWrite : State :=
  let s := host (inMode .configure)
  { s with dict := { s.dict with staged := [stagedWrite] } }
def conReq : Req := { req with carrier := .console }
def atConsole (s : State) : State :=
  { host s with dict := { (host s).dict with sessions := { ses with carrier := .console } :: List.replicate 7 {} } }

theorem atConsole_mayWrite (s : State) (n : Nat) (hn : n ≤ 2) (h0 : s.dead = false) (h1 : s.serverUp .console = true) :
    mayWrite conReq n (atConsole s) :=
  ⟨{ ses with carrier := .console }, ⟨h0, h1, by decide, by
      simp [State.sessionOf, atConsole, host, findSlot, indices, conReq, req, ses, State.session, nth]; decide, rfl, rfl, by decide, by decide⟩, hn, by
    match n, hn with
    | 0, _ => rfl
    | 1, _ => rfl
    | 2, _ => rfl⟩

/-- A set whose CRC is wrong, one that is too short, and an export that is Done at entry 5. -/
def badSet : List Byte := zeros 19 ++ [1]
def exported : State :=
  { running with dict := { running.dict with exportLast := 5 }, lops := { running.lops with logExport := { running.lops.logExport with state := .done } } }

set_option maxRecDepth 100000 in
theorem witness_ParameterRequests :
    (waitingWrite.dict.staged = [stagedWrite] ∧ spWf parUnset waitingWrite.params = true ∧
      (∃ d, parDef 0x1200 2 = some d ∧ stagedWrite.typ = d.typ.code ∧ d.typ.size = some stagedWrite.data.length ∧ d.range.has 30 = true ∧
        parMode 0x1200 d waitingWrite = [0, 0, 0]) ∧ 30 = beNat stagedWrite.data ∧
      parSpecial 0x1200 2 30 { waitingWrite with params := parPut waitingWrite.params 0x1200 2 30 } = 0 ∧
      served waitingWrite.sys.mode 0x1200 2 = true ∧ waitingWrite.sys.mode ≠ .recovery ∧ stagedWrite.req.session ≠ 0 ∧
      waitingWrite.sessionOf stagedWrite.req.session = some ses ∧ ses.phase = .opened ∧ 2 ≤ ses.level ∧ passwordSet 2 waitingWrite.dict = true ∧
      mayLog 1 waitingWrite) ∧
    (mayWrite req 2 (host (inMode .configure)) ∧ mayLog 1 (host (inMode .configure)) ∧ (host (inMode .configure)).sys.mode = .configure ∧
      20 ≤ badSet.length ∧ crc32c (badSet.take (badSet.length - 4)) ≠ beAt (badSet.length - 4) 4 badSet ∧ spWf parUnset (host (inMode .configure)).params = true) ∧
    (mayWrite conReq 2 (atConsole (inMode .configure)) ∧ mayLog 1 (atConsole (inMode .configure)) ∧ conReq.carrier = .console ∧ (zeros 32).length = 32 ∧
      (∀ x ∈ (atConsole (inMode .configure)).upd.usedSlots, ∀ h, x.header = some h → h.keySet = 3 → h.keySlot ≠ 4 - 1)) ∧
    (mayWrite req 2 (host running) ∧ mayLog 1 (host running) ∧ (host running).sys.mode ≠ .configure ∧ (judgeSet badSet (host running)).1 = 0x0603) ∧
    (mayWrite conReq 2 (atConsole running) ∧ mayLog 1 (atConsole running) ∧ (List.replicate 8 (0x21 : Byte)).length = 8 ∧
      (∀ b ∈ List.replicate 8 (0x21 : Byte), 0x21 ≤ b ∧ b ≤ (0x7E : Byte)) ∧ req.carrier ≠ .console) ∧
    (mayWrite req 1 (host running) ∧ (host running).sys.mode ≠ .boot ∧ (host running).sys.mode ≠ .recovery ∧ plainCarrier req.carrier) ∧
    (mayWrite req 1 (host exported) ∧ (host exported).lops.logExport.state = .done ∧ (host exported).dict.exportLast = 5 ∧
      (host running).lops.logExport.state ≠ .done) :=
  ⟨⟨rfl, by decide, ⟨_, rfl, by decide +kernel⟩, by decide, by decide +kernel, by decide, by decide, by decide, by decide +kernel, by decide, by decide, by decide,
      ⟨by decide, rfl⟩⟩,
   ⟨host_mayWrite _ _ (by decide) rfl (by decide +kernel), host_mayLog _ _ (by decide) rfl, rfl, by decide, by decide +kernel, by decide⟩,
   ⟨atConsole_mayWrite _ _ (by decide) rfl (by decide +kernel), ⟨by decide, rfl⟩, rfl, by decide, by decide +kernel⟩,
   ⟨host_mayWrite _ _ (by decide) rfl (by decide +kernel), host_mayLog _ _ (by decide) rfl, by decide, by decide +kernel⟩,
   ⟨atConsole_mayWrite _ _ (by decide) rfl (by decide +kernel), ⟨by decide, rfl⟩, by decide, by decide, by decide⟩,
   ⟨host_mayWrite _ _ (by decide) rfl (by decide +kernel), by decide, by decide, Or.inl rfl⟩,
   ⟨host_mayWrite _ _ (by decide) rfl (by decide +kernel), rfl, rfl, by decide⟩⟩

/-- The public key of the first test of RFC 8032, section 7.1. -/
def rfcKey : List Byte := toBE 32 0xd75a980182b10ab7d54bfed3c964073a0ee172f3daa62325af021a68f707511a

/-- A header of class 0x0010 that names integrator slot 0, signed with that key. -/
def signedHead : List Byte :=
  toLE 4 0x4E56494D ++ toLE 2 1 ++ toLE 2 0x10 ++ toLE 4 0x00030640 ++ zeros 4 ++ toLE 4 7 ++ toLE 4 0 ++ toLE 8 0x110 ++ [3, 0, 1, 0] ++
    toLE 4 0xdf31fe21 ++ zeros 8 ++ zeros 16 ++ zeros 64 ++ zeros 64
def signature : List Byte :=
  toBE 64 0x97e402050b522e4f8a3592d776f9d90d19485bdea4fa4465c4b4d4dc9ec9c0f01f496fd7cda19ba5290335b213995922ec99f7b87b49c12200b5ba0713d14206
def keyed (s : State) : State := { s with upd := { s.upd with keys := rfcKey :: List.replicate 3 [] } }

/-- A header of a body of one byte, and a download of it that is running. -/
def smallHeader : Header :=
  { cls := 0x10, version := 7, reqFw := 0, length := 0x111, keySet := 3, keySlot := 0, keyId := 0xdf31fe21, bodyCrc := crc64 [5], bodyHash := sha512 [5] }
def loadingImage (h : Header) (total : Nat) (s : State) : State :=
  { s with
    upd := { s.upd with dlHeader := some h, dlClass := h.cls, dlSlot := 2 },
    lops := { s.lops with download := { s.lops.download with state := .running, progress := 0, total := total } } }
def chunkOf (offset : Nat) (bs : List Byte) : List Byte := toBE 8 offset ++ bs

/-- Every slot B of a Dorior class Valid; the standby partner of R613. -/
def spareImages (s : State) : State := { s with upd := { s.upd with slots := List.replicate 8 { b := goodSlot } } }
def withStandby (s : State) : State := { s with pair := { s.pair with linkUp := true, partnerMode := 4 } }

set_option maxRecDepth 100000 in
theorem witness_ImageDownloadAndActivation :
    (mayWrite req 1 (host (keyed running)) ∧ (host (keyed running)).sys.mode ≠ .boot ∧ (signedHead ++ signature).length = 256 ∧
      (host (keyed running)).lops.download.live = false ∧ (host (keyed running)).headerCheck (signedHead ++ signature) = 0 ∧
      (host (keyed running)).headerCheck (zeros 256) = 0x0701 ∧ leAt 0 4 (zeros 256) ≠ 0x4E56494D ∧ (zeros 255).length ≠ 256) ∧
    ((chunkOf 0 [5]).length = 8 + 1 ∧ (host running).lops.download.state ≠ .running ∧ beAt 0 8 (chunkOf 0 [5]) = (loadingImage smallHeader 1 running).lops.download.progress ∧
      mayWrite req 1 (host (loadingImage smallHeader 1 running)) ∧ (loadingImage smallHeader 1 running).lops.download.state = .running ∧
      beAt 0 8 (chunkOf 1 [5]) ≠ (loadingImage smallHeader 1 running).lops.download.progress ∧ 1 < 0 + 2 ∧ 0 + 1 < (loadingImage smallHeader 2 running).lops.download.total ∧
      (loadingImage smallHeader 1 running).lops.download.progress + 1 = (loadingImage smallHeader 1 running).lops.download.total) ∧
    ((loadingImage smallHeader 1 running).upd.dlHeader = some smallHeader ∧ [5] = (loadingImage smallHeader 1 running).upd.dlBody ++ (chunkOf 0 [5]).drop 8 ∧
      rowOf smallHeader.cls < (loadingImage smallHeader 1 running).upd.slots.length ∧ (loadingImage smallHeader 1 running).upd.dlSlot = 2 ∧
      (loadingImage smallHeader 1 running).sys.mode ≠ .recovery ∧ sha512 [5] = smallHeader.bodyHash ∧ crc64 [5] = smallHeader.bodyCrc ∧
      crc64 [6] ≠ smallHeader.bodyCrc) ∧
    (∃ s : State, mayWrite req 1 s ∧ s.sys.mode = .recovery ∧ s.lops.download.state = .running ∧ s.upd.dlHeader = some { smallHeader with cls := 1 } ∧
      rowOf 1 < 4 ∧ s.upd.dlSlot = 2 ∧ s.lops.download.progress + 1 = s.lops.download.total ∧
      ∀ row, row < 4 → row ≠ rowOf 1 → (s.upd.slot row 1).state = .valid ∨ (s.upd.slot row 2).state = .valid) ∧
    (mayWrite req 2 (host (spareImages running)) ∧ mayLog 4 (host (spareImages running)) ∧ (∀ row, row < 4 → ((host (spareImages running)).upd.slot row 2).state = .valid) ∧
      (host (spareImages running)).firmwareTooOld 15 = false ∧ (host (spareImages running)).upd.activating = 0 ∧ (host (spareImages running)).upd.change.state.pending = false ∧
      (host (spareImages running)).upd.slots.length = 8 ∧ (host (spareImages running)).pair.linkUp = false ∧
      ((host running).upd.slot 0 2).state ≠ .valid ∧ (1 : Nat).testBit 0 = true ∧ mayWrite req 2 (host running) ∧ mayLog 4 (host running)) ∧
    (mayWrite req 2 (host (withStandby running)) ∧ mayLog 4 (host (withStandby running)) ∧ (host (withStandby running)).sys.mode = .run ∧
      (host (withStandby running)).pair.linkUp = true ∧ (host (withStandby running)).pair.partnerMode = 4) ∧
    ((∃ s : State, s.dead = false ∧ s.activationDue = true ∧ s.upd.fromMode = some .run) ∧ (∃ s : State, s.dead = false ∧ s.activationDue = true ∧ s.upd.fromMode = none) ∧
      running.activationDue = false) :=
  ⟨⟨host_mayWrite _ _ (by decide) rfl (by decide +kernel), by decide, by decide +kernel, by decide, by decide +kernel, by decide +kernel, by decide +kernel, by decide +kernel⟩,
   ⟨by decide +kernel, by decide, by decide +kernel, host_mayWrite _ _ (by decide) rfl (by decide +kernel), by decide, by decide +kernel, by decide, by decide, by decide⟩,
   ⟨rfl, by decide +kernel, by decide, rfl, by decide, rfl, rfl, by decide +kernel⟩,
   ⟨host (loadingImage { smallHeader with cls := 1 } 1 (spareImages (inMode .recovery))), host_mayWrite _ _ (by decide) rfl (by decide +kernel), rfl, rfl, rfl, by decide, rfl, rfl,
     by decide +kernel⟩,
   ⟨host_mayWrite _ _ (by decide) rfl (by decide +kernel), host_mayLog _ _ (by decide) rfl, by decide +kernel, by decide +kernel, by decide, by decide, by decide, by decide,
     by decide, by decide, host_mayWrite _ _ (by decide) rfl (by decide +kernel), host_mayLog _ _ (by decide) rfl⟩,
   ⟨host_mayWrite _ _ (by decide) rfl (by decide +kernel), host_mayLog _ _ (by decide) rfl, rfl, rfl, rfl⟩,
   ⟨⟨{ running with upd := { activating := 1, fromMode := some .run } }, by decide +kernel⟩,
    ⟨{ inMode .safe with upd := { activating := 1 } }, by decide +kernel⟩, by decide +kernel⟩⟩

/-! ### Witnesses: on-line change and forces -/

/-- A module whose change stands in a state, with a candidate that is an application alone. -/
def cand : Candidate := { app := { version := 2 }, tables := none, safety := none, appSlot := 2, safetySlot := 0, schedSlot := 0 }
def changing (st : ChangeState) (due : Bool) (s : State) : State :=
  { s with upd := { s.upd with change := { state := st, cand := some cand, due := due, waitFrom := 3 } } }

theorem witness_OnlineChangeRequests :
    (mayWrite req 2 (host running) ∧ mayLog 1 (host running) ∧ (host running).sys.mode = .run ∧ (host running).upd.change.state.pending = false ∧
      (host running).upd.change.stopping = false ∧ (host running).upd.change.state ≠ .ready) ∧
    (mayWrite req 2 (host (inMode .configure)) ∧ mayLog 1 (host (inMode .configure)) ∧ (host (inMode .configure)).sys.mode = .configure) ∧
    (mayWrite req 2 (host (changing .ready false running)) ∧ mayLog 1 (host (changing .ready false running)) ∧
      (host (changing .ready false running)).upd.change.state.pending = true ∧ (host (changing .ready false running)).upd.change.state = .ready) ∧
    ((changing .preparing false running).dead = false ∧ (changing .preparing false running).upd.change.cand = some cand ∧
      (changing .preparing false running).upd.change.state = .preparing ∧ (changing .waiting true running).upd.change.cand = some cand ∧
      (changing .waiting true running).upd.change.state = .waiting ∧ (changing .waiting true running).upd.change.due = true ∧ cand.tables = none ∧ cand.safety = none ∧
      ∃ ts, ({ cand with tables := some ts }).tables = some ts) ∧
    (running.upd.change.state ≠ .preparing ∧ running.upd.change.state ≠ .waiting ∧ (changing .waiting false running).upd.change.due = false) ∧
    ((changing .waiting false running).upd.change.logged = false ∧ (changing .waiting false running).frame.cycle < (changing .waiting false running).upd.change.waitFrom + 1000 ∧
      ∃ s : State, s.dead = false ∧ s.upd.change.state = .waiting ∧ s.upd.change.logged = false ∧ s.upd.change.waitFrom + 1000 ≤ s.frame.cycle) :=
  ⟨⟨host_mayWrite _ _ (by decide) rfl (by decide +kernel), host_mayLog _ _ (by decide) rfl, rfl, rfl, rfl, by decide⟩,
   ⟨host_mayWrite _ _ (by decide) rfl (by decide +kernel), host_mayLog _ _ (by decide) rfl, rfl⟩,
   ⟨host_mayWrite _ _ (by decide) rfl (by decide +kernel), host_mayLog _ _ (by decide) rfl, rfl, rfl⟩,
   ⟨rfl, rfl, rfl, rfl, rfl, rfl, rfl, rfl, {}, rfl⟩, ⟨by decide, by decide, rfl⟩,
   ⟨rfl, by decide, { changing .waiting false running with frame := { running.frame with cycle := 1003 } }, rfl, rfl, rfl, by decide⟩⟩

/-- An application with two symbols of TYPE 2, of which one may be forced, and forces in the list. -/
def symbolic (fs : List Force) : State :=
  { running with upd := { running.upd with
      forces := fs,
      app := some { symbols := [{ id := 5, kind := 1, typ := 2, flags := 2, addr := 0x10000000, size := 8 }, { id := 6, kind := 1, typ := 2, flags := 0, addr := 0x10000008, size := 8 }] } } }
def manyForces : List Force := (rangeFrom 100 32).map (fun i => .symbol i 0)

theorem witness_ForceRequests :
    (mayWrite req 2 (host (symbolic [])) ∧ mayLog 1 (host (symbolic [])) ∧ (host (symbolic [])).sys.mode = .run ∧
      (∃ y, (host (symbolic [])).app.symbol 5 = some y ∧ y.forceable = true ∧ typeHolds y.typ 255 = true ∧ typeHolds y.typ 256 = false) ∧
      (∃ y, (host (symbolic [])).app.symbol 6 = some y ∧ y.forceable = false) ∧ (host (symbolic [])).upd.forces.length < 32 ∧
      (host (symbolic [])).upd.forces.find? (Force.symbol 5 0).sameTarget = none ∧ (host (symbolic [])).upd.forces.find? (Force.output 23).sameTarget = none) ∧
    (mayWrite req 2 (host (symbolic manyForces)) ∧ mayLog 1 (host (symbolic manyForces)) ∧ 32 ≤ (host (symbolic manyForces)).upd.forces.length ∧
      (host (symbolic manyForces)).upd.forces.find? (Force.symbol 5 255).sameTarget = none) ∧
    (mayWrite req 2 (host (symbolic [.symbol 5 1, .output 23])) ∧ mayLog 1 (host (symbolic [.symbol 5 1, .output 23])) ∧
      ((host (symbolic [.symbol 5 1, .output 23])).upd.forces.find? (Force.symbol 5 0).sameTarget).isSome = true ∧
      ((host (symbolic [.symbol 5 1, .output 23])).upd.forces.find? (Force.output 23).sameTarget).isSome = true) ∧
    (mayWrite req 2 (host (inMode .standby)) ∧ mayLog 1 (host (inMode .standby)) ∧ (host (inMode .standby)).sys.mode = .standby) :=
  ⟨⟨host_mayWrite _ _ (by decide) rfl (by decide +kernel), host_mayLog _ _ (by decide) rfl, rfl, ⟨_, rfl, by decide, by decide, by decide⟩, ⟨_, rfl, by decide⟩, by decide,
      rfl, rfl⟩,
   ⟨host_mayWrite _ _ (by decide) rfl (by decide +kernel), host_mayLog _ _ (by decide) rfl, by decide, by decide⟩,
   ⟨host_mayWrite _ _ (by decide) rfl (by decide +kernel), host_mayLog _ _ (by decide) rfl, by decide, by decide⟩,
   ⟨host_mayWrite _ _ (by decide) rfl (by decide +kernel), host_mayLog _ _ (by decide) rfl, rfl⟩⟩

/-! ### Witnesses: DMA channels and check-value units -/

/-- A module whose lane A has channel 3 as given, a descriptor at 0x80001000, and windows over the pages around it. -/
def descBytes (bad : Nat) : List Byte :=
  let head : List Byte := toLE 8 0x80002000 ++ toLE 8 0x80003000 ++ toLE 4 8 ++ toLE 2 0x801B
  head ++ toLE 2 (crcOf .crc16 (head ++ zeros 8) + bad) ++ zeros 8
def dmaWindow : Window := { base := 0x80000, pages := 16, p := false, x := false, w := true, r := true }
def dmaWith (ch : DmaCh) (ring : Ring) (bad : Nat) : State :=
  { running with
    fw := { running.fw with app := [(dmaMaster .a 3, [dmaWindow])] },
    lanes := { running.lanes with a :=
      { running.lanes.a with
        mem := ((rangeFrom 0x80001000 32).zip (descBytes bad)).filter (fun p => p.2 != 0),
        dma := modNth 3 (fun _ => ch) (List.replicate 16 {}), ring := ring, chk := List.replicate 8 {} } } }
def ring4 : Ring := { (running.lanes.get .a).ring with base := 0x80004000, size := 4, head := 15, tail := 1 }
def fetching : DmaCh := { state := .running, needFetch := true, nextDesc := 0x80001000 }
def writeBeat : Beat := { write := true, addr := 0x80003000, width := 8, data := [(0x80003000, 7), (0x80003001, 0)] }

/-- Channel 3 of lane A in a state. -/
theorem dmaWith_live (ch : DmaCh) (ring : Ring) (bad : Nat) : dmaLive (dmaWith ch ring bad) .a 3 ∧ dmaCh (dmaWith ch ring bad) .a 3 = ch :=
  ⟨⟨rfl, by decide, rfl⟩, rfl⟩

set_option maxRecDepth 100000 in
theorem witness_DmaChannelSteps :
    (∀ ch, dmaLive (dmaWith ch ring4 0) .a 3 ∧ dmaCh (dmaWith ch ring4 0) .a 3 = ch) ∧
    ((dmaWith fetching ring4 0).laneRuns .a = true ∧ 0x301 < 2048 ∧ bits 7 2 0x301 = 0 ∧ (0x301 : Nat).testBit 0 = true ∧ (0x301 : Nat).testBit 1 = false ∧
      bits 7 2 3 = 0 ∧ (3 : Nat).testBit 0 = true ∧ (3 : Nat).testBit 1 = true ∧ bits 7 2 2 = 0 ∧ (2 : Nat).testBit 0 = false ∧
      fetching.state = .running ∧ fetching.endCode = 0 ∧ fetching.waiting = false ∧ fetching.beats = [] ∧ ({} : DmaCh).state = .idle ∧
      ({ fetching with beats := [writeBeat] }).beats ≠ []) ∧
    (fetching.needFetch = true ∧ fetching.hops < fetching.hopLim ∧ dmaAllows (dmaWith fetching ring4 0) .a 3 fetching.nextDesc 8 .read ∧
      (rangeFrom fetching.nextDesc 32).map (dmaByte (dmaWith fetching ring4 0) .a) = descBytes 0 ∧
      descriptorOk 3 (descBytes 0) (chkUnit (dmaWith fetching ring4 0) .a (readDescriptor (descBytes 0)).unit) = true ∧
      dmaAllows (dmaWith fetching ring4 0) .a 3 ((readDescriptor (descBytes 0)).src / 2 ^ (readDescriptor (descBytes 0)).sw * 2 ^ (readDescriptor (descBytes 0)).sw)
        (2 ^ (readDescriptor (descBytes 0)).sw) .read ∧
      (rangeFrom fetching.nextDesc 32).map (dmaByte (dmaWith fetching ring4 1) .a) = descBytes 1 ∧
      descriptorOk 3 (descBytes 1) (chkUnit (dmaWith fetching ring4 1) .a (readDescriptor (descBytes 1)).unit) = false ∧
      ({ fetching with hopLim := 1, hops := 1 }).hopLim < ({ fetching with hopLim := 1, hops := 1 }).hops + 1) ∧
    (({ fetching with beats := [writeBeat] }).beats = writeBeat :: [] ∧ writeBeat.write = true ∧ spWf 0 ((dmaWith fetching ring4 0).lanes.get .a).mem = true ∧
      (writeBeat.data.map (·.1)).Nodup ∧ writeBeat.final = false ∧ writeBeat.tries < fetching.retry ∧ fetching.retry ≤ ({ writeBeat with tries := 3 }).tries ∧
      ({ writeBeat with write := false }).write = false ∧ ({ fetching with state := .stopping }).state = .stopping) ∧
    (((dmaWith { fetching with waiting := true } ring4 0).lanes.get .a).ring = ring4 ∧ (ring4.head + 1) % 2 ^ ring4.size ≠ ring4.tail ∧
      dmaAllows (dmaWith fetching ring4 0) .a 3 (ring4.base + 32 * ring4.head) 8 .write ∧
      (({ ring4 with tail := 0 }).head + 1) % 2 ^ ({ ring4 with tail := 0 }).size = ({ ring4 with tail := 0 }).tail) ∧
    (15 < 2 ^ ((dmaWith {} ring4 0).lanes.get .a).ring.size ∧ channelsIdle ((dmaWith {} ring4 0).lanes.get .a) = true ∧
      channelsIdle ((dmaWith fetching ring4 0).lanes.get .a) = false ∧ 2 ^ ((dmaWith {} ring4 0).lanes.get .a).ring.size ≤ 16 ∧
      ((dmaWith {} ring4 0).lanes.get .a).chk.length = 8 ∧ bits 15 11 0x32 = 0 ∧ bits 7 6 0x32 = 0 ∧ bits 3 2 0x32 = 0 ∧ bits 9 8 0x32 = 0 ∧
      (chkUnit (dmaWith {} ring4 0) .a 7).chan = none ∧ (chkUnit (dmaWith {} ring4 0) .a 7).src ≠ 1 ∧ (chkUnit (dmaWith {} ring4 0) .a 7).src ≠ 2 ∧
      (∃ s : State, s.laneRuns .a = true ∧ (s.lanes.get .a).chk.length = 8 ∧ (chkUnit s .a 7).chan ≠ none) ∧ bits 9 8 0x300 = 3) :=
  ⟨fun ch => dmaWith_live ch ring4 0, by decide +kernel, by unfold dmaAllows; decide +kernel, by decide +kernel, by unfold dmaAllows; decide +kernel,
   by decide +kernel, by decide +kernel, by decide +kernel, by decide +kernel, by decide +kernel, by decide, by decide, by decide, by decide, by decide +kernel, by decide +kernel,
   by decide +kernel,
   ⟨{ running with lanes := { running.lanes with a := { running.lanes.a with chk := List.replicate 8 { chan := some 3 } } } }, by decide +kernel⟩, by decide⟩

/-! ### Images -/

/-- The body of an image (R98) with the given sections: type, flags, load address, content. -/
def imageBody (ss : List (Nat × Nat × Nat × List Byte)) : List Byte :=
  let parts := ss.foldl (fun (p : List Byte × List Byte) x =>
    (p.1 ++ toLE 2 x.1 ++ toLE 2 x.2.1 ++ toLE 4 (0x100 + 16 + 32 * ss.length + p.2.length) ++ toLE 8 x.2.2.1 ++ toLE 4 x.2.2.2.length ++
      toLE 4 (crc32c x.2.2.2) ++ zeros 8, p.2 ++ x.2.2.2)) ([], [])
  toLE 2 ss.length ++ zeros 2 ++ toLE 4 (crc32c parts.1) ++ zeros 8 ++ parts.1 ++ parts.2

/-- An application of empty sections with k = 40 and a vital time in ns; its status, 0 where it passes. -/
def appStatus (vitalNs : Nat) : Nat :=
  match checkApp 7 1 (imageBody ([1, 2, 6, 7, 8, 10, 11].map (fun t => (t, 0, 0, [])) ++
      [(4, 2, 0x400000, []), (9, 0, 0, toLE 2 40 ++ toLE 4 100000 ++ toLE 4 vitalNs)])) with
  | .ok _ => 0
  | .error st => st

set_option maxRecDepth 100000 in
/-- The case of the limit of the vital task: 7,904,000 ns pass, 7,904,001 ns get 0x0722. -/
theorem test_vital_limit : appStatus 7904000 = 0 ∧ appStatus 7904001 = 0x0722 := by decide +kernel

/-- Instances 4 and 20 of the case of 06_machine_safety_functions.md, as records of a safety configuration. -/
def instRecord (n typ ch1 ch2 t1 t2 reset flags disc p2 out1 fb1 permits sym p3 mode : Nat) : List Byte :=
  let b : List Byte := toLE 2 n ++ toLE 1 typ ++ toLE 1 mode ++ toLE 2 ch1 ++ toLE 2 ch2 ++ List.replicate 4 0xFF ++ toLE 1 t1 ++ toLE 1 t2 ++ [0xFF, 0xFF] ++
    toLE 2 reset ++ toLE 2 flags ++ toLE 4 disc ++ toLE 4 0 ++ toLE 4 p2 ++ [0xFF, 0xFF] ++ toLE 2 out1 ++ [0xFF, 0xFF] ++ toLE 2 fb1 ++ List.replicate 4 0xFF ++
    toLE 8 permits ++ toLE 4 sym ++ toLE 4 p3
  b ++ toLE 4 (crc32c b)
def caseRecords : List Byte :=
  instRecord 4 1 16 17 2 3 22 0 80 0 0xFFFF 0xFFFF 0 100 0 1 ++ instRecord 20 7 0xFFFF 0xFFFF 0xFF 0xFF 21 2 0 102 9 23 16 101 400 0
def caseApp : App :=
  { iomap := { outs := (rangeFrom 0 24).map (fun i => if i = 9 then { inUse := true, owner := 1 } else {}) },
    symbols := [{ id := 100, kind := 4, typ := 0, flags := 0, addr := 0, size := 64 }, { id := 101, kind := 4, typ := 0, flags := 0, addr := 64, size := 64 },
      { id := 102, kind := 3, typ := 1, flags := 0, addr := 128, size := 8 }] }

set_option maxRecDepth 100000 in
theorem test_safety_configuration :
    (match checkSafety caseApp (imageBody [(0x201, 0, 0, caseRecords), (0x202, 0, 0, toLE 4 5 ++ zeros 4 ++ toLE 8 (crc64 caseRecords))]) with
      | .ok x => x.2.2.map (·.1)
      | .error _ => []) = [4, 20] := by decide +kernel

/-! ### Witnesses: the whole machine -/

/-- A module after reset with commands waiting. -/
def queued (q : List Instr) : State := { State.reset with pending := q }

theorem witness_TickAndDeadModule :
    ({ running with dead := true }).dead = true ∧ Instr.restart ≠ .powerUp ∧ (∀ fs, Instr.restart ≠ .inputLatch fs) ∧ Instr.restart ≠ .presenceMated ∧
      Instr.restart ≠ .insertionCompleted :=
  ⟨rfl, by decide, fun _ => by simp, by decide, by decide⟩

theorem witness_LaneMemoryForm : laneMemoryWf (queued [.presenceMated]) ∧ ∃ t, step (queued [.presenceMated]) = .next t :=
  ⟨fun l => by cases l <;> decide, _, rfl⟩

theorem witness_GatesShut : gatesShutOutsideRun (queued [.powerUp]) ∧ ∃ t, step (queued [.powerUp]) = .next t :=
  ⟨fun _ l => by cases l <;> decide, _, rfl⟩

theorem witness_SafeUntilRestart : (inMode .safe).sys.mode = .safe ∧ ∃ t, exec .presenceMated (inMode .safe) = .next t := ⟨rfl, _, rfl⟩

/-! ### Well-formed commands: one ill-formed for every check, and the limit of each -/

/-- An access of a master at an address. -/
def access (m addr : Nat) : Access := { master := m, write := true, execute := false, addr := addr, width := 8, runtime := false }

theorem smoke_power : (Instr.domainPowerGoodLost 12).wellFormed = false ∧ (Instr.domainPowerGoodTimeout 12).wellFormed = false ∧
    (Instr.domainPowerGoodLost 11).wellFormed = true ∧ (Instr.fieldDomainLost 3).wellFormed = false ∧ (Instr.fieldDomainReturn 3).wellFormed = false ∧
    (Instr.fieldSupplyInRange 3).wellFormed = false ∧ (Instr.fieldSupplyOutOfRange 3 1).wellFormed = false ∧
    (Instr.fieldSupplyOutOfRange 2 0).wellFormed = false ∧ (Instr.fieldSupplyOutOfRange 2 4).wellFormed = false ∧
    (Instr.fieldSupplyOutOfRange 2 3).wellFormed = true := by decide

theorem smoke_field : (Instr.recoveryPressJammed 6).wellFormed = false ∧ (Instr.groupOverload 6).wellFormed = false ∧
    (Instr.groupOverload 5).wellFormed = true ∧ (Instr.outputHoldExpiry 24).wellFormed = false ∧ (Instr.channelOverload 24).wellFormed = false ∧
    (Instr.openLoad 24).wellFormed = false ∧ (Instr.openLoadCleared 24).wellFormed = false ∧ (Instr.openLoad 23).wellFormed = true ∧
    (Instr.couplerFault (.input 48)).wellFormed = false ∧ (Instr.couplerFault (.output 24)).wellFormed = false ∧
    (Instr.couplerFault (.ret 6)).wellFormed = false ∧ (Instr.couplerFault (.input 47)).wellFormed = true := by decide

theorem smoke_functions : (Instr.resetJammed 64).wellFormed = false ∧ (Instr.discrepancyExpiry 64).wellFormed = false ∧
    (Instr.pairWindowExpiry 64).wellFormed = false ∧ (Instr.stopDelayExpiry 64).wellFormed = false ∧ (Instr.stopDelayExpiry 63).wellFormed = true ∧
    (Instr.settingSupervision 16384).wellFormed = false ∧ (Instr.trelExpiry 16384).wellFormed = false ∧ (Instr.tovlExpiry 16383).wellFormed = true ∧
    (Instr.throwTimeExpiry 65536).wellFormed = false ∧ (Instr.releaseWindowExpiry 65535).wellFormed = true := by decide

theorem smoke_requests : (Instr.setRequest { source := .dictionary, tag := 4096, route := 0 }).wellFormed = false ∧ (Instr.setRequest { source := .dictionary, tag := 0, route := 65536 }).wellFormed = false ∧
    (Instr.releaseRequest { source := .dictionary, tag := 4095, route := 65535 }).wellFormed = true ∧ (Instr.movePoint { source := .dictionary, slot := 65536, arg := 0 }).wellFormed = false ∧
    (Instr.block { source := .dictionary, slot := 0, arg := 256 }).wellFormed = false ∧ (Instr.movePoint { source := .dictionary, slot := 65535, arg := 255 }).wellFormed = true := by decide

theorem smoke_links : (Instr.portLinkChange 4 0 true true).wellFormed = false ∧ (Instr.remoteFrameReceived 4).wellFormed = false ∧
    (Instr.remoteFrameReceived 3).wellFormed = true ∧ (Instr.busOff 4).wellFormed = false ∧ (Instr.notify 8 0).wellFormed = false ∧
    (Instr.notify 7 256).wellFormed = false ∧ (Instr.notify 7 255).wellFormed = true ∧ (Instr.sessionExpired 8).wellFormed = false ∧
    (Instr.eventFlagClear req 256 0).wellFormed = false ∧ (Instr.evtFlagClear 8 { a := none, b := none, c := none }).wellFormed = false ∧ (Instr.icmpEchoRequest 2 []).wellFormed = false ∧
    (Instr.arpRequest 2 0).wellFormed = false ∧ (Instr.arpRequest 1 (2 ^ 32)).wellFormed = false ∧ (Instr.arpRequest 1 0).wellFormed = true := by decide

theorem smoke_engines : (Instr.dmaStart .a 16 1).wellFormed = false ∧ (Instr.dmaStart .a 15 1).wellFormed = true ∧
    (Instr.checkUnitConfigure .a 8 0).wellFormed = false ∧ (Instr.ringTailAdvance .a (2 ^ 32)).wellFormed = false ∧
    (Instr.registerWrite .a (2 ^ 40) 0).wellFormed = false ∧ (Instr.registerWrite .a 0 (2 ^ 32)).wellFormed = false ∧
    (Instr.firewallViolation (access 68 0)).wellFormed = false ∧ (Instr.firewallViolation (access 0 (2 ^ 40))).wellFormed = false ∧
    (Instr.firewallViolation (access 67 0)).wellFormed = true := by decide

/-! ### Values of the spec and of the standards that it names -/

/-- ASCII "123456789", and short texts. -/
def digits : List Byte := [0x31, 0x32, 0x33, 0x34, 0x35, 0x36, 0x37, 0x38, 0x39]
def ascii (t : String) : List Byte := t.toList.map (fun x => BitVec.ofNat 8 x.toNat)

/-- The table of R585. -/
theorem test_crc_table : crcOf .crc16 digits = 0x29B1 ∧ crcOf .crc32 digits = 0xCBF43926 ∧ crc32c digits = 0xE3069283 ∧
    crc64 digits = 0x9D13A61C0E5B0FF5 := by decide +kernel

/-- FIPS 180-4, "abc"; RFC 4231 case 2; RFC 8032 section 7.1 test 1. -/
theorem test_sha256 : sha256 (ascii "abc") = toBE 32 0xba7816bf8f01cfea414140de5dae2223b00361a396177a9cb410ff61f20015ad := by decide +kernel
theorem test_sha512 : sha512 (ascii "abc") = toBE 64 0xddaf35a193617abacc417349ae20413112e6fa4e89a97ea20a9eeee64b55d39a2192992a274fc1a836ba3c23a3feebbd454d4423643ce80e2a9ac94fa54ca49f := by
  decide +kernel
theorem test_hmac : hmac256 (ascii "Jefe") (ascii "what do ya want for nothing?") =
    toBE 32 0x5bdcc146bf60754e6a042426089575c75a003f089d2739839dec58b964ec3843 := by decide +kernel
theorem test_ed25519 : edVerify rfcKey [] (toBE 64 0xe5564300c360ac729086e2cc806e828a84877f1eb8e5d974d873e065224901555fb8821590a33bacc61e39701cf9b46bd25bf5f0595bbe24655141438e7a100b) = true := by
  decide +kernel

/-- The case of 00_scope.md: the value 5 as a paired word. -/
theorem test_paired_word : pairWord 5 = 0xFFFFFFFA00000005 ∧ toLE 8 (pairWord 5) = [5, 0, 0, 0, 0xFA, 0xFF, 0xFF, 0xFF] ∧
    toBE 8 (pairWord 5) = [0xFF, 0xFF, 0xFF, 0xFA, 0, 0, 0, 5] ∧ pairOk 0xFFFFFFFA00000004 = false := by decide

/-- The case after R139: the record of a paired write. -/
theorem test_signature_record : sigRecord 0x20 0x401000 (pairWord 5) =
    [0x20, 0, 0, 0, 0, 0x40, 0x10, 0, 0xFF, 0xFF, 0xFF, 0xFA, 0, 0, 0, 5] := by decide

/-- The case after R57: N = 3, W = 1,000 cycles of 40 ticks. -/
theorem test_counting_window : countOccurrence 3 40000 (5199 * 40) [4200 * 40, 4900 * 40] = ([4200 * 40, 4900 * 40, 5199 * 40], true) ∧
    countOccurrence 3 40000 (5200 * 40) [4200 * 40, 4900 * 40] = ([4200 * 40, 4900 * 40, 5200 * 40], false) ∧
    (countOccurrence 3 40000 (5899 * 40) [4200 * 40, 4900 * 40, 5200 * 40]).2 = true ∧
    (countOccurrence 3 40000 (5900 * 40) [4200 * 40, 4900 * 40, 5200 * 40]).2 = false := by decide

/-- The case of EVT.PEND: event 100 twice while masked, then unmasked. -/
def twice100 (masks : BitVec 256) : State :=
  let s := raise 100 (raise 100 { running with evt := { running.evt with masks := masks } })
  { s with frame := { s.frame with tick := 1001 } }
theorem test_event_100 : (twice100 (BitVec.allOnes 256)).evt.flags.getLsbD 100 = true ∧ spGet 0 100 (twice100 (BitVec.allOnes 256)).evt.counts = 2 ∧
    pendingEvent (twice100 (BitVec.allOnes 256)).evt = none ∧
    pendingEvent (twice100 (BitVec.allOnes 256 &&& ~~~ ((1 : BitVec 256) <<< 100))).evt = some 100 := by decide +kernel

/-- The case of 09_can_fd_controllers.md: four rules. -/
def caseRules : List RuleCfg :=
  [{ kind := 1, cls := 0, reject := false, obj := 20, a := 0x100, b := 0x17F }, { kind := 3, cls := 4, reject := false, obj := 21, a := 0x200, b := 0x7F0 },
   { kind := 2, cls := 0, reject := true, obj := 0, a := 0x120, b := 0x3A0 }, { kind := 3, cls := 2, reject := false, obj := 22, a := 0x200, b := 0x7F0 }]
theorem test_can_rules : acceptFrame caseRules { id := 0x120, fd := true, data := [] } = some 20 ∧
    acceptFrame caseRules { id := 0x20C, fd := true, data := [] } = some 21 ∧ acceptFrame caseRules { id := 0x20C, data := [] } = some 22 ∧
    acceptFrame caseRules { id := 0x3A0, data := [] } = none ∧ anyRule caseRules { id := 0x3A0, data := [] } = true ∧
    acceptFrame caseRules { id := 0x400, fd := true, data := [] } = none ∧ anyRule caseRules { id := 0x400, fd := true, data := [] } = false ∧
    anyRule caseRules { ext := true, id := 0x120, data := [] } = false := by decide

/-- The case after R398: offsets of +65 ns and +1,200 ns with a guard band of 2 µs. -/
def lockedLink (o : Int) : EWork :=
  lockStep { tick := 0, mode := .run, par := fun _ _ => 0, uid := 0 } o 7 0 2000 { e := { running.efl with lock := .locked } }
theorem test_lock_state : (lockedLink 65).e.lock = .locked ∧ (lockedLink 65).e.slewNs = -65 ∧ (lockedLink 1200).e.lock = .silent ∧
    (lockedLink 1200).ev = [135] := by decide +kernel

/-! ### Single commands -/

/-- The state that a command leaves. -/
def after (i : Instr) (s : State) : State := match exec i s with
  | .next t => t
  | _ => s

/-- R70: the latch raises the tick count; the module after reset is in BOOT at tick 0. -/
theorem test_power_up : (after .powerUp running).sys.mode = .boot ∧ (after .powerUp running).frame.tick = 0 := by decide +kernel

/-- A request from STANDBY to CONFIGURE, which the module takes at the next boundary (R47) unless a SAFE trigger overtakes it (R53). -/
theorem test_mode_request : (answerModes (after (.modeRequestConfigure req) (host (inMode .standby)))).sys.toConfigure = true ∧
    (after (.modeRequestConfigure req) (host (inMode .standby))).sys.mode = .standby ∧
    (answerModes (safeTrigger 60 (asking 3 (inMode .standby)))).sys.toConfigure = false := by decide +kernel

/-- The case after R546: a read of the mode without a session. -/
def modeRead : DictFrame :=
  let body : List Byte := [0x20, 0, 1, 0, 0, 0, 0, 0, 0, 8]
  { carrier := .eth0, magic := 0xD1C7, version := 1, op := 1, session := 0, seq := 7, status := 0, len := 10, body := body, tag := zeros 16,
    crc := crc32c ([0xD1, 0xC7, 1, 1, 0, 0, 0, 0, 0, 0, 0, 7, 0, 0, 0, 0x0A] ++ body ++ zeros 16) }
set_option maxRecDepth 100000 in
theorem test_mode_read : (after (.readEntry modeRead) running).emitted =
    [.dict { carrier := .eth0, op := 0x81, session := 0, seq := 7, status := 0, body := [0x20, 0, 1, 2, 0, 0, 0, 1, 5], tag := zeros 16 }] := by
  decide +kernel

/-- The refusals of the same case: 4 to 0x2000:02 without a session (R537), and 9 to 0x3010:01 in RUN (R16). -/
def statuses (s : State) : List Nat := s.emitted.filterMap (fun o => match o with
  | .dict d => some d.status
  | _ => none)
theorem test_refusal_order : statuses (after (.modeRequestStandby { req with session := 0 }) (host paired)) = [0x0301] ∧
    statuses (applyStaged { host running with dict := { (host running).dict with
      staged := [{ req := req, index := 0x3010, sub := 1, typ := 2, offset := 0, data := [9] }] } }) = [0x0102] := by decide +kernel

/-- R577: a stop of an idle channel. -/
theorem test_dma_stop_idle : (dmaCh (after (.dmaStop .a 3 2) (dmaWith {} ring4 0)) .a 3).wst = some (0, 0x0211) := by decide +kernel

/-- R564 and R566: the descriptor of `descBytes` is taken, and its first read issued. -/
theorem test_descriptor_fetch : (dmaCh (after (.descriptorFetch .a 3) (dmaWith fetching ring4 0)) .a 3).hops = 1 ∧
    (dmaCh (after (.descriptorFetch .a 3) (dmaWith fetching ring4 0)) .a 3).beats.map (·.addr) = [0x80002000] := by decide +kernel

end Sys2Proof.Tests
end

section
/-!
Writes of the lane cores to registers (R11, R44, R57, R68): which value is applied, what a lone write leaves, and the bits of the masks and
flags that a write moves.
-/
namespace Sys2Proof.Machine

/-- A word inside 256 bits, shifted to its place, bit by bit. -/
theorem testBit_mul_two_pow_word {n v i : Nat} (hv : v < 2 ^ 32) :
    (v * 2 ^ (32 * n)).testBit i = (decide (32 * n ≤ i) && decide (i < 32 * n + 32) && v.testBit (i - 32 * n)) := by
  rw [Nat.testBit_mul_two_pow]
  by_cases hi : i < 32 * n + 32
  · simp [hi]
  · have : v.testBit (i - 32 * n) = false := Nat.testBit_lt_two_pow (Nat.lt_of_lt_of_le hv (Nat.pow_le_pow_right (by omega) (by omega)))
    simp [this]

/-- Replacing the word `n` of a number, bit by bit. -/
theorem testBit_replaceWord {n v : Nat} (hv : v < 2 ^ 32) (m i : Nat) :
    (m - ((m >>> (32 * n)) % 2 ^ 32) * 2 ^ (32 * n) + v * 2 ^ (32 * n)).testBit i =
      if 32 * n ≤ i ∧ i < 32 * n + 32 then v.testBit (i - 32 * n) else m.testBit i := by
  generalize 32 * n = k
  obtain ⟨low, hlow⟩ : ∃ low, low = m % 2 ^ k := ⟨_, rfl⟩
  obtain ⟨up, hup⟩ : ∃ up, up = m / 2 ^ k / 2 ^ 32 := ⟨_, rfl⟩
  obtain ⟨word, hword⟩ : ∃ word, word = m / 2 ^ k % 2 ^ 32 := ⟨_, rfl⟩
  have hlt : low < 2 ^ k := hlow ▸ Nat.mod_lt _ (Nat.two_pow_pos k)
  have hm : m = 2 ^ k * (2 ^ 32 * up + word) + low := by rw [hlow, hup, hword, Nat.div_add_mod, Nat.div_add_mod]
  have hnew : m - (m >>> k) % 2 ^ 32 * 2 ^ k + v * 2 ^ k = 2 ^ k * (2 ^ 32 * up + v) + low := by
    rw [Nat.shiftRight_eq_div_pow, ← hword]
    have h1 : 2 ^ k * (2 ^ 32 * up + word) = 2 ^ k * (2 ^ 32 * up) + word * 2 ^ k := by rw [Nat.mul_add, Nat.mul_comm word]
    have h2 : 2 ^ k * (2 ^ 32 * up + v) = 2 ^ k * (2 ^ 32 * up) + v * 2 ^ k := by rw [Nat.mul_add, Nat.mul_comm v]
    omega
  have hw : word < 2 ^ 32 := hword ▸ Nat.mod_lt _ (by decide)
  rw [hnew, hm, Nat.testBit_two_pow_mul_add _ hlt, Nat.testBit_two_pow_mul_add _ hlt, Nat.testBit_two_pow_mul_add _ hv,
    Nat.testBit_two_pow_mul_add _ hw]
  by_cases h1 : i < k
  · simp [h1, Nat.not_le.mpr h1]
  · by_cases h2 : i < k + 32
    · simp [h1, h2, Nat.not_lt.mp h1, show i - k < 32 by omega]
    · simp [h1, h2, show ¬ i - k < 32 by omega]

/-- A mask word written replaces its 32 bits and no other (R67). -/
theorem getLsbD_setMaskWord {n v : Nat} (hv : v < 2 ^ 32) (m : BitVec 256) {i : Nat} (hi : i < 256) :
    (setMaskWord n v m).getLsbD i = if 32 * n ≤ i ∧ i < 32 * n + 32 then v.testBit (i - 32 * n) else m.getLsbD i := by
  simp only [setMaskWord, Nat.mod_eq_of_lt hv, BitVec.getLsbD_ofNat, hi, decide_true, Bool.true_and, testBit_replaceWord hv,
    BitVec.testBit_toNat]

/-- A clearing write clears the flags written as 1 that have not occurred in the same tick (R68). -/
theorem getLsbD_clearFlags {n v : Nat} (hv : v < 2 ^ 32) (e : Evt) {i : Nat} (hi : i < 256) :
    (clearFlags n v e).flags.getLsbD i = (e.flags.getLsbD i &&
      !(decide (32 * n ≤ i) && decide (i < 32 * n + 32) && v.testBit (i - 32 * n) && !e.thisTick.getLsbD i)) := by
  simp only [clearFlags, Nat.mod_eq_of_lt hv, BitVec.getLsbD_and, BitVec.getLsbD_not, BitVec.getLsbD_ofNat, testBit_mul_two_pow_word hv, hi,
    decide_true, Bool.true_and]

/-- A value that two lanes write is matched, whatever the third does, if it does not differ (R44). -/
theorem matchedValue_agreed {v : Nat} {x : Option Nat} (hx : x = some v ∨ x = none) :
    matchedValue { a := some v, b := some v, c := x } = some v := by
  rcases hx with rfl | rfl <;> simp [matchedValue, triList]

/-- A value that one lane alone writes is not matched (R44). -/
theorem matchedValue_lone (l : LaneId) (v : Nat) : matchedValue ((Tri.all3 none).mod l (fun _ => some v)) = none := by
  cases l <;> simp [matchedValue, triList, Tri.mod, Tri.all3]

/-- A fold whose every step leaves a state leaves it. -/
theorem foldl_unchanged {α β : Type} {f : α → β → α} {x : α} (h : ∀ b, f x b = x) : ∀ l : List β, l.foldl f x = x
  | [] => rfl
  | b :: l => by rw [List.foldl_cons, h, foldl_unchanged h l]

/-- Lanes that write what is applied make no lone write. -/
theorem loneWrites_agreed {v : Nat} {vals : Tri (Option Nat)} (h : ∀ l, vals.get l = some v ∨ vals.get l = none) (s : State) :
    loneWrites vals (some v) s = s := by
  refine foldl_unchanged (fun l => ?_) laneIds
  rcases h l with e | e <;> simp [e]

/-- The one lane that writes is counted. -/
theorem loneWrites_lone (l : LaneId) (v : Nat) (s : State) :
    loneWrites ((Tri.all3 none).mod l (fun _ => some v)) none s = countLone l s := by
  cases l <;> rfl

/-- A write on which two running lanes agree is applied once, and counts against no lane (R44). -/
theorem wideWrite_agreed {s : State} {v : Nat} {x : Option Nat} (addr : Nat) (hv : v < 2 ^ 32) (ha : s.laneRuns .a = true)
    (hb : s.laneRuns .b = true) (hx : x = some v ∨ x = none) :
    wideWrite addr { a := some v, b := some v, c := x } s = applyWide (addr / 4 * 4) v s := by
  obtain ⟨y, hy⟩ : ∃ y, y = if s.laneRuns .c then x.map (· % 2 ^ 32) else none := ⟨_, rfl⟩
  have hvals : ({ a := some v, b := some v, c := x } : Tri (Option Nat)).mapWith (fun l w => if s.laneRuns l then w.map (· % 2 ^ 32) else none) =
      { a := some v, b := some v, c := y } := by
    simp only [Tri.mapWith, ha, hb, if_true, Option.map_some, Nat.mod_eq_of_lt hv, hy]
  replace hy : y = some v ∨ y = none := by
    rw [hy]
    split
    · rcases hx with rfl | rfl
      · simp only [Option.map_some, Nat.mod_eq_of_lt hv, true_or]
      · exact .inr rfl
    · exact .inr rfl
  have hget : ∀ l, ({ a := some v, b := some v, c := y } : Tri (Option Nat)).get l = some v ∨
      ({ a := some v, b := some v, c := y } : Tri (Option Nat)).get l = none := fun l => by
    cases l
    · exact .inl rfl
    · exact .inl rfl
    · exact hy
  simp only [wideWrite, hvals, matchedValue_agreed hy, loneWrites_agreed hget]

/-- A write that one running lane alone makes is not applied and counts against it (R44). -/
theorem wideWrite_lone {s : State} {l : LaneId} (addr v : Nat) (h : s.laneRuns l = true) :
    wideWrite addr ((Tri.all3 none).mod l (fun _ => some v)) s = countLone l s := by
  have hvals : ((Tri.all3 none).mod l (fun _ => some v)).mapWith (fun l w => if s.laneRuns l then w.map (· % 2 ^ 32) else none) =
      (Tri.all3 none).mod l (fun _ => some (v % 2 ^ 32)) := by
    cases l <;> simp [Tri.mapWith, Tri.mod, Tri.all3, h]
  simp only [wideWrite, hvals, matchedValue_lone, loneWrites_lone]

/-- A counted fault changes its lane and the count of lane faults. -/
theorem keeps_laneFault (l : LaneId) (s : State) : keeps [.lanes, .totals] s (laneFault l s) := by
  unfold laneFault; dsimp only
  repeat' split
  all_goals simp [keeps_iff]

theorem laneFault_other (s : State) {l k : LaneId} (h : k ≠ l) : (laneFault l s).lane k = s.lane k := by
  unfold laneFault; dsimp only
  repeat' split
  all_goals simp [h] <;> rfl

/-- In RUN a counted fault of a lane that is not Slate has a change of its state pend (R129). -/
theorem laneFault_pend {s : State} {l : LaneId} (hm : s.sys.mode = .run) (hc : (s.lane l).colour ≠ .slate) :
    ((laneFault l s).lane l).pend ≠ none := by
  unfold laneFault
  simp only [hm]
  split
  · exact absurd ‹_› hc
  · simp
  · simp only [modLane_self]
    split <;> simp

theorem laneRuns_colour {s : State} {l : LaneId} (h : s.laneRuns l = true) : (s.lane l).colour ≠ .slate := by
  simp only [State.laneRuns, Bool.and_eq_true, bne_iff_ne] at h
  exact h.1

/-- A command begins by forgetting what the last one sent. -/
theorem keeps_cleared (s : State) : keeps [.sent] s { s with emitted := [] } := by simp [keeps_iff]

theorem keeps_countLone (l : LaneId) (s : State) : keeps [.evt, .notices, .lanes, .totals] s (countLone l s) :=
  keeps_comp (keeps_raise 50 s) (keeps_laneFault l _) (by decide) (by decide)

@[simp] theorem countLone_evt (l : LaneId) (s : State) : (countLone l s).evt = (raise 50 s).evt :=
  keeps_same (keeps_laneFault l (raise 50 s)) (p := .evt) (by decide)

/-- A lone write of a running lane: event 50, and nothing moves but the counts of that lane (R44, R57). -/
theorem countLone_spec {s : State} {l : LaneId} (h : s.laneRuns l = true) :
    occurred 50 s (countLone l s) ∧ (countLone l s).evt.masks = s.evt.masks ∧ (countLone l s).fw = s.fw ∧
      (s.sys.mode = .run → ((countLone l s).lane l).pend ≠ none) ∧ (∀ k, k ≠ l → (countLone l s).lane k = s.lane k) ∧
      keeps [.evt, .notices, .lanes, .totals] s (countLone l s) := by
  have hk := keeps_countLone l s
  have hlane : ∀ k, (raise 50 s).lane k = s.lane k := fun k => by simp [State.lane]
  refine ⟨?_, by simp, keeps_same hk (p := .fw) (by decide), fun hm => ?_, fun k hne => ?_, hk⟩
  · simpa [occurred] using occurred_raise (n := 50) (by decide) s
  · exact laneFault_pend (by simpa using hm) (by rw [hlane]; exact laneRuns_colour h)
  · rw [countLone, laneFault_other _ hne, hlane]


/-- A value applied to a word of the masks (R67). The eight addresses are numbers, at which the register map evaluates. -/
theorem applyWide_mask {n : Nat} (hn : n < 8) (v : Nat) (s : State) :
    applyWide ((0xF00C0040 + 4 * n) / 4 * 4) v s = { s with evt := { s.evt with masks := setMaskWord n v s.evt.masks } } := by
  match n, hn with
  | 0, _ | 1, _ | 2, _ | 3, _ | 4, _ | 5, _ | 6, _ | 7, _ => rfl

/-- A value applied to a word of the flags (R68). -/
theorem applyWide_flag {n : Nat} (hn : n < 8) (v : Nat) (s : State) :
    applyWide ((0xF00C0000 + 4 * n) / 4 * 4) v s = { s with evt := clearFlags n v s.evt } := by
  match n, hn with
  | 0, _ | 1, _ | 2, _ | 3, _ | 4, _ | 5, _ | 6, _ | 7, _ => rfl

/-! ### The commands -/

/-- A live module's module-wide write within the blocks of registers. -/
theorem exec_moduleWideWrite {s : State} (hd : s.dead = false) {addr : Nat} (vals : Tri (Option Nat)) (hlo : 0xF0000000 ≤ addr)
    (hhi : addr < 0xF00E0000) : exec (.moduleWideWrite { addr := addr, vals := vals }) s = .next (wideWrite addr vals { s with emitted := [] }) := by
  show act _ s = _
  rw [act_live _ hd, only_true _ (by simp [hlo, hhi])]

/-- A live module's clearing write of a word of the flags. -/
theorem exec_evtFlagClear {s : State} (hd : s.dead = false) (n : Nat) (vals : Tri (Option Nat)) :
    exec (.evtFlagClear n vals) s = .next (wideWrite (0xF00C0000 + 4 * n) vals { s with emitted := [] }) :=
  act_live _ hd

/-- A running lane's write of a register of the event block or of the firewall. -/
theorem exec_registerWrite_wide {s : State} {l : LaneId} (hd : s.dead = false) (h : s.laneRuns l = true) {addr : Nat} (v : Nat)
    (hlo : 0xF00C0000 ≤ addr) (hhi : addr < 0xF00D0000) :
    exec (.registerWrite l addr v) s =
      .next (wideWrite (addr / 4 * 4) ((Tri.all3 none).mod l (fun _ => some (v % 2 ^ 32))) { s with emitted := [] }) := by
  have hb : (addr / 4 * 4 - 0xF0000000) / 0x10000 = 12 := by omega
  show act _ s = _
  have hr : State.laneRuns { s with emitted := [] } l = true := h
  rw [act_live _ hd, only_true _ (by simp [hr]; omega)]
  simp only [hb]

/-- A running lane's write of a register of its route engine (R11, R12). -/
theorem exec_registerWrite_ite {s : State} {l : LaneId} (hd : s.dead = false) (h : s.laneRuns l = true) {o v : Nat} (ho : o < 0x10000)
    (h4 : o / 4 * 4 = o) (hv : v < 2 ^ 32) :
    exec (.registerWrite l (0xF0010000 + o) v) s = .next (writeIte o v { s with emitted := [] }) := by
  have ha : (0xF0010000 + o) / 4 * 4 = 0xF0010000 + o := by omega
  have hb : (0xF0010000 + o - 0xF0000000) / 0x10000 = 1 := by omega
  have hm : (0xF0010000 + o) % 0x10000 = o := by omega
  show act _ s = _
  have hr : State.laneRuns { s with emitted := [] } l = true := h
  rw [act_live _ hd, only_true _ (by simp [hr]; omega)]
  simp only [ha, hb, hm, Nat.mod_eq_of_lt hv]

/-- ITE.CTL without SPCAN and without a reserved bit sets RAEN. -/
theorem writeIte_raen {v : Nat} (hv : v < 2) (s : State) : writeIte 0x04 v s = { s with ite := { s.ite with raen := v == 1 } } := by
  match v, hv with
  | 0, _ | 1, _ => rfl

/-- A reserved bit of ITE.CTL leaves the register (R12). -/
theorem writeIte_reserved {v : Nat} (hlo : 2 ≤ v) (hhi : v < 256) (s : State) : writeIte 0x04 v s = s := by
  have hb : bits 7 1 v ≠ 0 := by
    simp only [bits, Nat.shiftRight_eq_div_pow]; omega
  simp [writeIte, hb]

end Sys2Proof.Machine

namespace Sys2Proof
open Machine

/-- Settles O32: two lanes that agree are applied once by `wideWrite_agreed`, a lane alone is counted by `wideWrite_lone`. -/
theorem registerWrites : Obligations.RegisterWrites := by
  unfold Obligations.RegisterWrites
  intro s hd
  refine ⟨fun n v x hn hv ha hb hx => ⟨?_, ?_⟩, fun l addr v hlo hhi hr => ⟨?_, ?_⟩, fun l v hr hv => ⟨?_, fun h2 => ?_, fun h2 h256 => ?_⟩⟩
  case refine_1 =>
    have hw := (wideWrite_agreed (s := { s with emitted := [] }) (0xF00C0040 + 4 * n) hv ha hb hx).trans (applyWide_mask hn v _)
    rw [exec_moduleWideWrite hd _ (by omega) (by omega), hw]
    exact ⟨_, rfl, rfl, fun i hi => getLsbD_setMaskWord hv _ hi, by simp [keeps_iff]⟩
  case refine_2 =>
    have hw := (wideWrite_agreed (s := { s with emitted := [] }) (0xF00C0000 + 4 * n) hv ha hb hx).trans (applyWide_flag hn v _)
    rw [exec_evtFlagClear hd, hw]
    exact ⟨_, rfl, rfl, fun i hi => getLsbD_clearFlags hv _ hi, by simp [keeps_iff, clearFlags]⟩
  case refine_3 =>
    obtain ⟨h50, hmask, hfw, hpend, hother, hkeep⟩ := countLone_spec (s := { s with emitted := [] }) hr
    rw [exec_moduleWideWrite hd _ (by omega) (by omega), wideWrite_lone (s := { s with emitted := [] }) _ _ hr]
    exact ⟨_, rfl, h50, hmask, hfw, hpend, hother, keeps_comp (keeps_cleared s) hkeep (by decide) (by decide)⟩
  case refine_4 =>
    obtain ⟨h50, hmask, hfw, hpend, -, hkeep⟩ := countLone_spec (s := { s with emitted := [] }) hr
    rw [exec_registerWrite_wide hd hr v hlo hhi, wideWrite_lone (s := { s with emitted := [] }) _ _ hr]
    exact ⟨_, rfl, h50, hmask, hfw, hpend, keeps_comp (keeps_cleared s) hkeep (by decide) (by decide)⟩
  case refine_5 =>
    rw [exec_registerWrite_ite hd hr (o := 0) (by decide) (by decide) hv]
    exact ⟨_, rfl, rfl, by simp [keeps_iff, writeIte]⟩
  case refine_6 =>
    rw [exec_registerWrite_ite hd hr (o := 4) (by decide) (by decide) hv, writeIte_raen h2]
    exact ⟨_, rfl, rfl, by simp [keeps_iff]⟩
  case refine_7 =>
    rw [exec_registerWrite_ite hd hr (o := 4) (by decide) (by decide) hv, writeIte_reserved h2 h256]
    exact ⟨_, rfl, keeps_cleared s⟩

end Sys2Proof
end

section
/-!
Records of the pair link that are received (R493 to R504): what a good one leaves by its type, and that a bad one leaves event 230 alone.
-/
namespace Sys2Proof.Machine

/-! ### The link and the synchronised standby -/

theorem keeps_sendRecord (r : PairRec) (s : State) : keeps [.sent] s (sendRecord r s) :=
  keeps_ite (fun _ => keeps_emit _ s) (fun _ => keeps_refl _ s)

theorem evtGrows_sendIdent (s : State) : evtGrows s (sendIdent s) :=
  evtGrows_of_eq (congrArg _ (keeps_same (keeps_sendRecord _ s) (p := .frame) (by decide))) (keeps_same (keeps_sendRecord _ s) (p := .evt) (by decide))

/-- The link after a good record: up, with its offset measured (R493). -/
theorem linkAlive_pair (rx : PairRx) (s : State) :
    (linkAlive rx s).pair = { s.pair with linkUp := true, offset := rx.offset, lastRx := s.tick } := by
  unfold linkAlive; dsimp only
  split
  · rfl
  · rw [sendIdent, keeps_same (keeps_sendRecord _ _) (p := .pair) (by decide), raise_pair]

theorem keeps_linkAlive (rx : PairRx) (s : State) : keeps (noted ++ [.pair]) s (linkAlive rx s) := by
  have hp : keeps (noted ++ [.pair]) s { s with pair := { s.pair with linkUp := true, offset := rx.offset, lastRx := s.tick } } := by
    simp [keeps_iff, noted]
  unfold linkAlive; dsimp only
  split
  · exact hp
  · exact keeps_then (keeps_then hp (keeps_raise 217 _) (by decide)) (keeps_sendRecord _ _) (by decide)

/-- The first good record brings the link up with event 217 (R493). -/
theorem occurred_linkAlive (rx : PairRx) {s : State} (h : s.pair.linkUp = false) : occurred 217 s (linkAlive rx s) := by
  have hr := occurred_raise (n := 217) (by decide) { s with pair := { s.pair with linkUp := true, offset := rx.offset, lastRx := s.tick } }
  unfold linkAlive; dsimp only
  simp only [h, Bool.false_eq_true, if_false]
  exact (evtGrows_sendIdent _).2 s 217 (by simp) hr

/-- The condition of R502 tracked: only its own mark in the pair state moves. -/
theorem trackSync_pair (s : State) : (trackSync s).pair = { s.pair with synced := s.pairSync } := by
  unfold trackSync; dsimp only
  split
  · next h => rw [h]
  · rw [raise_pair]

theorem keeps_trackSync (s : State) : keeps [.pair, .evt, .notices] s (trackSync s) := by
  unfold trackSync; dsimp only
  split
  · exact keeps_refl _ _
  · simp [keeps_iff]

theorem evtGrows_trackSync (s : State) : evtGrows s (trackSync s) := by
  unfold trackSync; dsimp only
  split
  · exact evtGrows_refl s
  · exact evtGrows_trans (evtGrows_of_eq (t := { s with pair := _ }) rfl rfl) (evtGrows_raise _ _)

/-! ### Acting on a record -/

/-- The state in which a good record is acted on: what was sent forgotten, and the link alive. -/
def recordReady (rx : PairRx) (s : State) : State := linkAlive rx { s with emitted := [] }

theorem recordReady_pair (rx : PairRx) (s : State) :
    (recordReady rx s).pair = { s.pair with linkUp := true, offset := rx.offset, lastRx := s.frame.tick } := linkAlive_pair rx _

theorem keeps_recordReady (rx : PairRx) (s : State) : keeps (noted ++ [.pair]) s (recordReady rx s) :=
  keeps_comp (keeps_cleared s) (keeps_linkAlive rx _) (by decide) (by decide)

@[simp] theorem recordReady_sys (rx : PairRx) (s : State) : (recordReady rx s).sys = s.sys :=
  keeps_same (keeps_recordReady rx s) (p := .sys) (by decide)

@[simp] theorem recordReady_params (rx : PairRx) (s : State) : (recordReady rx s).params = s.params :=
  keeps_same (keeps_recordReady rx s) (p := .params) (by decide)

@[simp] theorem recordReady_lops (rx : PairRx) (s : State) : (recordReady rx s).lops = s.lops :=
  keeps_same (keeps_recordReady rx s) (p := .lops) (by decide)

@[simp] theorem recordReady_upd (rx : PairRx) (s : State) : (recordReady rx s).upd = s.upd :=
  keeps_same (keeps_recordReady rx s) (p := .upd) (by decide)

@[simp] theorem recordReady_frame (rx : PairRx) (s : State) : (recordReady rx s).frame = s.frame :=
  keeps_same (keeps_recordReady rx s) (p := .frame) (by decide)

/-- The store takes checkpoints in the same states with the link alive (R501). -/
@[simp] theorem recordReady_storing (rx : PairRx) (s : State) : (recordReady rx s).storing = s.storing := by
  simp [State.storing, State.member, State.par, recordReady_pair]

/-- A standby that compares goes on with the link alive (R504). -/
theorem recordReady_comparing (rx : PairRx) (c : Nat) {s : State} (h : s.comparing = true) :
    (holderAt c (recordReady rx s)).comparing = true := by
  have hl : s.pair.linkUp = true := by
    simp only [State.comparing, Bool.and_eq_true] at h
    exact h.1.2
  simpa [State.comparing, State.member, State.par, holderAt, recordReady_pair, Pair.position, hl] using h

section
variable {s : State} {rx : PairRx}

/-- A record that fails R496 leaves event 230 and nothing else. -/
theorem act_receiveRecord_bad (k : Nat) (hd : s.dead = false) (hu : s.pairUp = true) (hm : s.member = true) (h : readRecord rx.bytes = none) :
    ∃ t, act (receiveRecord k rx) s = .next t ∧ occurred 230 s t ∧ keeps noted s t := by
  have hu' : State.pairUp { s with emitted := [] } = true := hu
  have hm' : State.member { s with emitted := [] } = true := hm
  refine ⟨raise 230 { s with emitted := [] }, ?_, occurred_raise (n := 230) (by decide) { s with emitted := [] }, ?_⟩
  · rw [act_live _ hd, receiveRecord]
    simp only [hu', hm', Bool.not_true, Bool.or_self, Bool.false_eq_true, if_false, h]
  · exact keeps_comp (keeps_cleared s) (keeps_raise 230 _) (by decide) (by decide)

/-- A good record of the type of the command is acted on with the link alive, and R502 is judged again. `a` are the parts that acting on it
may change: with the link, its events and its identity block they are what the command may change. -/
theorem act_receiveRecord_good {r : PairRec} {k : Nat} {a b : List Part} {u : State} (hd : s.dead = false) (hu : s.pairUp = true)
    (hm : s.member = true) (h : readRecord rx.bytes = some r) (hk : r.kind = k) (e : recordTaken r rx (recordReady rx s) = u)
    (ha : keeps a (recordReady rx s) u) (ma : ∀ p ∈ a, p ∈ b) (mb : ∀ p ∈ noted ++ [.pair], p ∈ b) :
    ∃ t, act (receiveRecord k rx) s = .next t ∧ (∃ y, t.pair = { u.pair with synced := y }) ∧ t.lops = u.lops ∧ evtGrows u t ∧ keeps b s t := by
  have hu' : State.pairUp { s with emitted := [] } = true := hu
  have hm' : State.member { s with emitted := [] } = true := hm
  refine ⟨trackSync u, ?_, ⟨_, trackSync_pair u⟩, keeps_same (keeps_trackSync u) (p := .lops) (by decide), evtGrows_trackSync u, ?_⟩
  · rw [act_live _ hd, receiveRecord, ← e]
    simp only [hu', hm', Bool.not_true, Bool.or_self, Bool.false_eq_true, if_false, h, hk, if_true]
    rfl
  · exact keeps_comp (keeps_comp (keeps_recordReady rx s) ha mb ma) (keeps_trackSync u) (fun _ hp => hp) (fun p hp => mb p (by revert p; decide))

end

/-! ### The store -/

/-- FULL_DATA never touches the complete image (R501). -/
theorem fullData_full (r : PairRec) (s : Shale) : (fullData r s).full = s.full := by
  unfold fullData; repeat' split
  all_goals rfl

/-- FULL_END closes the image that was open, complete or not. -/
theorem fullEnd_incoming (r : PairRec) (s : Shale) : (fullEnd r s).incoming = none := by
  unfold fullEnd; repeat' split
  · rfl
  · rfl
  · assumption

theorem fullEnd_right {r : PairRec} {s : Shale} {i : ShaleImage} (h : s.incoming = some i) (hc : i.cycle % 2 ^ 32 = r.full) (hi : r.index = i.count)
    (hp : beNat r.payload = imageCrc i.count i.lines) :
    (fullEnd r s).full = some i ∧ (fullEnd r s).deltas = s.deltas.filter (fun d => decide (i.cycle < d.cycle)) := by
  simp only [fullEnd, h, hc, hi, hp, and_self, if_true]

theorem fullEnd_wrong {r : PairRec} {s : Shale} {i : ShaleImage} (h : s.incoming = some i) (hp : beNat r.payload ≠ imageCrc i.count i.lines) :
    (fullEnd r s).full = s.full ∧ (fullEnd r s).deltas = s.deltas := by
  simp only [fullEnd, h, hp, and_false, if_false, and_self]

/-- The newest of the records kept is the one just kept. -/
theorem getLast?_lastN_concat {α : Type} {n : Nat} (hn : 0 < n) (l : List α) (x : α) : (lastN n (l ++ [x])).getLast? = some x := by
  simp [lastN, List.getLast?_drop]
  omega

/-! ### A record by its type -/

/-- Without a Ready change there is no set to adopt (R628). -/
theorem adoptNamed_notReady (ws : List Nat) {s : State} (h : s.upd.change.state ≠ .ready) : adoptNamed ws s = s := by
  unfold adoptNamed
  split
  · exact absurd ‹_› h
  · rfl

section
variable {r : PairRec} (rx : PairRx) (u : State)

theorem recordTaken_ident (h : r.kind = 1) : recordTaken r rx u = identTaken ((readPairs 16 0 r.payload).getD []) u := by
  simp only [recordTaken, h]

/-- An identity block: the partner's, with a mark whether its key set is another one, and event 216 as that begins (R5). -/
theorem identTaken_cases (ws : List Nat) (s : State) : ∃ b, identTaken ws s = { s with pair := { s.pair with partner := some ws, incompatible := b } } ∨
    identTaken ws s = raise 216 { s with pair := { s.pair with partner := some ws, incompatible := b } } := by
  refine ⟨nth 0 0 ws % 256 != (if s.ident.development then 2 else 1), ?_⟩
  unfold identTaken; dsimp only
  generalize (nth 0 0 ws % 256 != (if s.ident.development then 2 else 1)) = foreign
  split
  · exact .inr rfl
  · exact .inl rfl

theorem identTaken_pair (ws : List Nat) (s : State) : ∃ b, (identTaken ws s).pair = { s.pair with partner := some ws, incompatible := b } := by
  obtain ⟨b, h | h⟩ := identTaken_cases ws s <;> exact ⟨b, by simp [h]⟩

theorem keeps_identTaken (ws : List Nat) (s : State) : keeps [.pair, .evt, .notices] s (identTaken ws s) := by
  obtain ⟨b, h | h⟩ := identTaken_cases ws s <;> simp [h, keeps_iff]

theorem evtGrows_identTaken (ws : List Nat) (s : State) : evtGrows s (identTaken ws s) := by
  obtain ⟨b, h | h⟩ := identTaken_cases ws s <;> rw [h]
  · exact evtGrows_of_eq rfl rfl
  · exact evtGrows_trans (evtGrows_of_eq (t := { s with pair := _ }) rfl rfl) (evtGrows_raise _ _)

@[simp] theorem putShale_pair (f : Shale → Shale) (s : State) : (putShale f s).pair = { s.pair with shale := f s.pair.shale } := rfl

@[simp] theorem holderAt_pair (c : Nat) (s : State) : (holderAt c s).pair = { s.pair with holderCycle := max s.pair.holderCycle c } := rfl

theorem keeps_putShale (f : Shale → Shale) (s : State) : keeps [.pair] s (putShale f s) := by simp [keeps_iff, putShale]

theorem keeps_holderAt (c : Nat) (s : State) : keeps [.pair] s (holderAt c s) := by simp [keeps_iff, holderAt]

theorem recordTaken_fullBegin (h : r.kind = 2) (hs : u.storing = true) (hc : u.upd.change.state ≠ .ready) :
    recordTaken r rx u = putShale (fullBegin r (ownTick rx r.tick)) (holderAt r.cycle u) := by
  simp only [recordTaken, h, hs, if_true]
  exact congrArg _ (adoptNamed_notReady _ (s := holderAt r.cycle u) hc)

theorem recordTaken_fullData (h : r.kind = 3) (hs : u.storing = true) : recordTaken r rx u = putShale (fullData r) u := by
  simp only [recordTaken, h, hs, if_true]

/-- FULL_END: the store of `fullEnd`, with the own snapshot perhaps dropped as a new image stands. -/
theorem recordTaken_fullEnd (h : r.kind = 4) (hs : u.storing = true) :
    ∃ own stale, recordTaken r rx u = putShale (fun x => { fullEnd r x with own := own, stale := stale }) u := by
  simp only [recordTaken, h, hs, if_true]
  split
  · split
    · exact ⟨none, false, rfl⟩
    · exact ⟨(fullEnd r u.pair.shale).own, (fullEnd r u.pair.shale).stale, rfl⟩
  · exact ⟨(fullEnd r u.pair.shale).own, (fullEnd r u.pair.shale).stale, rfl⟩

/-- DELTA: its part of the chain, and event 231 where the chain breaks (R501). -/
theorem recordTaken_delta (h : r.kind = 5) (hs : u.storing = true) : ∃ v,
    v = holderAt r.cycle (putShale (fun x => (deltaPart r (ownTick rx r.tick) x).1) u) ∧
    recordTaken r rx u = if (deltaPart r (ownTick rx r.tick) u.pair.shale).2 then raise 231 v else v := by
  refine ⟨_, rfl, ?_⟩
  simp only [recordTaken, h, hs, if_true]
  split <;> rfl

theorem recordTaken_sessions (h : r.kind = 6) (hs : u.storing = true) :
    recordTaken r rx u = putShale (fun x => { x with sessions := putSessions (readSessions r.index r.payload) x.sessions }) u := by
  simp only [recordTaken, h, hs, if_true]

/-- Outside STANDBY the store takes no checkpoint record (R501). -/
theorem recordTaken_notStoring (h2 : 2 ≤ r.kind) (h6 : r.kind ≤ 6) (hs : u.storing = false) : recordTaken r rx u = u := by
  have hk : r.kind = 2 ∨ r.kind = 3 ∨ r.kind = 4 ∨ r.kind = 5 ∨ r.kind = 6 := by omega
  rcases hk with h | h | h | h | h <;> simp only [recordTaken, h, hs, Bool.false_eq_true, if_false]

/-- The driven states and pulses of OUTPUT, kept. -/
def withOutput (stamp : Nat) (ws : List Nat) (s : State) : State := { s with pair := keepOutput stamp (nth 0 0 ws) (nth 0 1 ws) s.pair }

theorem keeps_withOutput (stamp : Nat) (ws : List Nat) (s : State) : keeps [.pair] s (withOutput stamp ws s) := by simp [keeps_iff, withOutput]

/-- OUTPUT is kept for the comparison while it runs (R504). -/
theorem recordTaken_output (h : r.kind = 7) : recordTaken r rx u = if (holderAt r.cycle u).comparing then
    withOutput (ownTick rx r.tick) ((readPairs 2 0 r.payload).getD []) (holderAt r.cycle u) else holderAt r.cycle u := by
  simp only [recordTaken, h]
  rfl

/-- The partner's state, from the two words of STATUS. -/
def withStatus (ws : List Nat) (p : Pair) : Pair :=
  { p with partnerMode := nth 0 0 ws % 256, partnerSync := (nth 0 0 ws).testBit 8, partnerDelta := nth 0 1 ws }

/-- STATUS: the partner's state, and the end of a checkpoint transfer that it confirms (R503). -/
theorem recordTaken_status (h : r.kind = 8) :
    ∃ (c : Option Nat) (l : LongOps), (u.lops.checkpoint.live = false → l = u.lops) ∧
      recordTaken r rx u = { u with pair := { withStatus ((readPairs 2 0 r.payload).getD []) u.pair with transferCycle := c }, lops := l } := by
  simp only [recordTaken, h]
  split
  · split
    · next hb => exact ⟨none, _, fun hl => by simp [hl] at hb, rfl⟩
    · exact ⟨_, _, fun _ => rfl, rfl⟩
  · exact ⟨_, _, fun _ => rfl, rfl⟩

end

end Sys2Proof.Machine

namespace Sys2Proof
open Machine

/-- Settles O38, type by type: a good record is acted on with the link alive (`act_receiveRecord_good`), and what its type does is
`recordTaken_ident` to `recordTaken_status`. -/
theorem pairRecords : Obligations.PairRecords := by
  unfold Obligations.PairRecords
  intro s rx hd hu hm
  refine ⟨fun h => ?_, fun r h => ⟨fun hk => ?_, fun hk hs hc => ?_, fun hk hs => ?_, fun hk hs i hi => ?_, fun hk hs => ?_, fun hk hs => ?_,
    fun hk => ?_, fun hk => ?_, fun hs h2 h6 => ?_⟩⟩
  case refine_1 =>
    exact ⟨act_receiveRecord_bad 1 hd hu hm h, act_receiveRecord_bad 2 hd hu hm h, act_receiveRecord_bad 3 hd hu hm h,
      act_receiveRecord_bad 4 hd hu hm h, act_receiveRecord_bad 5 hd hu hm h, act_receiveRecord_bad 6 hd hu hm h,
      act_receiveRecord_bad 7 hd hu hm h, act_receiveRecord_bad 8 hd hu hm h⟩
  case refine_2 =>
    obtain ⟨b, hp⟩ := identTaken_pair ((readPairs 16 0 r.payload).getD []) (recordReady rx s)
    have hev := evtGrows_identTaken ((readPairs 16 0 r.payload).getD []) (recordReady rx s)
    obtain ⟨t, ht, ⟨y, hty⟩, -, htev, hkeep⟩ := act_receiveRecord_good (b := noted ++ [.pair]) hd hu hm h hk (recordTaken_ident rx _ hk)
      (keeps_identTaken _ _) (by decide) (by decide)
    simp only [hp, recordReady_pair] at hty
    refine ⟨t, ht, by simp [hty], by simp [hty], by simp [hty], by simp [hty], by simp [hty], fun hl => ?_, hkeep⟩
    exact (evtGrows_trans hev htev).2 s 217 (by simp) (occurred_linkAlive rx (s := { s with emitted := [] }) hl)
  case refine_3 =>
    obtain ⟨t, ht, ⟨y, hty⟩, -, -, hkeep⟩ := act_receiveRecord_good (b := noted ++ [.pair]) hd hu hm h hk
      (recordTaken_fullBegin rx _ hk (by simpa using hs) (by simpa using hc))
      (keeps_then (keeps_holderAt _ _) (keeps_putShale _ _) (by decide)) (by decide) (by decide)
    exact ⟨t, ht, by simp [hty, recordReady_pair], by simp [hty, recordReady_pair, fullBegin], hkeep⟩
  case refine_4 =>
    obtain ⟨t, ht, ⟨y, hty⟩, -, -, hkeep⟩ := act_receiveRecord_good (b := noted ++ [.pair]) hd hu hm h hk
      (recordTaken_fullData rx _ hk (by simpa using hs)) (keeps_putShale _ _) (by decide) (by decide)
    exact ⟨t, ht, by simp [hty, recordReady_pair], by simp [hty, recordReady_pair], by simp [hty, recordReady_pair, fullData_full], hkeep⟩
  case refine_5 =>
    obtain ⟨own, stale, e⟩ := recordTaken_fullEnd rx (recordReady rx s) hk (by simpa using hs)
    obtain ⟨t, ht, ⟨y, hty⟩, -, -, hkeep⟩ := act_receiveRecord_good (b := noted ++ [.pair]) hd hu hm h hk e (keeps_putShale _ _)
      (by decide) (by decide)
    simp only [putShale_pair, recordReady_pair] at hty
    refine ⟨t, ht, by simp [hty], by simp [hty, fullEnd_incoming], hkeep, fun hc hn hp => ?_, fun hp => ?_⟩
    · simpa [hty] using fullEnd_right hi hc hn hp
    · simpa [hty] using fullEnd_wrong hi hp
  case refine_6 =>
    obtain ⟨v, hv, e⟩ := recordTaken_delta rx (recordReady rx s) hk (by simpa using hs)
    have hkv : keeps [.pair] (recordReady rx s) v := hv ▸ keeps_then (keeps_putShale _ _) (keeps_holderAt _ _) (by decide)
    simp only [recordReady_pair] at e
    obtain ⟨t, ht, ⟨y, hty⟩, -, htev, hkeep⟩ := act_receiveRecord_good (b := noted ++ [.pair]) (a := [.pair, .evt, .notices]) hd hu hm h hk e
      (keeps_ite (fun _ => keeps_comp hkv (keeps_raise _ _) (by decide) (by decide)) (fun _ => keeps_mono hkv (by decide))) (by decide) (by decide)
    have hpair : t.pair = { v.pair with synced := y } := by rw [hty]; split <;> simp
    simp only [hv, holderAt_pair, putShale_pair, recordReady_pair] at hpair
    refine ⟨t, ht, by simp [hpair], by simp [hpair], fun hb => ?_, by simp [hpair], hkeep⟩
    have hvt : v.frame.tick = s.frame.tick := by simp [hv, holderAt, putShale]
    rw [if_pos hb] at htev
    exact htev.2 s 231 (by simpa using hvt) (occurred_tick hvt (occurred_raise (by decide) v))
  case refine_7 =>
    obtain ⟨t, ht, ⟨y, hty⟩, -, -, hkeep⟩ := act_receiveRecord_good (b := noted ++ [.pair]) hd hu hm h hk
      (recordTaken_sessions rx _ hk (by simpa using hs)) (keeps_putShale _ _) (by decide) (by decide)
    exact ⟨t, ht, by simp [hty, recordReady_pair], by simp [hty, recordReady_pair], hkeep⟩
  case refine_8 =>
    obtain ⟨t, ht, ⟨y, hty⟩, -, -, hkeep⟩ := act_receiveRecord_good (b := noted ++ [.pair]) hd hu hm h hk (recordTaken_output rx _ hk)
      (keeps_ite (fun _ => keeps_then (keeps_holderAt _ _) (keeps_withOutput _ _ _) (by decide)) (fun _ => keeps_holderAt _ _)) (by decide) (by decide)
    refine ⟨t, ht, ?_, ?_, fun hc => ?_, hkeep⟩
    · rw [hty]; split <;> simp [withOutput, keepOutput, recordReady_pair]
    · rw [hty]; split <;> simp [withOutput, keepOutput, recordReady_pair]
    · rw [if_pos (recordReady_comparing rx r.cycle hc)] at hty
      refine ⟨_, by simpa [hty, withOutput, keepOutput] using getLast?_lastN_concat (by decide) _ _, rfl, rfl, rfl⟩
  case refine_9 =>
    obtain ⟨c, l, hl, e⟩ := recordTaken_status rx (recordReady rx s) hk
    obtain ⟨t, ht, ⟨y, hty⟩, htl, -, hkeep⟩ := act_receiveRecord_good (a := [.pair, .lops]) (b := noted ++ [.pair, .lops]) hd hu hm h hk e
      (by simp [keeps_iff]) (by decide) (by decide)
    simp only [withStatus, recordReady_pair] at hty
    exact ⟨t, ht, by simp [hty], by simp [hty], by simp [hty], by simp [hty], by simp [hty],
      fun hc => by simpa [htl] using hl (by simpa using hc), hkeep⟩
  case refine_10 =>
    have kept : ∀ k, r.kind = k → ∃ t, act (receiveRecord k rx) s = .next t ∧ t.pair.shale = s.pair.shale ∧ keeps (noted ++ [.pair]) s t := fun k hk => by
      obtain ⟨t, ht, ⟨y, hty⟩, -, -, hkeep⟩ := act_receiveRecord_good (b := noted ++ [.pair]) hd hu hm h hk
        (recordTaken_notStoring rx _ h2 h6 (by simpa using hs)) (keeps_refl [] _) (by decide) (by decide)
      exact ⟨t, ht, by simp [hty, recordReady_pair], hkeep⟩
    exact ⟨kept 2, kept 3, kept 4, kept 5, kept 6⟩

end Sys2Proof
end

section
/-!
A mode request that waits for the output commit (R51, R53, R532): its session is busy, so the sessions do not stay as they were.
-/
namespace Sys2Proof.Machine

/-- The slot of the session that a request names. -/
theorem takesUp_slot {r : Req} {s : State} {x : Session} (h : takesUp r s x) : ∃ k, findSlot r.session s.dict = some k ∧ s.session k = x := by
  obtain ⟨-, -, -, hx, -⟩ := h
  simpa [State.sessionOf] using hx

/-- A request that is taken up finds its session idle, so a state in which that session is busy has other sessions: `modeAsked`, which has the
session busy and excepts no sessions from what it keeps, holds of no state after a request that is taken up. -/
theorem not_modeAsked_of_takesUp {r : Req} {s : State} {x : Session} (h : takesUp r s x) (v : Nat) (t : State) : ¬ modeAsked r v s t := by
  rintro ⟨-, ⟨k, hk, hbusy⟩, -, -, hkeeps⟩
  obtain ⟨j, hj, hx⟩ := takesUp_slot h
  obtain ⟨-, -, -, -, -, hidle, -⟩ := h
  have hkj : k = j := Option.some.inj (hk.symm.trans hj)
  have hsame : t.dict.sessions = s.dict.sessions := keeps_same hkeeps (p := .notices) (by decide)
  rw [State.session, hsame, ← State.session, hkj, hx, hidle] at hbusy
  exact absurd hbusy (by decide)

end Sys2Proof.Machine

namespace Sys2Proof
open Machine

/-- A module in STANDBY with the engineer's session open in slot 0, its last SEQ 7. -/
def engineerInStandby : State :=
  { State.reset with
    sys := { mode := .standby },
    dict := { sessions := { phase := .opened, id := 17, level := 2, lastSeq := 7 } :: List.replicate 7 {}, engineer := some { salt := [], key := [] } } }

/-- Refutes O29: in STANDBY the engineer's MODE_REQUEST_CONFIGURE, as SEQ 8 of session 17, is taken up and waits, which makes its session busy;
`modeAsked` says so and also that no session has changed (its `keeps [.dict, .sent]` does not except `.notices`). -/
theorem not_modeRequests : ¬ Obligations.ModeRequests := by
  unfold Obligations.ModeRequests
  intro h
  have hx : takesUp { carrier := .eth0, session := 17, seq := 8 } engineerInStandby { phase := .opened, id := 17, level := 2, lastSeq := 7 } :=
    ⟨rfl, rfl, by decide, rfl, rfl, rfl, by decide, by decide⟩
  obtain ⟨hconfigure, -⟩ := h engineerInStandby { carrier := .eth0, session := 17, seq := 8 }
  obtain ⟨t, -, hasked⟩ := hconfigure ⟨_, hx, by decide, rfl⟩ ⟨by decide, rfl⟩ rfl rfl
  exact not_modeAsked_of_takesUp hx 3 t hasked

end Sys2Proof
end

section
/-!
Frames with a wrong tag (R530), and a frame outside any session while a live session has the ID 0.
-/
namespace Sys2Proof.Machine

/-- A frame whose session is known and whose tag is not the one that the session gives is answered 0x030A (R530). -/
theorem received_wrongTag {op : Nat} {f : DictFrame} {s : State} (k : Req → State → State) (hu : s.serverUp f.carrier = true) (hf : f.sound = true)
    (hop : f.op = op) (hknown : f.session = 0 ∨ (findSlot f.session s.dict).isSome = true)
    (htag : f.tag ≠ tagFor (s.sessionOf f.session) (headOf f)) : received op f k s = refuseFrame (reqOf f) op 0x030A s := by
  have hk : (f.session == 0 || (findSlot f.session s.dict).isSome) = true := by simpa using hknown
  have ht : (f.tag != tagFor (s.sessionOf f.session) (headOf f)) = true := bne_iff_ne.mpr htag
  unfold headOf at ht
  subst hop
  simp only [received, hu, hf, hk, ht, Bool.not_true, Bool.false_eq_true, if_false, ne_eq, not_true_eq_false, Bool.and_self, if_true]
  rfl

/-- READ with a wrong tag (R530). -/
theorem exec_readEntry_wrongTag {f : DictFrame} {s : State} (hd : s.dead = false) (hu : s.serverUp f.carrier = true) (hf : f.sound = true)
    (hop : f.op = 1) (hknown : f.session = 0 ∨ (findSlot f.session s.dict).isSome = true)
    (htag : f.tag ≠ tagFor (s.sessionOf f.session) (headOf f)) :
    exec (.readEntry f) s = .next (refuseFrame (reqOf f) 1 0x030A { s with emitted := [] }) :=
  (act_live (readFrame f) hd).trans (congrArg _ (received_wrongTag (s := { s with emitted := [] }) _ hu hf hop hknown htag))

/-- A refusal over the first Ethernet port sends its one reply and nothing else. -/
theorem refuseFrame_emitted {r : Req} (hr : r.carrier = .eth0) (op st : Nat) (s : State) :
    (refuseFrame r op st s).emitted = s.emitted ++ [.dict (replyTo r op r.session st [] s)] := by
  have hc : (replyTo r op r.session st [] s).carrier = .eth0 := hr
  simp [refuseFrame, sendReply, hc]

/-- A refusal answers with its status alone. -/
theorem not_replied_refuseFrame {r : Req} (hr : r.carrier = .eth0) {op st other : Nat} (hne : other ≠ st) {s : State} (he : s.emitted = []) :
    ¬ replied r op other (refuseFrame r op st s) := by
  rintro ⟨rep, hrep, -, -, -, -, hst⟩
  rw [refuseFrame_emitted hr, he, List.nil_append, List.mem_singleton, Output.dict.injEq] at hrep
  exact hne (hst ▸ hrep ▸ rfl)

end Sys2Proof.Machine

namespace Sys2Proof
open Machine

/-- A module in RUN whose slot 0 holds an open session of level 1 with the ID 0, which OPEN gives to none (R538). -/
def sessionZero : State :=
  { State.reset with sys := { mode := .run }, dict := { sessions := { phase := .opened, id := 0, level := 1 } :: List.replicate 7 {} } }

/-- A sound READ outside any session, its body empty. -/
def emptyRead : DictFrame :=
  { carrier := .eth0, magic := 0xD1C7, version := 1, op := 1, session := 0, seq := 0, status := 0, len := 0, body := [], tag := zeros 16,
    crc := crc32c (frameHead 1 1 0 0 0 0 [] ++ zeros 16) }

theorem emptyRead_noSession : noSession sessionZero emptyRead 1 := ⟨rfl, rfl, by simp [DictFrame.sound, DictFrame.covered, emptyRead, zeros], rfl, rfl, rfl⟩

/-- The session of ID 0 has a tag of its own, which is not the zero bytes of a frame outside any session. -/
theorem emptyRead_wrongTag : emptyRead.tag ≠ tagFor (sessionZero.sessionOf emptyRead.session) (headOf emptyRead) := by decide +kernel

/-- Refutes O48: the statement speaks of every state, also of one in which a live session has the ID 0. There a frame outside any session is
taken for one of that session, so a READ with an empty body is answered 0x030A for its tag and not 0x0115 for its body. -/
theorem not_dictionaryFrames : ¬ Obligations.DictionaryFrames := by
  unfold Obligations.DictionaryFrames
  rintro ⟨-, h⟩
  obtain ⟨hread, -⟩ := h sessionZero emptyRead 0 _ _ {} rfl rfl
  obtain ⟨-, -, hbody⟩ := hread (.inl emptyRead_noSession)
  obtain ⟨t, ht, hreplied, -⟩ := hbody (by decide)
  obtain ⟨hdead, hserver, hsound, hop, hsession, -⟩ := emptyRead_noSession
  obtain rfl := Host.Outcome.next.inj ((exec_readEntry_wrongTag hdead hserver hsound hop (.inl hsession) emptyRead_wrongTag).symm.trans ht)
  exact not_replied_refuseFrame rfl (by decide) rfl hreplied

end Sys2Proof
end

section
/-!
Element commands on their way into the queue of the next vital cycle (R201 to R205): from a telegram, and from a write of 0x4101:01.
-/
namespace Sys2Proof.Machine

theorem sent_mem_replyParts (c : Carrier) : Part.sent ∈ replyParts c := by cases c <;> decide

theorem ite_notMem_replyParts (c : Carrier) : Part.ite ∉ replyParts c := by cases c <;> decide

/-- A write that is refused leaves what the refusal leaves, and a reply with its status (R14). -/
theorem hostWrite_refused {r : Req} {index sub st : Nat} {j : State → Job} {s : State} {x : Session} (h : takesUp r s x)
    (hst : jobStatus r index sub (j s) s = st) (hne : st ≠ 0) :
    hostWrite r index sub j s = answer r 2 st [] (jobRefused (j s) st s) := by
  have hu := h.2.1
  unfold hostWrite
  rw [ifAllowed_takesUp 2 _ h]
  simp [hu, runJob, hst, hne]

section
variable {r : Req} {w : Nat} {s : State}

/-- What a valid command of the dictionary leaves: it waits, and its entry is busy (R204, R205). -/
def elemJobDone (w : Nat) (s : State) : State :=
  { keepValue 0x4101 1 w s with ite := { s.ite with cmds := s.ite.cmds ++ [elemCmdOf w .dictionary], cmdBusy := true } }

theorem keeps_elemJobDone (w : Nat) (s : State) : keeps [.ite, .params] s (elemJobDone w s) := by simp [keeps_iff, elemJobDone, keepValue]

/-- In RUN a write of 0x4101:01 that holds a valid command is accepted while the entry is free. -/
theorem hostWrite_elemJob_free (hw : mayWrite r 1 s) (hm : s.sys.mode = .run) (hv : commandValid s.tables (elemCmdOf w .dictionary) = true)
    (hb : s.ite.cmdBusy = false) : hostWrite r 0x4101 1 (elemJob w) s = answer r 2 0 [] (elemJobDone w s) := by
  obtain ⟨x, hx, hl, hp⟩ := hw
  have hbad : ∀ c ∈ (elemJob w s).bad, c = 0 := by simp [elemJob, bad, hv, hm, hb]
  exact hostWrite_accepted hx (by simp [elemJob]) hl hp (by simp [elemJob]) hbad (by simp [hm, served]) (by simp [elemJob])

/-- While it is busy the write is refused with 0x0501. -/
theorem jobStatus_elemJob_busy (hw : mayWrite r 1 s) (hm : s.sys.mode = .run) (hv : commandValid s.tables (elemCmdOf w .dictionary) = true)
    (hb : s.ite.cmdBusy = true) : jobStatus r 0x4101 1 (elemJob w s) s = 0x0501 := by
  obtain ⟨x, ⟨-, -, h0, hs, ho, -⟩, hl, hp⟩ := hw
  have hacc : writeAccess r .rwM false false s = [0, 0, 0, 0] := by
    simp [writeAccess, h0, hs, ho, bad, Right.level, hp, Nat.not_lt.mpr hl]
  simp [jobStatus, elemJob, hacc, bad, hv, hm, hb, served, firstStatus]

theorem hostWrite_elemJob_busy (hw : mayWrite r 1 s) (hm : s.sys.mode = .run) (hv : commandValid s.tables (elemCmdOf w .dictionary) = true)
    (hb : s.ite.cmdBusy = true) : hostWrite r 0x4101 1 (elemJob w) s = answer r 2 0x0501 [] s := by
  obtain ⟨x, hx, -⟩ := id hw
  exact hostWrite_refused hx (jobStatus_elemJob_busy hw hm hv hb) (by decide)
end

/-- A valid command from a fresh telegram waits for the next vital cycle (R203, R205). -/
theorem elementCommand_telegram {code : Nat} {o : ElemOp} {s : State} (hr : o.req = none) (hm : s.sys.mode = .run)
    (hf : s.sourceFresh o.source = true) (hv : commandValid s.tables (elemCmdOf (elemWord code o.slot o.arg) o.source) = true) :
    elementCommand code o s = enqueueCmd (elemWord code o.slot o.arg) o.source s := by
  simp [elementCommand, hr, hm, hf, hv]

theorem elementCommand_request {code : Nat} {o : ElemOp} {r : Req} (hr : o.req = some r) (s : State) :
    elementCommand code o s = hostWrite r 0x4101 1 (elemJob (elemWord code o.slot o.arg)) s := by simp only [elementCommand, hr]

/-- An answer changes what its carrier may touch after a command that began by forgetting what was sent. -/
theorem keeps_cleared_answer {r : Req} {op st : Nat} {body : List Byte} {s t : State} {a : List Part} (h : keeps a { s with emitted := [] } t) :
    keeps (replyParts r.carrier ++ a) s (answer r op st body t) := by
  have hsent : ∀ p ∈ [Part.sent], p ∈ replyParts r.carrier ++ a := by simp [sent_mem_replyParts]
  exact keeps_trans (keeps_mono (keeps_cleared s) hsent)
    (keeps_comp h (keeps_answer r op st body t) (fun _ => List.mem_append_right _) (fun _ => List.mem_append_left _))

/-- An instruction that is the element command of a code takes that command. -/
theorem takesCommand_of_exec {code : Nat} {i : ElemOp → Instr} (hi : ∀ o s, exec (i o) s = act (elementCommand code o) s) :
    takesCommand code i := by
  intro s o hm hv
  refine ⟨fun hd hn hf => ?_, fun r hr hw => ⟨fun hb => ?_, fun hb => ?_⟩⟩
  case refine_1 =>
    rw [if_pos hn] at hv
    rw [hi, act_live _ hd, elementCommand_telegram (s := { s with emitted := [] }) hn hm hf hv]
    exact ⟨_, rfl, rfl, by simp [keeps_iff, enqueueCmd]⟩
  all_goals
    rw [if_neg (by simp [hr])] at hv
    obtain ⟨x, hx, -⟩ := id hw
    rw [hi, act_live _ hx.1, elementCommand_request hr]
  case refine_2 =>
    rw [hostWrite_elemJob_free (s := { s with emitted := [] }) hw hm hv hb]
    have hite := keeps_same (keeps_answer r 2 0 [] (elemJobDone (elemWord code o.slot o.arg) { s with emitted := [] }))
      (ite_notMem_replyParts _)
    exact ⟨_, rfl, replied_answer _ _ _ _ _, hite, keeps_cleared_answer (keeps_elemJobDone _ _)⟩
  case refine_3 =>
    rw [hostWrite_elemJob_busy (s := { s with emitted := [] }) hw hm hv hb]
    refine ⟨_, rfl, replied_answer _ _ _ _ _, ?_⟩
    simpa using keeps_cleared_answer (r := r) (op := 2) (st := 0x0501) (body := []) (keeps_refl [] { s with emitted := [] })

end Sys2Proof.Machine

namespace Sys2Proof
open Machine

/-- Settles O14: each of the ten instructions is the element command of its code (`takesCommand_of_exec`). -/
theorem elementCommands : Obligations.ElementCommands := by
  unfold Obligations.ElementCommands
  exact ⟨takesCommand_of_exec fun _ _ => rfl, takesCommand_of_exec fun _ _ => rfl, takesCommand_of_exec fun _ _ => rfl,
    takesCommand_of_exec fun _ _ => rfl, takesCommand_of_exec fun _ _ => rfl, takesCommand_of_exec fun _ _ => rfl,
    takesCommand_of_exec fun _ _ => rfl, takesCommand_of_exec fun _ _ => rfl, takesCommand_of_exec fun _ _ => rfl,
    takesCommand_of_exec fun _ _ => rfl⟩

end Sys2Proof
end

section
/-!
The command step of the element handler on one element (R187, R202, R671): what the records of a point and of a level crossing keep through it.
-/
namespace Sys2Proof.Machine

/-- A bit reads as it was written. -/
theorem testBit_setBit_self (i : Nat) (b : Bool) (w : Nat) : (setBit i b w).testBit i = b := by
  unfold setBit
  split
  · assumption
  · next hne =>
    cases b with
    | true =>
      have hw : w.testBit i = false := by simpa using hne
      simp [Nat.add_comm w, Nat.testBit_two_pow_add_eq, hw]
    | false =>
      have hw : w.testBit i = true := by simpa using hne
      have hsplit : w = 2 ^ i + (w - 2 ^ i) := by have := Nat.ge_two_pow_of_testBit hw; omega
      rw [hsplit, Nat.testBit_two_pow_add_eq] at hw
      simpa using hw

section
variable (e : Elem) (st cyc : Nat)
@[simp] theorem goto_lock : (e.goto st cyc).lock = e.lock := by unfold Elem.goto; split <;> rfl
@[simp] theorem goto_aux : (e.goto st cyc).aux = e.aux := by unfold Elem.goto; split <;> rfl
@[simp] theorem crossingGoto_lock : (crossingGoto e st cyc).lock = e.lock := goto_lock e st cyc
@[simp] theorem crossingGoto_aux : (crossingGoto e st cyc).aux = e.aux := goto_aux e st cyc
@[simp] theorem start_lock : e.start.lock = e.lock := rfl
end

/-- A point that is moved, or stands or moves that way already, is commanded to the position asked for, and its locks stay (R186). -/
theorem movePoint_commands (d : ElemDef) (y : Nat) (e : Elem) (cyc : Nat) :
    (movePoint d y e cyc).command = y ∧ (movePoint d y e cyc).lock = e.lock := by
  unfold movePoint; dsimp only
  split
  · split
    · next hy => exact ⟨hy, rfl⟩
    · exact ⟨rfl, by simp⟩
  · split
    · exact ⟨rfl, by simp⟩
    · exact ⟨rfl, by simp⟩

/-- A move command is refused to a locked or held point, and to one whose own section is not CLEAR (R187). -/
theorem cmdMove_refused {d : ElemDef} {v : Vital} {e : Elem} (y cyc : Nat) (h : e.has lockRESTART = true ∨ e.has lockKEY = true ∨
    e.has lockBLOCKED = true ∨ e.holds ≠ 0 ∨ ownClear v d = false) : cmdMove d v y e cyc = none := by
  unfold cmdMove
  rcases h with h | h | h | h | h <;> simp [h]

/-- Any other point takes a move command (R187). -/
theorem cmdMove_accepted {d : ElemDef} {v : Vital} {e : Elem} (y cyc : Nat) (hr : e.has lockRESTART = false) (hk : e.has lockKEY = false)
    (hb : e.has lockBLOCKED = false) (hh : e.holds = 0) (hc : ownClear v d = true) : cmdMove d v y e cyc = some (movePoint d y e cyc, []) := by
  simp [cmdMove, hr, hk, hb, hh, hc]

/-- A close command sets the manual close in every state and leaves the locks (R671). -/
theorem cmdCloseCrossing_accepted (e : Elem) (cyc : Nat) :
    ∃ x, cmdCloseCrossing e cyc = some (x, []) ∧ x.aux.testBit 0 = true ∧ x.lock = e.lock := by
  unfold cmdCloseCrossing; dsimp only
  split
  · exact ⟨_, rfl, (congrArg (·.testBit 0) (crossingGoto_aux _ _ _)).trans (testBit_setBit_self 0 true e.aux), crossingGoto_lock _ _ _⟩
  · exact ⟨_, rfl, testBit_setBit_self 0 true e.aux, rfl⟩

/-- An open command clears the manual close in every state and leaves the locks (R671). -/
theorem cmdOpenCrossing_accepted (e : Elem) : ∃ x, cmdOpenCrossing e = some (x, []) ∧ x.aux.testBit 0 = false ∧ x.lock = e.lock :=
  ⟨_, rfl, testBit_setBit_self 0 false e.aux, rfl⟩

section
variable (ts : TableSet) (v : Vital) (cyc : Nat) {c : ElemCmd}

theorem judgeCommand_move (h : c.code = 0x01) :
    judgeCommand ts v c cyc = cmdMove (defOf ts c.slot) v c.arg (elemOf v c.slot) cyc := by simp only [judgeCommand, h]

theorem judgeCommand_closeCrossing (h : c.code = 0x30) : judgeCommand ts v c cyc = cmdCloseCrossing (elemOf v c.slot) cyc := by
  simp only [judgeCommand, h]

theorem judgeCommand_openCrossing (h : c.code = 0x31) : judgeCommand ts v c cyc = cmdOpenCrossing (elemOf v c.slot) := by
  simp only [judgeCommand, h]

/-- Block asks the route engine for BLOCKED and writes no record (R202). -/
theorem judgeCommand_block (h : c.code = 0x10) :
    judgeCommand ts v c cyc = some (elemOf v c.slot, [{ slot := c.slot, bit := lockBLOCKED, set := true }]) := by simp only [judgeCommand, h]

theorem judgeCommand_unblock (h : c.code = 0x11) :
    judgeCommand ts v c cyc = some (elemOf v c.slot, [{ slot := c.slot, bit := lockBLOCKED, set := false }]) := by simp only [judgeCommand, h]
end

end Sys2Proof.Machine

namespace Sys2Proof
open Machine

/-- Settles O15, code by code: what the judgement of each comes to is `judgeCommand_move` to `judgeCommand_unblock`. -/
theorem commandJudgement : Obligations.CommandJudgement := by
  unfold Obligations.CommandJudgement
  intro ts v c cyc
  refine ⟨fun h hlocked => ?_, fun h hr hk hb hh hc => ?_, fun h => ?_, fun h => ?_, judgeCommand_block ts v cyc, judgeCommand_unblock ts v cyc⟩
  case refine_1 => rw [judgeCommand_move ts v cyc h, cmdMove_refused _ _ hlocked]
  case refine_2 =>
    rw [judgeCommand_move ts v cyc h, cmdMove_accepted _ _ hr hk hb hh hc]
    exact ⟨_, rfl, movePoint_commands _ _ _ _⟩
  case refine_3 => rw [judgeCommand_closeCrossing ts v cyc h]; exact cmdCloseCrossing_accepted _ _
  case refine_4 => rw [judgeCommand_openCrossing ts v cyc h]; exact cmdOpenCrossing_accepted _

end Sys2Proof
end

section
/-!
Expiries of the route engine ahead of its pass (R213, R215, R228, R245, R267): what each leaves of the route records, the queues and the events.
-/
namespace Sys2Proof.Machine

/-! ### Route records in a pass -/

/-- A record with a state is not the record of a released route. -/
theorem route_ne_default {x : Route} (h : x.code ≠ rsRELEASED) : x ≠ {} := fun e => h (e ▸ rfl)

/-- Removed holds change element records alone. -/
@[simp] theorem dropHolds_routes (bit : Nat) (es : List RouteEntry) (p : Pass) : (dropHolds bit es p).v.routes = p.v.routes := by
  induction es generalizing p with
  | nil => rfl
  | cons x es ih => exact ih _

theorem routeOf_dropHolds (bit : Nat) (es : List RouteEntry) (p : Pass) (k : Nat) : routeOf (dropHolds bit es p).v k = routeOf p.v k := by
  simp only [routeOf, dropHolds_routes]

section
variable (r : Nat) (x : Route) (cyc : Nat) {p : Pass}

theorem spWf_putRoute (hw : spWf {} p.v.routes = true) : spWf {} (p.putRoute r x cyc).v.routes = true := spWf_spSet _ _ _ hw

theorem routeOf_putRoute_other (hw : spWf {} p.v.routes = true) {k : Nat} (hk : k ≠ r) : routeOf (p.putRoute r x cyc).v k = routeOf p.v k :=
  spGet_spSet_ne _ _ hk hw

/-- A record with a state is the one written but for its stamp (R217), and leaves the others in a map of any form. -/
theorem routeOf_putRoute_set (p : Pass) (hx : x.code ≠ rsRELEASED) : (∃ n, routeOf (p.putRoute r x cyc).v r = { x with stamp := n }) ∧
    ∀ k, k ≠ r → routeOf (p.putRoute r x cyc).v k = routeOf p.v k := by
  obtain ⟨n, hn⟩ : ∃ n, (p.putRoute r x cyc).v.routes = spSet {} r { x with stamp := n } p.v.routes := by
    unfold Pass.putRoute; dsimp only
    split
    · exact ⟨x.stamp, rfl⟩
    · exact ⟨_, rfl⟩
  have hne : { x with stamp := n } ≠ {} := route_ne_default hx
  simp only [routeOf, hn]
  exact ⟨⟨n, spGet_spSet_self_of_ne _ _ hne _⟩, fun k hk => spGet_spSet_ne_of_ne _ hk hne _⟩
end

/-- Approach locking written leaves the other records, and the canonical form. -/
theorem setApproach_routes (r : Nat) (d : RouteDef) (on : Bool) (cyc : Nat) {p : Pass} (hw : spWf {} p.v.routes = true) :
    spWf {} (setApproach r d on cyc p).v.routes = true ∧ ∀ k, k ≠ r → routeOf (setApproach r d on cyc p).v k = routeOf p.v k := by
  unfold setApproach
  split
  · exact ⟨hw, fun _ _ => rfl⟩
  · exact ⟨spWf_putRoute _ _ _ hw, fun _ hk => routeOf_putRoute_other _ _ _ hw hk⟩

/-- A route released in one commit has a clear record, with event 67 (R269). -/
theorem releaseAll_spec (ts : TableSet) (r : Nat) (d : RouteDef) (cyc : Nat) {p : Pass} (hw : spWf {} p.v.routes = true) :
    67 ∈ (releaseAll ts r d cyc p).events ∧ routeOf (releaseAll ts r d cyc p).v r = {} ∧
      ∀ k, k ≠ r → routeOf (releaseAll ts r d cyc p).v k = routeOf p.v k := by
  obtain ⟨hwf, hother⟩ := setApproach_routes r d false cyc hw
  have hroutes : (releaseAll ts r d cyc p).v.routes = spSet {} r {} (setApproach r d false cyc p).v.routes := by
    simp [releaseAll, Pass.raise, Pass.clearRoute]
  refine ⟨by simp [releaseAll, Pass.raise], ?_, fun k hk => ?_⟩
  · rw [routeOf, hroutes, spGet_spSet_self _ _ _ hwf]
  · rw [routeOf, hroutes, spGet_spSet_ne _ _ hk hwf, ← hother k hk, routeOf]

/-- An overlap released is taken off its route, whose state stays (R213). -/
theorem releaseOverlap_spec {r : Nat} (d : RouteDef) (cyc : Nat) {p : Pass} (hc : (routeOf p.v r).code ≠ rsRELEASED) :
    (∃ n, routeOf (releaseOverlap r d cyc p).v r =
        { routeOf p.v r with alt := 0, timer := 0, running := false, tovlArmed := false, stamp := n }) ∧
      ∀ k, k ≠ r → routeOf (releaseOverlap r d cyc p).v k = routeOf p.v k := by
  simp only [releaseOverlap, routeOf_dropHolds]
  obtain ⟨hself, hother⟩ := routeOf_putRoute_set r { routeOf p.v r with alt := 0, timer := 0, running := false, tovlArmed := false } cyc
    (dropHolds lockOVERLAP (overlapOf d (routeOf p.v r).alt) p) hc
  exact ⟨hself, fun k hk => (hother k hk).trans (routeOf_dropHolds _ _ _ k)⟩

/-! ### What is due -/

/-- A route that is set for too long is marked, with event 72 (R267). -/
theorem settingSupervision_late {limit r : Nat} {p : Pass} (hc : (routeOf p.v r).code = rsSETTING ∨ (routeOf p.v r).code = rsPROVING)
    (hl : limit < (routeOf p.v r).setTicks) (hn : (routeOf p.v r).setRaised = false) : settingSupervision limit r p =
      { p.raise 72 with v := { p.v with routes := spSet {} r { routeOf p.v r with setRaised := true } p.v.routes } } := by
  simp [settingSupervision, hc, hl, hn]

theorem trelExpiry_due {ts : TableSet} {r : Nat} {d : RouteDef} {p : Pass} (cyc : Nat) (hd : routeDef ts r = some d)
    (hc : (routeOf p.v r).code = rsTIMERELEASE) (hr : (routeOf p.v r).running = true) (ht : d.trel ≤ (routeOf p.v r).timer)
    (ho : s1Occupied ts p.v d = false) : trelExpiry ts cyc r p = releaseAll ts r d cyc p := by simp [trelExpiry, hd, hc, hr, ht, ho]

theorem tovlExpiry_due {ts : TableSet} {r : Nat} {d : RouteDef} {p : Pass} (cyc : Nat) (hd : routeDef ts r = some d)
    (hc : (routeOf p.v r).code = rsINUSE ∨ (routeOf p.v r).code = rsOVERLAPHELD) (ha : (routeOf p.v r).alt ≠ 0)
    (hm : (routeOf p.v r).tovlArmed = true) (hr : (routeOf p.v r).running = true) (ht : d.tovl ≤ (routeOf p.v r).timer)
    (ho : overlapOccupied ts p.v d (routeOf p.v r).alt = false) : tovlExpiry ts cyc r p = releaseOverlap r d cyc p := by
  simp [tovlExpiry, hd, hc, ha, hm, hr, ht, ho]

/-! ### The state after an expiry -/

/-- Work ahead of the pass of a cycle in RUN feeds the lanes and leaves its vital results and its events. -/
theorem passAhead_spec {f : Pass → Pass} {s : State} {p : Pass} (hm : s.sys.mode = .run) (hp : s.frame.passDue = true)
    (hf : f (Pass.mk s.vitW [] []) = p) : (passAhead f s).vitW = p.v ∧ (∀ n, n < 256 → n ∈ p.events → occurred n s (passAhead f s)) ∧
      keeps [.evt, .notices, .vitW, .lanes] s (passAhead f s) := by
  obtain ⟨u, hu⟩ : ∃ u, u = feedE p.writes { s with vitW := p.v } := ⟨_, rfl⟩
  have h : passAhead f s = raiseAll p.events u := by simp only [passAhead, hm, hp, hf, hu]; rfl
  have htick : u.frame.tick = s.frame.tick := by rw [hu]; rfl
  have hkeep : keeps [.vitW, .lanes] s u := by simp [hu, keeps_iff]
  rw [h]
  exact ⟨by simp [hu], fun n hn hmem => occurred_tick htick (occurred_raiseAll hn hmem u),
    keeps_comp hkeep (keeps_raiseAll _ _) (by decide) (by decide)⟩

/-- A command that does work ahead of the pass. -/
theorem act_passAhead {f : State → Pass → Pass} {s : State} {p : Pass} (hd : s.dead = false) (hm : s.sys.mode = .run)
    (hp : s.frame.passDue = true) (hf : f { s with emitted := [] } (Pass.mk s.vitW [] []) = p) :
    ∃ t, act (fun s => passAhead (f s) s) s = .next t ∧ t.vitW = p.v ∧ (∀ n, n < 256 → n ∈ p.events → occurred n s t) ∧
      keeps (noted ++ [.vitW, .lanes]) s t := by
  obtain ⟨hv, hev, hkeep⟩ := passAhead_spec (s := { s with emitted := [] }) hm hp hf
  exact ⟨_, act_live _ hd, hv, hev, keeps_comp (keeps_cleared s) hkeep (by decide) (by decide)⟩

/-- An outcome posted changes the registers of the route engine but not its queues, and the payload of a response field (R247, R248). -/
theorem postOutcome_spec (q : RouteReq) (status : Nat) (s : State) : (postOutcome q status s).ite.setQ = s.ite.setQ ∧
    (postOutcome q status s).ite.cancelQ = s.ite.cancelQ ∧ keeps [.ite, .outs] s (postOutcome q status s) := by
  unfold postOutcome
  split <;> exact ⟨rfl, rfl, by simp [keeps_iff]⟩

theorem postAll_spec (xs : List (RouteReq × Nat)) (s : State) : (postAll xs s).ite.setQ = s.ite.setQ ∧
    (postAll xs s).ite.cancelQ = s.ite.cancelQ ∧ keeps [.ite, .outs] s (postAll xs s) := by
  induction xs generalizing s with
  | nil => exact ⟨rfl, rfl, keeps_refl _ _⟩
  | cons x xs ih =>
    obtain ⟨hset, hcancel, hkeep⟩ := postOutcome_spec x.1 x.2 s
    obtain ⟨iset, icancel, ikeep⟩ := ih (postOutcome x.1 x.2 s)
    exact ⟨iset.trans hset, icancel.trans hcancel, keeps_trans hkeep ikeep⟩

/-- Raising the same event for each member of a list raises it if there is one. -/
theorem mem_foldl_raise {α : Type} (n : Nat) :
    ∀ (l : List α) (p : Pass), n ∈ p.events ∨ l ≠ [] → n ∈ (l.foldl (fun p _ => p.raise n) p).events
  | [], _, h => h.resolve_right (fun hne => hne rfl)
  | _ :: l, p, _ => mem_foldl_raise n l (p.raise n) (.inl (by simp [Pass.raise]))

/-- Set requests that outlive their lifetime leave the queue, with event 70 (R245). -/
theorem expireSets_spec (tick life : Nat) (w : Service) :
    (expireSets tick life w).setQ = w.setQ.filter (fun q => !decide (q.latch + life ≤ tick)) ∧
      ((∃ q ∈ w.setQ, q.latch + life ≤ tick) → 70 ∈ (expireSets tick life w).pass.events) := by
  refine ⟨rfl, fun ⟨q, hq, hl⟩ => mem_foldl_raise 70 _ _ (.inr (List.ne_nil_of_mem (a := q) ?_))⟩
  exact List.mem_filter.mpr ⟨hq, decide_eq_true hl⟩

/-- The request steps that the expiry of set requests leaves in a state. -/
def expiredSets (s : State) : Service :=
  expireSets s.frame.tick s.setLife { pass := Pass.mk s.vitW [] [], cancelQ := s.ite.cancelQ, setQ := s.ite.setQ }

/-- The queue of set requests replaced. -/
def withSetQ (q : List RouteReq) (s : State) : State := { s with ite := { s.ite with setQ := q } }

/-- Before the pass of a cycle in RUN the expiry leaves what `expiredSets` gives: the queue, the outcomes, the events. -/
theorem setRequestExpired_due {s : State} (hm : s.sys.mode = .run) (hp : s.frame.passDue = true) : setRequestExpired s =
    raiseAll (expiredSets s).pass.events (postAll (expiredSets s).done (withSetQ (expiredSets s).setQ s)) := by
  simp only [setRequestExpired, hm, hp]; rfl

theorem setRequestExpired_spec {s : State} (hm : s.sys.mode = .run) (hp : s.frame.passDue = true) :
    (setRequestExpired s).ite.setQ = s.ite.setQ.filter (fun q => !decide (q.latch + s.setLife ≤ s.frame.tick)) ∧
      ((∃ q ∈ s.ite.setQ, q.latch + s.setLife ≤ s.frame.tick) → occurred 70 s (setRequestExpired s)) ∧
      (setRequestExpired s).ite.cancelQ = s.ite.cancelQ ∧ keeps [.evt, .notices, .ite, .outs] s (setRequestExpired s) := by
  obtain ⟨hqueue, h70⟩ := expireSets_spec s.frame.tick s.setLife { pass := Pass.mk s.vitW [] [], cancelQ := s.ite.cancelQ, setQ := s.ite.setQ }
  obtain ⟨hset, hcancel, hkeep⟩ := postAll_spec (expiredSets s).done (withSetQ (expiredSets s).setQ s)
  have hframe : (postAll (expiredSets s).done (withSetQ (expiredSets s).setQ s)).frame = s.frame := keeps_same hkeep (p := .frame) (by decide)
  have hstart : keeps [.ite, .outs] s (withSetQ (expiredSets s).setQ s) := by simp [keeps_iff, withSetQ]
  rw [setRequestExpired_due hm hp, raiseAll_ite]
  exact ⟨hset.trans hqueue, fun hold => occurred_tick (congrArg (·.tick) hframe) (occurred_raiseAll (by decide) (h70 hold) _), hcancel,
    keeps_comp (keeps_trans hstart hkeep) (keeps_raiseAll _ _) (by decide) (by decide)⟩

/-- When the restart release time is over, the route engine is asked to clear RESTART on every point and crossing that did not start late (R228). -/
theorem restartStep_due {ts : TableSet} {limit : Nat} {v : Vital} (hr : v.restartRun = true) (hl : limit ≤ v.restartTicks) :
    (restartStep ts limit { v := v }).v.restartRun = false ∧ (restartStep ts limit { v := v }).v.elems = v.elems ∧
      ∀ k ∈ restartSlots ts, (∀ p ∈ v.restartLate, p.1 ≠ k) →
        { slot := k, bit := lockRESTART, set := false } ∈ (restartStep ts limit { v := v }).reqs := by
  refine ⟨by simp [restartStep, hr, hl], rfl, fun k hk hlate => ?_⟩
  have hin : k ∈ (restartSlots ts).filter (fun s => !v.restartLate.any (fun p => p.1 == s)) := by
    simpa [hk] using fun a b hab e => hlate (a, b) hab e
  simp only [restartStep, hr, hl, decide_true, Bool.and_self, if_true]
  exact List.mem_append_right _ (List.mem_map_of_mem (List.mem_append_left _ hin))

/-- At a vital-cycle boundary in RUN the expiry is the step of the handler, its requests waiting for the route engine. -/
theorem restartReleaseExpiry_due {s : State} (hm : s.sys.mode = .run) (hv : s.frame.vitalDue = true) : restartReleaseExpiry s =
    { s with
      vitW := (restartStep s.tables s.restartLimit { v := s.vitW }).v,
      ite := { s.ite with lockReqs := s.ite.lockReqs ++ (restartStep s.tables s.restartLimit { v := s.vitW }).reqs } } := by
  simp only [restartReleaseExpiry, hm, hv]; rfl

end Sys2Proof.Machine

namespace Sys2Proof
open Machine

/-- Settles O17: the requests by `setRequestExpired_spec`, the three route timers as work ahead of the pass (`act_passAhead`), the restart release
time by `restartStep_due`. -/
theorem routeExpiries : Obligations.RouteExpiries := by
  unfold Obligations.RouteExpiries
  intro s hd hm
  refine ⟨fun hp => ⟨?_, fun r hc hl hn => ?_, fun r d hdef hc hr ht ho hw => ?_, fun r d hdef hc ha harm hr ht ho => ?_⟩,
    fun hv hrun hl => ?_⟩
  case refine_1 =>
    obtain ⟨hset, h70, hcancel, hkeep⟩ := setRequestExpired_spec (s := { s with emitted := [] }) hm hp
    exact ⟨_, act_live setRequestExpired hd, hset, h70, hcancel, keeps_comp (keeps_cleared s) hkeep (by decide) (by decide)⟩
  case refine_2 =>
    obtain ⟨t, ht, htv, hev, hkeep⟩ := act_passAhead (f := fun s => settingSupervision s.setLimit r) hd hm hp (settingSupervision_late hc hl hn)
    have hne : { routeOf s.vitW r with setRaised := true } ≠ ({} : Route) := fun e => by simpa using congrArg Route.setRaised e
    refine ⟨t, ht, hev 72 (by decide) (by simp [Pass.raise]), ?_, fun k hk => ?_, by rw [htv], hkeep⟩
    · rw [htv]; exact spGet_spSet_self_of_ne _ _ hne _
    · rw [htv]; exact spGet_spSet_ne_of_ne _ hk hne _
  case refine_3 =>
    obtain ⟨t, ht, htv, hev, hkeep⟩ := act_passAhead (f := fun s => trelExpiry s.tables s.frame.cycle r)
      (p := releaseAll s.tables r d s.frame.cycle (Pass.mk s.vitW [] [])) hd hm hp (trelExpiry_due s.frame.cycle hdef hc hr ht ho)
    obtain ⟨h67, hself, hother⟩ := releaseAll_spec s.tables r d s.frame.cycle (p := Pass.mk s.vitW [] []) hw
    exact ⟨t, ht, hev 67 (by decide) h67, by rw [htv, hself], fun k hk => by rw [htv, hother k hk], hkeep⟩
  case refine_4 =>
    obtain ⟨t, ht, htv, -, hkeep⟩ := act_passAhead (f := fun s => tovlExpiry s.tables s.frame.cycle r)
      (p := releaseOverlap r d s.frame.cycle (Pass.mk s.vitW [] [])) hd hm hp (tovlExpiry_due s.frame.cycle hdef hc ha harm hr ht ho)
    have hset : (routeOf s.vitW r).code ≠ rsRELEASED := by rcases hc with h | h <;> rw [h] <;> decide
    obtain ⟨⟨n, hself⟩, hother⟩ := releaseOverlap_spec d s.frame.cycle (p := Pass.mk s.vitW [] []) hset
    exact ⟨t, ht, by rw [htv, hself], by rw [htv, hself], by rw [htv, hself], fun k hk => by rw [htv, hother k hk], hkeep⟩
  case refine_5 =>
    obtain ⟨hstop, helems, hreqs⟩ := restartStep_due (ts := s.tables) hrun hl
    refine ⟨_, (act_live restartReleaseExpiry hd).trans (congrArg _ (restartReleaseExpiry_due hm hv)), hstop, helems,
      fun k hk hlate => ?_, by simp [keeps_iff]⟩
    exact List.mem_append_right _ (hreqs k hk hlate)

end Sys2Proof
end

section
/-!
Route requests on their way into the queues of the route engine (R236 to R239, R241, R247, R248): from a telegram, and from a write of 0x4120:01.
-/
namespace Sys2Proof.Machine

/-! ### The status of a write -/

/-- Checks that find nothing do not change the status. -/
theorem firstStatus_append_zeros (l : List Nat) {z : List Nat} (h : ∀ c ∈ z, c = 0) : firstStatus (l ++ z) = firstStatus l := by
  have hz : z.filter (fun c => c != 0) = [] := by simpa using h
  simp [firstStatus, List.filter_append, hz]

/-- In a session that may write an entry, a write without a change-log entry has the status of the entry's own checks and of the mode. -/
theorem jobStatus_mayWrite {r : Req} {j : Job} {s : State} (index sub : Nat) (hw : mayWrite r j.right.level s) (hr : j.right ≠ .ro)
    (hc : j.console = false) (hl : j.log = none) :
    jobStatus r index sub j s = firstStatus (j.bad ++ [bad (!served s.sys.mode index sub) 0x0201]) := by
  obtain ⟨x, ⟨-, -, hid, hx, hopen, -⟩, hlevel, hpass⟩ := hw
  have hacc : ∀ c ∈ writeAccess r j.right j.console j.openFirst s, c = 0 := by
    simp [writeAccess, hid, hx, hopen, hc, hr, hpass, bad, Nat.not_lt.mpr hlevel]
  simp only [jobStatus, hl, List.append_assoc, Option.isSome_none, Bool.false_and]
  rw [← List.append_assoc, firstStatus_append_zeros]
  simpa [bad, or_imp, forall_and] using hacc

/-! ### The request -/

/-- The kind of a request word is in its four top bits (R237). -/
theorem kind_routeWord {kind : Nat} (h : kind < 16) (tag route : Nat) : bits 31 28 (routeWord kind tag route) = kind := by
  simp only [bits, routeWord, Nat.shiftRight_eq_div_pow]
  omega

section
variable {w : Nat} {src : ReqSource} {s : State}

theorem enqueueRoute_set (h : bits 31 28 w = 1) :
    enqueueRoute w src s = { s with ite := { s.ite with setQ := insertReq (routeReq w src s) s.ite.setQ } } := if_pos h

theorem enqueueRoute_cancel (h : bits 31 28 w ≠ 1) :
    enqueueRoute w src s = { s with ite := { s.ite with cancelQ := insertReq (routeReq w src s) s.ite.cancelQ } } := if_neg h
end

/-- A command of a live module that changes the registers of the route engine alone. -/
theorem act_of_ite {f : State → State} {s : State} {i : Ite} (hd : s.dead = false)
    (h : f { s with emitted := [] } = { s with emitted := [], ite := i }) : ∃ t, act f s = .next t ∧ t.ite = i ∧ keeps [.ite, .sent] s t :=
  ⟨_, (act_live f hd).trans (congrArg _ h), rfl, by simp [keeps_iff]⟩

/-! ### From a telegram -/

section
variable {kind : Nat} {o : RouteOp} {s : State} (hn : o.req = none) (hm : s.sys.mode = .run) (hf : s.sourceFresh o.source = true)
include hn hm hf

/-- A request from a fresh telegram is taken where its status is 0 (R238, R239). -/
theorem routeRequest_taken (hst : routeStatus (routeWord kind o.tag o.route) s = 0) :
    routeRequest kind o s = enqueueRoute (routeWord kind o.tag o.route) o.source s := by
  simp [routeRequest, hn, hm, hf, hst]

/-- A set request that is taken joins the set queue. -/
theorem routeRequest_set (hst : routeStatus (routeWord 1 o.tag o.route) s = 0) : routeRequest 1 o s =
    { s with ite := { s.ite with setQ := insertReq (routeReq (routeWord 1 o.tag o.route) o.source s) s.ite.setQ } } :=
  (routeRequest_taken hn hm hf hst).trans (enqueueRoute_set (kind_routeWord (by decide) _ _))

/-- A request of another kind that is taken joins the cancellation queue. -/
theorem routeRequest_cancel (hk : kind < 16) (h1 : kind ≠ 1) (hst : routeStatus (routeWord kind o.tag o.route) s = 0) : routeRequest kind o s =
    { s with ite := { s.ite with cancelQ := insertReq (routeReq (routeWord kind o.tag o.route) o.source s) s.ite.cancelQ } } :=
  (routeRequest_taken hn hm hf hst).trans (enqueueRoute_cancel (by rwa [kind_routeWord hk]))

/-- A request that finds its queue full is answered with an outcome and event 71; neither queue changes (R239, R247). -/
theorem routeRequest_full {st : Nat} (hfull : st = 0x0401 ∨ st = 0x0402) (hst : routeStatus (routeWord kind o.tag o.route) s = st) :
    occurred 71 s (routeRequest kind o s) ∧ (routeRequest kind o s).ite.setQ = s.ite.setQ ∧
      (routeRequest kind o s).ite.cancelQ = s.ite.cancelQ ∧ keeps [.evt, .notices, .ite, .outs] s (routeRequest kind o s) := by
  have hne : st ≠ 0 := by omega
  have hreq : routeRequest kind o s = raise 71 (postOutcome (routeReq (routeWord kind o.tag o.route) o.source s) st s) := by
    simp [routeRequest, hn, hm, hf, hst, hne, noteFull, hfull]
  obtain ⟨hset, hcancel, hkeep⟩ := postOutcome_spec (routeReq (routeWord kind o.tag o.route) o.source s) st s
  have hframe := keeps_same hkeep (p := .frame) (by decide)
  rw [hreq, raise_ite]
  exact ⟨occurred_tick (congrArg (·.tick) hframe) (occurred_raise (by decide) _), hset, hcancel,
    keeps_comp hkeep (keeps_raise _ _) (by decide) (by decide)⟩
end

/-! ### From a session -/

section
variable {r : Req} {w : Nat} {s : State}

theorem routeRequest_request {o : RouteOp} (hr : o.req = some r) (kind : Nat) (s : State) :
    routeRequest kind o s = hostWrite r 0x4120 1 (routeJob (routeWord kind o.tag o.route)) s := by simp only [routeRequest, hr]

/-- What a set request of the dictionary leaves: it waits, and its entry is busy (R248). -/
def setJobDone (w : Nat) (s : State) : State :=
  { keepValue 0x4120 1 w s with
    ite := { s.ite with setQ := insertReq (routeReq w .dictionary s) s.ite.setQ, dictBusy := true } }

theorem keeps_setJobDone (w : Nat) (s : State) : keeps [.ite, .params] s (setJobDone w s) := by simp [keeps_iff, setJobDone, keepValue]

/-- In RUN a write of 0x4120:01 that holds a set request to be taken is accepted while the entry is free. -/
theorem hostWrite_setJob_free (hw : mayWrite r 1 s) (hm : s.sys.mode = .run) (hk : bits 31 28 w = 1) (hst : routeStatus w s = 0)
    (hb : s.ite.dictBusy = false) : hostWrite r 0x4120 1 (routeJob w) s = answer r 2 0 [] (setJobDone w s) := by
  obtain ⟨x, hx, hl, hp⟩ := hw
  have hbad : ∀ c ∈ (routeJob w s).bad, c = 0 := by simp [routeJob, bad, hst, hm, hb]
  have heff : (routeJob w s).eff s = setJobDone w s := by simp only [routeJob, enqueueRoute_set hk]; rfl
  rw [← heff]
  exact hostWrite_accepted hx (by simp [routeJob]) hl hp (by simp [routeJob]) hbad (by simp [hm, served]) (by simp [routeJob])

/-- While it is busy the write is refused with 0x0501. -/
theorem hostWrite_routeJob_busy (hw : mayWrite r 1 s) (hm : s.sys.mode = .run) (hst : routeStatus w s = 0) (hb : s.ite.dictBusy = true) :
    hostWrite r 0x4120 1 (routeJob w) s = answer r 2 0x0501 [] s := by
  have hstatus : jobStatus r 0x4120 1 (routeJob w s) s = 0x0501 := by
    rw [jobStatus_mayWrite 0x4120 1 hw (by simp [routeJob]) rfl rfl]
    simp [routeJob, hst, hm, hb, served, bad, firstStatus]
  obtain ⟨x, hx, -⟩ := hw
  exact hostWrite_refused hx hstatus (by decide)
end

end Sys2Proof.Machine

namespace Sys2Proof
open Machine

/-- Settles O16: telegram requests by `routeRequest_set`, `routeRequest_cancel` and `routeRequest_full`, the write of 0x4120:01 by
`hostWrite_setJob_free` and `hostWrite_routeJob_busy`. -/
theorem routeRequests : Obligations.RouteRequests := by
  unfold Obligations.RouteRequests
  intro s o hm
  refine ⟨fun hd hn hf => ⟨fun hst => act_of_ite hd (routeRequest_set hn hm hf hst),
      fun hst => act_of_ite hd (routeRequest_cancel hn hm hf (by decide) (by decide) hst),
      fun hst => act_of_ite hd (routeRequest_cancel hn hm hf (by decide) (by decide) hst), fun hst => ?full⟩,
    fun r hr hw => ⟨fun hst hb => ?free, fun hst hb => ?busy⟩⟩
  case full =>
    obtain ⟨h71, hset, hcancel, hkeep⟩ := routeRequest_full (s := { s with emitted := [] }) hn hm hf (.inr rfl) hst
    exact ⟨_, act_live _ hd, h71, hset, hcancel, keeps_comp (keeps_cleared s) hkeep (by decide) (by decide)⟩
  all_goals
    obtain ⟨x, hx, -⟩ := id hw
    have hexec : exec (.setRequest o) s =
        .next (hostWrite r 0x4120 1 (routeJob (routeWord 1 o.tag o.route)) { s with emitted := [] }) :=
      (act_live _ hx.1).trans (congrArg _ (routeRequest_request hr 1 _))
  case free =>
    rw [hexec, hostWrite_setJob_free (s := { s with emitted := [] }) hw hm (kind_routeWord (by decide) _ _) hst hb]
    have hite := keeps_same (keeps_answer r 2 0 [] (setJobDone (routeWord 1 o.tag o.route) { s with emitted := [] }))
      (ite_notMem_replyParts _)
    exact ⟨_, rfl, replied_answer _ _ _ _ _, hite, keeps_cleared_answer (keeps_setJobDone _ _)⟩
  case busy =>
    rw [hexec, hostWrite_routeJob_busy (s := { s with emitted := [] }) hw hm hst hb]
    refine ⟨_, rfl, replied_answer _ _ _ _ _, ?_⟩
    simpa using keeps_cleared_answer (r := r) (op := 2) (st := 0x0501) (body := []) (keeps_refl [] { s with emitted := [] })

end Sys2Proof
end

section
/-!
The work of the field controller: what the shared operations leave of channels, groups and events, what a retirement never takes back, and
the shape that its commands share.
-/
namespace Sys2Proof.Machine

/-! ### One channel or group changed -/

section
variable {w : FWork} {k : InChan → InChan} {ko : OutChan → OutChan} {kg : Group → Group} {i c g d : Nat}

theorem inp_modIn_self (h : i < w.f.ins.length) : (w.modIn i k).inp i = k (w.inp i) := nth_modNth_self _ k i w.f.ins h

theorem out_modOut_self (h : c < w.f.outs.length) : (w.modOut c ko).out c = ko (w.out c) := nth_modNth_self _ ko c w.f.outs h

theorem out_modOut_ne (h : d ≠ c) : (w.modOut c ko).out d = w.out d := nth_modNth_ne _ ko c d w.f.outs h

theorem grp_modGrp_self (h : g < w.f.groups.length) : (w.modGrp g kg).grp g = kg (w.grp g) := nth_modNth_self _ kg g w.f.groups h

theorem grp_modGrp_ne (h : d ≠ g) : (w.modGrp g kg).grp d = w.grp d := nth_modNth_ne _ kg g d w.f.groups h

/-- A channel that differs from the one that an unlisted number reads as is listed. -/
theorem lt_length_of_nth_ne {β : Type} {e : β} {n : Nat} {l : List β} (h : nth e n l ≠ e) : n < l.length :=
  Nat.lt_of_not_le fun hle => h (nth_of_le e hle)

theorem out_lt_of_driven (h : (w.out c).driven = true) : c < w.f.outs.length :=
  lt_length_of_nth_ne (e := {}) fun he => by rw [FWork.out, he] at h; exact absurd h (by decide)

theorem grp_lt_of_driven (h : (w.grp g).driven = true) : g < w.f.groups.length :=
  lt_length_of_nth_ne (e := {}) fun he => by rw [FWork.grp, he] at h; exact absurd h (by decide)
end

theorem mem_raise (n : Nat) (w : FWork) : n ∈ (w.raise n).ev := List.mem_append_right _ (List.mem_singleton.mpr rfl)

/-! ### Switches opened -/

theorem length_openOut (t c : Nat) (w : FWork) : (openOut t c w).f.outs.length = w.f.outs.length := length_modNth _ _ _

theorem out_openOut_ne {t c d : Nat} (w : FWork) (h : d ≠ c) : (openOut t c w).out d = w.out d := out_modOut_ne h

/-- Opening the switches of a group touches its outputs and its return switch. -/
theorem openGroup_frame (t g : Nat) (w : FWork) : (openGroup t g w).f.ins = w.f.ins ∧ (openGroup t g w).ev = w.ev ∧
    (openGroup t g w).f.groups = modNth g (fun x => { x with driven := false }) w.f.groups :=
  List.foldlRecOn (motive := fun u : FWork => u.f.ins = w.f.ins ∧ u.ev = w.ev ∧
    u.f.groups = modNth g (fun x => { x with driven := false }) w.f.groups) _ _ ⟨rfl, rfl, rfl⟩ (fun _ h _ _ => h)

theorem openIn_openGroup_mem {t g c : Nat} (w : FWork) (h : c ∈ outsOf g) : openIn (openGroup t g w) true c := foldl_openOut_mem t _ h

/-! ### What work never takes back -/

/-- From `w` to `u` no event is withdrawn and no retired channel returns to service, and the region reset stays where it was. -/
structure FWork.Onward (w u : FWork) : Prop where
  ev : ∀ n ∈ w.ev, n ∈ u.ev
  ins : ∀ i, (w.inp i).retired = true → (u.inp i).retired = true
  outs : ∀ c, (w.out c).retired = true → (u.out c).retired = true
  reset : u.f.reset = w.f.reset

section
variable {w u v : FWork} {t n i c g : Nat}

theorem onward_refl (w : FWork) : w.Onward w := ⟨fun _ => id, fun _ => id, fun _ => id, rfl⟩

theorem onward_trans (h : w.Onward u) (k : u.Onward v) : w.Onward v :=
  ⟨fun n m => k.ev n (h.ev n m), fun i r => k.ins i (h.ins i r), fun c r => k.outs c (h.outs c r), k.reset.trans h.reset⟩

theorem onward_raise (n : Nat) (w : FWork) : w.Onward (w.raise n) := ⟨fun _ m => List.mem_append_left _ m, fun _ => id, fun _ => id, rfl⟩

theorem onward_modIn {k : InChan → InChan} (hk : ∀ x, x.retired = true → (k x).retired = true) (i : Nat) (w : FWork) : w.Onward (w.modIn i k) :=
  ⟨fun _ => id, fun j => nth_modNth_keeps (P := fun x : InChan => x.retired = true) _ _ hk i j w.f.ins, fun _ => id, rfl⟩

theorem onward_modOut {k : OutChan → OutChan} (hk : ∀ x, x.retired = true → (k x).retired = true) (c : Nat) (w : FWork) :
    w.Onward (w.modOut c k) :=
  ⟨fun _ => id, fun _ => id, fun d => nth_modNth_keeps (P := fun x : OutChan => x.retired = true) _ _ hk c d w.f.outs, rfl⟩

theorem onward_modGrp (k : Group → Group) (g : Nat) (w : FWork) : w.Onward (w.modGrp g k) := ⟨fun _ => id, fun _ => id, fun _ => id, rfl⟩

theorem onward_foldl {α : Type} {f : FWork → α → FWork} (h : ∀ (w : FWork) a, w.Onward (f w a)) (l : List α) (w : FWork) : w.Onward (l.foldl f w) :=
  List.foldlRecOn (motive := w.Onward) l f (onward_refl w) (fun u hu a _ => onward_trans hu (h u a))

theorem onward_openOut (t c : Nat) (w : FWork) : w.Onward (openOut t c w) :=
  onward_modOut (fun x hx => by split <;> exact hx) c w

theorem onward_openGroup (t g : Nat) (w : FWork) : w.Onward (openGroup t g w) :=
  onward_trans (onward_modGrp _ g w) (onward_foldl (fun w c => onward_openOut t c w) _ _)

theorem onward_retireGroup (t g : Nat) (w : FWork) : w.Onward (retireGroup t g w) := by
  unfold retireGroup
  split
  · exact onward_refl w
  · exact onward_trans (onward_openGroup t g w) (onward_trans (onward_modGrp _ g _) (onward_trans
      (onward_foldl (fun w c => onward_modOut (fun _ _ => by rfl) c w) _ _) (onward_trans
      (onward_foldl (fun w i => onward_modIn (fun _ _ => by rfl) i w) _ _) (onward_raise 110 _))))

theorem onward_checkGroup (t g : Nat) (w : FWork) : w.Onward (checkGroup t g w) := by
  unfold checkGroup; dsimp only
  split
  · exact onward_retireGroup t g w
  · exact onward_refl w

theorem onward_retireIn (t i : Nat) (w : FWork) : w.Onward (retireIn t i w) := by
  unfold retireIn
  split
  · exact onward_refl w
  · exact onward_trans (onward_modIn (fun _ _ => by rfl) i w) (onward_trans (onward_raise 105 _) (onward_checkGroup t _ _))

theorem onward_retireOut (t c : Nat) (w : FWork) : w.Onward (retireOut t c w) := by
  unfold retireOut
  split
  · exact onward_refl w
  · exact onward_trans (onward_openOut t c w) (onward_trans (onward_modOut (fun _ _ => by rfl) c _)
      (onward_trans (onward_raise 106 _) (onward_checkGroup t _ _)))

theorem onward_retireReturn (t g : Nat) (w : FWork) : w.Onward (retireReturn t g w) :=
  onward_trans (onward_modGrp _ g w) (onward_checkGroup t g _)

theorem onward_switchTest (t : Nat) (bi bo br : List Nat) (w : FWork) : w.Onward (switchTest t bi bo br w) :=
  onward_trans (onward_foldl (fun w i => onward_retireIn t i w) bi w) (onward_trans (onward_foldl (fun w c => onward_retireOut t c w) bo _)
    (onward_foldl (fun w g => onward_retireReturn t g w) br _))

/-- The retirement of an input in service: event 105 (R370), whatever becomes of its group. -/
theorem retireIn_spec (hi : i < w.f.ins.length) (hr : (w.inp i).retired = false) :
    105 ∈ (retireIn t i w).ev ∧ ((retireIn t i w).inp i).retired = true := by
  rw [retireIn, if_neg (by simp [hr])]
  have hon := fun u => onward_checkGroup t (groupOfIn i) u
  refine ⟨(hon _).ev 105 (mem_raise _ _), (hon _).ins i ?_⟩
  exact congrArg InChan.retired (inp_modIn_self hi)

/-- The retirement of an output in service: event 106 (R370). -/
theorem retireOut_spec (hc : c < w.f.outs.length) (hr : (w.out c).retired = false) :
    106 ∈ (retireOut t c w).ev ∧ ((retireOut t c w).out c).retired = true := by
  rw [retireOut, if_neg (by simp [hr])]
  have hon := fun u => onward_checkGroup t (groupOfOut c) u
  refine ⟨(hon _).ev 106 (mem_raise _ _), (hon _).outs c ?_⟩
  exact congrArg OutChan.retired (out_modOut_self (by rwa [length_openOut]))

/-- A fault counted as permanent retires the output: the count of an output does not touch its service. -/
theorem retireOut_counted_spec {k : OutChan → OutChan} (hk : ∀ x, (k x).retired = x.retired) (hc : c < w.f.outs.length)
    (hr : (w.out c).retired = false) :
    106 ∈ (retireOut t c (w.modOut c k)).ev ∧ ((retireOut t c (w.modOut c k)).out c).retired = true :=
  retireOut_spec (by simpa [FWork.modOut] using hc) (by rw [out_modOut_self hc, hk, hr])

/-- The same of an input. -/
theorem retireIn_counted_spec {k : InChan → InChan} (hk : ∀ x, (k x).retired = x.retired) (hi : i < w.f.ins.length)
    (hr : (w.inp i).retired = false) :
    105 ∈ (retireIn t i (w.modIn i k)).ev ∧ ((retireIn t i (w.modIn i k)).inp i).retired = true :=
  retireIn_spec (by simpa [FWork.modIn] using hi) (by rw [inp_modIn_self hi, hk, hr])
end

/-! ### A command that is work of the controller -/

/-- What a command that is work of the field controller leaves: what was sent is forgotten, and the work is done. -/
def fieldDone (f : FEnv → FWork → FWork) (s : State) : State := doField f { s with emitted := [] }

section
variable {f : FEnv → FWork → FWork} {s : State}

theorem act_doField (f : FEnv → FWork → FWork) (hd : s.dead = false) : act (doField f) s = .next (fieldDone f s) := act_live _ hd

theorem act_only_doField {c : State → Bool} (f : FEnv → FWork → FWork) (hd : s.dead = false) (hc : c { s with emitted := [] } = true) :
    act (only c (doField f)) s = .next (fieldDone f s) := by rw [act_live _ hd, only_true _ hc]; rfl

@[simp] theorem fieldDone_fio : (fieldDone f s).fio = (f s.fenv { f := s.fio }).f := doField_fio f { s with emitted := [] }

theorem occurred_fieldDone {n : Nat} (hn : n < 256) (h : n ∈ (f s.fenv { f := s.fio }).ev) : occurred n s (fieldDone f s) :=
  occurred_doField f hn { s with emitted := [] } h

theorem keeps_fieldDone (f : FEnv → FWork → FWork) (s : State) : keeps (noted ++ [.fio]) s (fieldDone f s) :=
  keeps_comp (keeps_cleared s) (keeps_doField f _) (by decide) (by decide)

/-- Work that raises no event changes the Field region alone. -/
theorem fieldDone_quiet (h : (f s.fenv { f := s.fio }).ev = []) :
    fieldDone f s = { s with emitted := [], fio := (f s.fenv { f := s.fio }).f } := by
  show raiseAll (f s.fenv { f := s.fio }).ev _ = _
  rw [h]; rfl

theorem keeps_fieldDone_quiet (h : (f s.fenv { f := s.fio }).ev = []) : keeps [.fio, .sent] s (fieldDone f s) := by
  simp [fieldDone_quiet h, keeps_iff]

/-- Work that changes nothing. -/
theorem fieldDone_idle (h : f s.fenv { f := s.fio } = { f := s.fio }) : fieldDone f s = { s with emitted := [] } := by
  rw [fieldDone_quiet (by rw [h]), h]
end

end Sys2Proof.Machine
end

section
/-!
Pulses and tests in their slots (R362 to R366): work that changes one channel or group alone, and the judgement of a light pulse.
-/
namespace Sys2Proof.Machine

section
variable {s : State} {c g : Nat}

/-- Work that changes one output changes nothing else. -/
theorem fieldDone_modOut_frame (k : FEnv → OutChan → OutChan) (c : Nat) (s : State) :
    (∀ d, d ≠ c → nth {} d (fieldDone (fun env w => w.modOut c (k env)) s).fio.outs = nth {} d s.fio.outs) ∧
      (fieldDone (fun env w => w.modOut c (k env)) s).fio.ins = s.fio.ins ∧
      (fieldDone (fun env w => w.modOut c (k env)) s).fio.groups = s.fio.groups ∧
      keeps [.fio, .sent] s (fieldDone (fun env w => w.modOut c (k env)) s) := by
  refine ⟨fun d hd => ?_, ?_, ?_, keeps_fieldDone_quiet rfl⟩ <;> rw [fieldDone_fio]
  · exact out_modOut_ne (w := { f := s.fio }) hd
  · rfl
  · rfl

/-- The output that such work changes. -/
theorem fieldDone_modOut_self (k : FEnv → OutChan → OutChan) (hc : c < s.fio.outs.length) :
    nth {} c (fieldDone (fun env w => w.modOut c (k env)) s).fio.outs = k s.fenv (nth {} c s.fio.outs) := by
  rw [fieldDone_fio]; exact out_modOut_self (w := { f := s.fio }) hc

/-- Work that changes one group changes nothing else. -/
theorem fieldDone_modGrp (k : Group → Group) (hg : g < s.fio.groups.length) :
    nth {} g (fieldDone (fun _ w => w.modGrp g k) s).fio.groups = k (nth {} g s.fio.groups) ∧
      (∀ d, d ≠ g → nth {} d (fieldDone (fun _ w => w.modGrp g k) s).fio.groups = nth {} d s.fio.groups) ∧
      (fieldDone (fun _ w => w.modGrp g k) s).fio.ins = s.fio.ins ∧ (fieldDone (fun _ w => w.modGrp g k) s).fio.outs = s.fio.outs ∧
      keeps [.fio, .sent] s (fieldDone (fun _ w => w.modGrp g k) s) := by
  refine ⟨?_, fun d hd => ?_, ?_, ?_, keeps_fieldDone_quiet rfl⟩ <;> rw [fieldDone_fio]
  · exact grp_modGrp_self (w := { f := s.fio }) hg
  · exact grp_modGrp_ne (w := { f := s.fio }) hd
  · rfl
  · rfl

/-- A pulse abandoned is counted, and nothing else happens (R365). -/
theorem fieldDone_abandon (s : State) : (fieldDone (fun _ w => w.abandon) s).fio = { s.fio with pcnt := satAdd 0xFFFFFFFF s.fio.pcnt 1 } ∧
    keeps [.fio, .sent] s (fieldDone (fun _ w => w.abandon) s) := ⟨fieldDone_fio, keeps_fieldDone_quiet rfl⟩
end

/-! ### The light pulse -/

section
variable {env : FEnv} {w : FWork} {c : Nat}

/-- A sample of 1 with no retry pending is as it should be. -/
theorem lightSample_high (hl : (w.out c).lightRetry = none) : lightSample env c true w = w := by simp [lightSample, hl]

/-- A first sample of 0 is event 99 and leaves a retry pending. -/
theorem lightSample_low_first (hc : c < w.f.outs.length) (hl : (w.out c).lightRetry = none) :
    99 ∈ (lightSample env c false w).ev ∧ ((lightSample env c false w).out c).lightRetry = some env.tick ∧
      (lightSample env c false w).f.lastFault = some (4, .output, c) := by
  have hw : lightSample env c false w = ((w.raise 99).last 4 .output c).modOut c (fun y => { y with lightRetry := some env.tick }) := by
    simp [lightSample, hl]
  rw [hw]
  exact ⟨mem_raise 99 w, congrArg OutChan.lightRetry (out_modOut_self hc), rfl⟩

/-- A sample of 0 at the retry is permanent. -/
theorem lightSample_low_again (hc : c < w.f.outs.length) (hl : (w.out c).lightRetry ≠ none) (hr : (w.out c).retired = false) :
    106 ∈ (lightSample env c false w).ev ∧ ((lightSample env c false w).out c).retired = true := by
  have hsome : (w.out c).lightRetry.isSome = true := Option.isSome_iff_ne_none.mpr hl
  have hw : lightSample env c false w = retireOut env.tick c (w.modOut c (fun y => { y with count := add32 y.count 1 })) := by
    simp [lightSample, hsome]
  rw [hw]
  exact retireOut_counted_spec (fun _ => rfl) hc hr
end

end Sys2Proof.Machine

namespace Sys2Proof
open Machine

/-- Settles O8: a sample taken by `fieldDone_modOut_self` and `fieldDone_modGrp`, a pulse without one by `fieldDone_abandon`, a light pulse
by the three lemmas on `lightSample`. -/
theorem fieldPulses : Obligations.FieldPulses := by
  unfold Obligations.FieldPulses
  intro s hd ht
  refine ⟨fun c hc hs hv => ?dark, fun g hg hs hv => ?group, fun c hc hs hp hv hh => ?light⟩
  case dark =>
    have hgo : (s.fieldTests && s.inSlot (40 * c + 8) && (nth {} c s.fio.outs).driven) = true := by simp [ht, hs, hv]
    refine ⟨fun b => ?_, _, act_only_doField (fun _ w => w.abandon) hd hgo, fieldDone_abandon s⟩
    exact ⟨_, act_only_doField (fun _ w => w.modOut c (fun o => { o with pulse := true, pulseHigh := b })) hd hgo,
      fieldDone_modOut_self (fun _ o => { o with pulse := true, pulseHigh := b }) hc, fieldDone_modOut_frame _ c s⟩
  case group =>
    have hgo : (s.fieldTests && s.inSlot (970 + 8 * g) && (nth {} g s.fio.groups).driven) = true := by simp [ht, hs, hv]
    refine ⟨fun b => ?_, _, act_only_doField (fun _ w => w.abandon) hd hgo, fieldDone_abandon s⟩
    exact ⟨_, act_only_doField (fun _ w => w.modGrp g (fun x => { x with test := true, testClosed := b })) hd hgo, fieldDone_modGrp _ hg⟩
  case light =>
    have hgo : (s.fieldTests && s.inSlot (40 * c + 28) && s.par (0x6100 + c) 1 == 1 && !(nth {} c s.fio.outs).driven &&
        !outHeld (nth {} c s.fio.outs) (nth {} (groupOfOut c) s.fio.groups)) = true := by simp [ht, hs, hp, hv, hh]
    have hexec : ∀ b, exec (.lightPulse c (some b)) s = .next (fieldDone (fun env w => lightSample env c b w) s) :=
      fun b => act_only_doField _ hd hgo
    refine ⟨fun hl => ⟨_, hexec true, ?high⟩, fun hl => ⟨_, hexec false, ?mismatch⟩, fun hl hr => ⟨_, hexec false, ?again⟩,
      _, act_only_doField (fun _ w => w.abandon) hd hgo, fieldDone_abandon s⟩
    case high =>
      rw [fieldDone_idle (lightSample_high (env := s.fenv) (w := { f := s.fio }) hl)]
      exact ⟨rfl, keeps_cleared s⟩
    case mismatch =>
      obtain ⟨hev, hretry, hlast⟩ := lightSample_low_first (env := s.fenv) (w := { f := s.fio }) hc hl
      refine ⟨occurred_fieldDone (by decide) hev, ?_, ?_, keeps_fieldDone _ s⟩ <;> rw [fieldDone_fio]
      · exact hretry
      · exact hlast
    case again =>
      obtain ⟨hev, hret⟩ := lightSample_low_again (env := s.fenv) (w := { f := s.fio }) hc hl hr
      refine ⟨occurred_fieldDone (by decide) hev, ?_, keeps_fieldDone _ s⟩
      rw [fieldDone_fio]; exact hret

end Sys2Proof
end

section
/-!
Faults of field channels (R343, R366, R368, R379): the reactions to a first fault and to its recurrence, of outputs, groups and couplers.
-/
namespace Sys2Proof.Machine

/-! ### Overloads -/

section
variable {env : FEnv} {w : FWork} {event kind c g : Nat} {ovl : Bool}

/-- A first on-direction fault of an output: the event, and the output alone is held off for 400 ticks (R366, R368). -/
theorem onMismatch_first {u : FWork} (hu : onMismatch env event kind c ovl w = u) (hc : c < w.f.outs.length) (hr : (w.out c).retired = false)
    (hn : (w.out c).onRetry = none) : event ∈ u.ev ∧ (u.out c).driven = false ∧ (u.out c).hold = some (env.tick + 400) ∧
      (u.out c).overload = ovl ∧ u.f.ins = w.f.ins ∧ u.f.groups = w.f.groups ∧ ∀ d, d ≠ c → u.out d = w.out d := by
  have hself := out_modOut_self (w := (openOut env.tick c (w.raise event)).last kind .output c)
    (ko := fun o => { o with hold := some (env.tick + 400), onRetry := some env.tick, overload := ovl })
    (Nat.lt_of_lt_of_eq hc (length_openOut env.tick c (w.raise event)).symm)
  rw [onMismatch, if_neg (by simp [hr]), if_neg (by simp [hn])] at hu
  subst hu
  refine ⟨mem_raise event w, ?_, ?_, ?_, rfl, rfl, fun d hd => (out_modOut_ne hd).trans (out_openOut_ne (w.raise event) hd)⟩ <;> rw [hself]
  exact openIn_openOut env.tick c (w.raise event)

/-- Its recurrence at the retry is permanent (R55). -/
theorem onMismatch_again (hc : c < w.f.outs.length) (hr : (w.out c).retired = false) (ho : (w.out c).onRetry ≠ none)
    (hh : (w.out c).hold = none) :
    106 ∈ (onMismatch env event kind c ovl w).ev ∧ ((onMismatch env event kind c ovl w).out c).retired = true := by
  rw [onMismatch, if_neg (by simp [hr]), if_pos (by simp [hh, Option.isSome_iff_ne_none.mpr ho])]
  exact retireOut_counted_spec (fun _ => rfl) hc hr

/-- A first fault of a return switch: the event, and the group is held off for 400 ticks with every switch open (R366, R368). -/
theorem holdGroup_first {u : FWork} (hu : holdGroup env event kind g w = u) (hg : g < w.f.groups.length) (hr : (w.grp g).retired = false)
    (hn : (w.grp g).onRetry = none) : event ∈ u.ev ∧ (u.grp g).driven = false ∧ (u.grp g).hold = some (env.tick + 400) ∧
      (∀ c ∈ outsOf g, (u.out c).driven = false) ∧ u.f.ins = w.f.ins := by
  obtain ⟨hins, hev, hgroups⟩ := openGroup_frame env.tick g (w.raise event)
  have hlen : (openGroup env.tick g (w.raise event)).f.groups.length = w.f.groups.length := by rw [hgroups, length_modNth]; rfl
  have hself := grp_modGrp_self (w := (openGroup env.tick g (w.raise event)).last kind .group g)
    (kg := fun x => { x with hold := some (env.tick + 400), onRetry := some env.tick }) (Nat.lt_of_lt_of_eq hg hlen.symm)
  rw [holdGroup, if_neg (by simp [hr]), if_neg (by simp [hn])] at hu
  subst hu
  refine ⟨hev.symm ▸ mem_raise event w, ?_, ?_, fun c hc => openIn_openGroup_mem _ hc, hins⟩ <;> rw [hself]
  exact openIn_openGroup_ret env.tick g (w.raise event)
end

/-! ### Couplers -/

section
variable {env : FEnv} {w : FWork} {i c g : Nat}

/-- A first fault of an input's coupler: event 100, and the input reads invalid and 0 (R366). -/
theorem couplerFault_input_first {u : FWork} (hu : couplerFault env (.input i) w = u) (hi : i < w.f.ins.length)
    (hr : (w.inp i).retired = false) (hn : (w.inp i).coupler = none) : 100 ∈ u.ev ∧ (u.inp i).valid = false ∧ (u.inp i).data = false ∧
      (u.inp i).coupler = some env.tick ∧ u.f.outs = w.f.outs := by
  have hself := inp_modIn_self (w := (w.raise 100).last 5 .input i)
    (k := fun x => { x with valid := false, data := false, coupler := if x.coupler.isSome then x.coupler else some env.tick }) hi
  have hin : ((w.raise 100).last 5 .input i).inp i = w.inp i := rfl
  simp only [couplerFault, hr, hn, Bool.false_eq_true, if_false] at hu
  subst hu
  refine ⟨mem_raise 100 w, ?_, ?_, ?_, rfl⟩ <;> rw [hself]
  simp [hin, hn]

/-- Its recurrence in the next tick is permanent (R55). -/
theorem couplerFault_input_again (hi : i < w.f.ins.length) (hr : (w.inp i).retired = false)
    (ha : (w.inp i).coupler = some (env.tick - 1)) (ht : 0 < env.tick) :
    105 ∈ (couplerFault env (.input i) w).ev ∧ ((couplerFault env (.input i) w).inp i).retired = true := by
  have hw : couplerFault env (.input i) w =
      retireIn env.tick i (w.modIn i (fun x => { x with valid := false, data := false, count := add32 x.count 1 })) := by
    simp [couplerFault, hr, ha, Nat.sub_add_cancel ht]
  rw [hw]
  exact retireIn_counted_spec (fun _ => rfl) hi hr

/-- A first fault of an output's coupler: event 100, and the output opens. -/
theorem couplerFault_output_first (hr : (w.out c).retired = false) (hn : (w.out c).coupler = none) :
    100 ∈ (couplerFault env (.output c) w).ev ∧ ((couplerFault env (.output c) w).out c).driven = false := by
  have hopen := openIn_openOut env.tick c ((w.raise 100).last 5 .output c)
  simp only [couplerFault, hr, hn, Bool.false_eq_true, if_false]
  exact ⟨mem_raise 100 w, nth_modNth_keeps (P := fun o : OutChan => o.driven = false) _ _ (fun _ ho => by exact ho) c c _ hopen⟩

/-- A first fault of a return switch's coupler: event 100, and the return switch opens. -/
theorem couplerFault_ret_first (hr : (w.grp g).retired = false) (hn : (w.grp g).coupler = none) :
    100 ∈ (couplerFault env (.ret g) w).ev ∧ ((couplerFault env (.ret g) w).grp g).driven = false := by
  simp only [couplerFault, hr, hn, Bool.false_eq_true, if_false]
  exact ⟨mem_raise 100 w, nth_modNth_makes (P := fun o : Group => o.driven = false) _ _ rfl (fun _ => by rfl) g w.f.groups⟩
end

section
variable {s : State} {k : Coupler}

/-- The controller's work at a coupler fault: its tick is that of the check bits. -/
def couplerWork (k : Coupler) (s : State) (env : FEnv) (w : FWork) : FWork := couplerFault { env with tick := s.couplerTick } k w

/-- What a COUPLER_FAULT leaves. -/
def couplerDone (k : Coupler) (s : State) : State :=
  if s.frame.committed then fieldDone (couplerWork k s) s
  else { fieldDone (couplerWork k s) s with img := dropSample k (fieldDone (couplerWork k s) s).img }

theorem exec_couplerFault (k : Coupler) (hd : s.dead = false) (hr : s.fieldRuns = true) :
    exec (.couplerFault k) s = .next (couplerDone k s) := by
  show act _ s = _
  have hgo : State.fieldRuns { s with emitted := [] } = true := hr
  rw [act_live _ hd, only_true _ hgo]; rfl

@[simp] theorem couplerDone_fio : (couplerDone k s).fio = (couplerWork k s s.fenv { f := s.fio }).f := by
  unfold couplerDone; split <;> exact fieldDone_fio

theorem couplerDone_evt : (couplerDone k s).evt = (fieldDone (couplerWork k s) s).evt := by unfold couplerDone; split <;> rfl

theorem occurred_couplerDone {n : Nat} (hn : n < 256) (h : n ∈ (couplerWork k s s.fenv { f := s.fio }).ev) : occurred n s (couplerDone k s) := by
  have := occurred_fieldDone hn h
  unfold occurred at *
  rwa [couplerDone_evt]

theorem keeps_couplerDone (k : Coupler) (s : State) : keeps (noted ++ [.fio, .img]) s (couplerDone k s) := by
  have hf : keeps (noted ++ [.fio, .img]) s (fieldDone (couplerWork k s) s) := keeps_mono (keeps_fieldDone _ s) (by decide)
  unfold couplerDone
  exact keeps_ite (fun _ => hf) (fun _ => keeps_then hf (b := [.img]) (by simp [keeps_iff]) (by decide))

/-- The image of the tick loses the sample until the commit, and is as it was after it (R366). -/
theorem couplerDone_img : (couplerDone k s).img = if s.frame.committed then s.img else dropSample k s.img := by
  have hi := keeps_same (keeps_fieldDone (couplerWork k s) s) (p := .img) (by decide)
  simp only [samePart] at hi
  unfold couplerDone; split <;> simp [hi]

/-- The fault of a coupler that carries no input leaves the image. -/
theorem keeps_couplerDone_switch (hk : ∀ m, dropSample k m = m) :
    (couplerDone k s).img = s.img ∧ keeps (noted ++ [.fio]) s (couplerDone k s) := by
  have he : couplerDone k s = fieldDone (couplerWork k s) s := by unfold couplerDone; rw [hk]; exact ite_self _
  have hkeep := keeps_fieldDone (couplerWork k s) s
  rw [he]
  exact ⟨keeps_same hkeep (p := .img) (by decide), hkeep⟩
end

end Sys2Proof.Machine

namespace Sys2Proof
open Machine

/-- Settles O9: each fault by the lemma on its reaction (`onMismatch`, `holdGroup`, `couplerFault`), a retirement by what
`FWork.Onward` says the block limit of the group leaves in place. -/
theorem fieldFaults : Obligations.FieldFaults := by
  unfold Obligations.FieldFaults
  intro s hd
  refine ⟨fun c hr hv ho => ⟨fun hn => ?overload, fun hn hh => ?recurs⟩, fun g hr hv ho hn => ?group, fun c hr hv ho => ?openLoad,
    fun c => ?cleared, fun i hi hr ho => ⟨fun hn => ?input, fun ha ht => ?inputAgain⟩, fun c hr ho hn => ?output, fun g hr ho hn => ?ret,
    fun c hc => ?expiry⟩
  case overload =>
    obtain ⟨hev, hdr, hhold, hovl, hins, hgrp, hne⟩ := onMismatch_first (env := s.fenv) (w := { f := s.fio }) (event := 101)
      (kind := 6) (ovl := true) rfl (out_lt_of_driven hv) ho hn
    refine ⟨_, act_only_doField (fun env w => onMismatch env 101 6 c true w) hd (Bool.and_eq_true_iff.mpr ⟨hr, hv⟩),
      occurred_fieldDone (by decide) hev, ?_⟩
    rw [fieldDone_fio]
    exact ⟨hdr, hhold, hovl, hins, hgrp, hne, keeps_fieldDone _ s⟩
  case recurs =>
    obtain ⟨hev, hret⟩ := onMismatch_again (env := s.fenv) (w := { f := s.fio }) (event := 101) (kind := 6) (ovl := true)
      (out_lt_of_driven hv) ho hn hh
    refine ⟨_, act_only_doField (fun env w => onMismatch env 101 6 c true w) hd (Bool.and_eq_true_iff.mpr ⟨hr, hv⟩),
      occurred_fieldDone (by decide) hev, ?_, keeps_fieldDone _ s⟩
    rw [fieldDone_fio]; exact hret
  case group =>
    obtain ⟨hev, hdr, hhold, houts, hins⟩ := holdGroup_first (env := s.fenv) (w := { f := s.fio }) (event := 102) (kind := 7) rfl
      (grp_lt_of_driven hv) ho hn
    refine ⟨_, act_only_doField (fun env w => holdGroup env 102 7 g w) hd (Bool.and_eq_true_iff.mpr ⟨hr, hv⟩),
      occurred_fieldDone (by decide) hev, ?_⟩
    rw [fieldDone_fio]
    exact ⟨hdr, hhold, houts, hins, keeps_fieldDone _ s⟩
  case openLoad =>
    have hgo : (s.fieldRuns && (nth {} c s.fio.outs).driven && !(nth {} c s.fio.outs).openLoad) = true := by simp [hr, hv, ho]
    refine ⟨_, act_only_doField (fun _ w => (w.modOut c (fun o => { o with openLoad := true })).raise 103) hd hgo,
      occurred_fieldDone (by decide) (mem_raise 103 _), ?_⟩
    rw [fieldDone_fio]
    exact ⟨out_modOut_self (w := { f := s.fio }) (out_lt_of_driven hv), fun d hne => out_modOut_ne (w := { f := s.fio }) hne, rfl, rfl,
      keeps_fieldDone _ s⟩
  case cleared =>
    refine ⟨_, act_doField (fun _ w => w.modOut c (fun o => { o with openLoad := false })) hd, ?_, fieldDone_modOut_frame _ c s⟩
    rw [fieldDone_fio]
    exact nth_modNth_makes (P := fun o : OutChan => o.openLoad = false) _ _ rfl (fun _ => rfl) c s.fio.outs
  case input =>
    obtain ⟨hev, hval, hdata, hcpl, houts⟩ := couplerFault_input_first (env := { s.fenv with tick := s.couplerTick })
      (w := { f := s.fio }) rfl hi ho hn
    refine ⟨_, exec_couplerFault (.input i) hd hr, occurred_couplerDone (by decide) hev, ?_⟩
    rw [couplerDone_fio, couplerDone_img, couplerWork]
    refine ⟨hval, hdata, hcpl, ?_, houts, keeps_couplerDone _ s⟩
    split
    · rfl
    · exact ⟨testBit_setBit_self i false s.img.valid, testBit_setBit_self i false s.img.chans⟩
  case inputAgain =>
    obtain ⟨hev, hret⟩ := couplerFault_input_again (env := { s.fenv with tick := s.couplerTick }) (w := { f := s.fio }) hi ho ha ht
    refine ⟨_, exec_couplerFault (.input i) hd hr, occurred_couplerDone (by decide) hev, ?_, keeps_couplerDone _ s⟩
    rw [couplerDone_fio]; exact hret
  case output =>
    obtain ⟨hev, hdr⟩ := couplerFault_output_first (env := { s.fenv with tick := s.couplerTick }) (w := { f := s.fio }) ho hn
    refine ⟨_, exec_couplerFault (.output c) hd hr, occurred_couplerDone (by decide) hev, ?_, keeps_couplerDone_switch fun _ => rfl⟩
    rw [couplerDone_fio]; exact hdr
  case ret =>
    obtain ⟨hev, hdr⟩ := couplerFault_ret_first (env := { s.fenv with tick := s.couplerTick }) (w := { f := s.fio }) ho hn
    refine ⟨_, exec_couplerFault (.ret g) hd hr, occurred_couplerDone (by decide) hev, ?_, keeps_couplerDone_switch fun _ => rfl⟩
    rw [couplerDone_fio]; exact hdr
  case expiry =>
    exact ⟨_, act_doField (fun env w => w.modOut c (fun o => { o with hold := endHold env.tick o.hold })) hd,
      fieldDone_modOut_self (fun env o => { o with hold := endHold env.tick o.hold }) hc, fieldDone_modOut_frame _ c s⟩

end Sys2Proof
end

section
/-!
The Field region: a jammed press, the blanking, the region reset with its completion, and the loss of the region (R344, R372, R376 to R378).
-/
namespace Sys2Proof.Machine

section
variable {s : State} {r : Req}

/-- Every switch open (R487). -/
def allOpen (s : State) : State := doField (fun env w => openAll env.tick w) s

theorem keeps_allOpen (s : State) : keeps [.fio, .evt, .notices] s (allOpen s) := keeps_doField _ s

/-- The region as its reset starts: every input is invalid and 0. -/
def resetRunning (s : State) : State :=
  { s with fio := { s.fio with
      reset := .running, ins := s.fio.ins.map (fun x => { x with valid := false, data := false, faults := [] }) } }

/-- What an accepted write of 0x6020:01 does (R378). -/
def resetStarted (s : State) : State := resetRunning (allOpen s)

/-- In CONFIGURE or STANDBY the write of 1 is accepted while no reset runs. -/
theorem hostWrite_fieldReset (hw : mayWrite r 1 s) (hm : s.sys.mode = .configure ∨ s.sys.mode = .standby) (hi : s.fio.reset ≠ .running) :
    hostWrite r 0x6020 1 (fieldResetJob 1) s = answer r 2 0 [] (resetStarted s) := by
  obtain ⟨x, hx, hl, hp⟩ := hw
  have hmode : (s.sys.mode != .configure && s.sys.mode != .standby) = false := by rcases hm with h | h <;> simp [h]
  have hbad : ∀ c ∈ (fieldResetJob 1 s).bad, c = 0 := by simp [fieldResetJob, bad, hmode, hi]
  have hserved : served s.sys.mode 0x6020 1 = true := by rcases hm with h | h <;> rw [h] <;> rfl
  have heff : (fieldResetJob 1 s).eff s = resetStarted s := rfl
  rw [← heff]
  exact hostWrite_accepted hx (by simp [fieldResetJob]) hl hp (by simp [fieldResetJob]) hbad hserved (by simp [fieldResetJob])

theorem keeps_resetStarted (s : State) : keeps [.fio, .evt, .notices] s (resetStarted s) :=
  keeps_then (keeps_allOpen s) (b := [.fio]) (by simp [keeps_iff, resetStarted, resetRunning]) (by decide)

theorem resetRunning_fio (s : State) : (resetRunning s).fio.reset = .running ∧ (outputsOff s → outputsOff (resetRunning s)) ∧
    ∀ x ∈ (resetRunning s).fio.ins, x.valid = false ∧ x.data = false := by
  refine ⟨rfl, id, fun x hx => ?_⟩
  obtain ⟨y, -, rfl⟩ := List.mem_map.mp hx
  exact ⟨rfl, rfl⟩

/-- A reset that has started runs, with every output off and every input invalid and 0. -/
theorem resetStarted_fio (s : State) : (resetStarted s).fio.reset = .running ∧ outputsOff (resetStarted s) ∧
    ∀ x ∈ (resetStarted s).fio.ins, x.valid = false ∧ x.data = false := by
  obtain ⟨hrun, hoff, hins⟩ := resetRunning_fio (allOpen s)
  exact ⟨hrun, hoff (outputsOff_doOpenAll s), hins⟩

theorem fio_notMem_replyParts (c : Carrier) : Part.fio ∉ replyParts c := by cases c <;> decide

/-- Every reply may touch the sessions. -/
theorem replyParts_notices (c : Carrier) : ∀ p ∈ replyParts c ++ [.fio, .evt, .notices], p ∈ replyParts c ++ [.fio, .evt] := by
  cases c <;> decide

/-- A reply leaves the Field region. -/
theorem answer_fio (r : Req) (op st : Nat) (body : List Byte) (s : State) : (answer r op st body s).fio = s.fio :=
  keeps_same (keeps_answer r op st body s) (p := .fio) (fio_notMem_replyParts _)

/-! ### Completion -/

/-- The region as a reset that completes finds it, before the switch test. -/
def resetEnded (s : State) : State := { s with emitted := [], fio := { regionCleared s.fio with reset := .done } }

/-- What a reset that completes leaves. -/
def resetCompleted (bi bo br : List Nat) (s : State) : State :=
  raise 120 (doField (fun env w => switchTest env.tick bi bo br w) (resetEnded s))

theorem exec_fieldRegionResetCompleted (bi bo br : List Nat) (hd : s.dead = false) (hr : s.fio.reset = .running) :
    exec (.fieldRegionResetCompleted bi bo br) s = .next (resetCompleted bi bo br s) := by
  show act _ s = _
  rw [act_live _ hd, only_true _ (by simp [hr])]; rfl

/-- The switch test retires channels and leaves the reset ended (R376, R378). -/
theorem resetCompleted_spec (bi bo br : List Nat) (s : State) : occurred 120 s (resetCompleted bi bo br s) ∧
    (resetCompleted bi bo br s).fio.reset = .done ∧ keeps (noted ++ [.fio]) s (resetCompleted bi bo br s) := by
  have htest := keeps_doField (fun env w => switchTest env.tick bi bo br w) (resetEnded s)
  have htick := congrArg Frame.tick (keeps_same htest (p := .frame) (by decide))
  refine ⟨occurred_tick htick (occurred_raise (by decide) _), ?_,
    keeps_then (keeps_comp (a := [.fio, .sent]) (t := resetEnded s) ?_ htest (by decide) (by decide)) (keeps_raise 120 _) (by decide)⟩
  · rw [resetCompleted, raise_fio, doField_fio]
    exact (onward_switchTest _ bi bo br _).reset
  · simp [keeps_iff, resetEnded]

/-! ### The region lost -/

/-- In a mode that falls to SAFE a trigger asks for it, unless one has already. -/
theorem safeTrigger_asks (cause : Nat) (hm : s.sys.mode = .run ∨ s.sys.mode = .configure ∨ s.sys.mode = .standby) (hp : s.sys.safePend = none) :
    (safeTrigger cause s).sys.safePend = some cause := by rcases hm with h | h | h <;> simp [safeTrigger, h, hp]

/-- The region does not run any more. -/
def regionDown (s : State) : State := { s with fio := { s.fio with lost := true, running := false } }

theorem keeps_regionDown (s : State) : keeps [.fio] s (regionDown s) := by simp [keeps_iff, regionDown]

theorem regionDown_fio (s : State) : (regionDown s).fio.lost = true ∧ (regionDown s).fio.running = false ∧
    (outputsOff s → outputsOff (regionDown s)) := ⟨rfl, rfl, id⟩

theorem fieldLost_eq (cause : Nat) (s : State) : fieldLost cause s = safeTrigger cause (regionDown (allOpen s)) := rfl

theorem keeps_fieldLost (cause : Nat) (s : State) : keeps [.fio, .evt, .notices, .sys] s (fieldLost cause s) :=
  keeps_comp (keeps_then (keeps_allOpen s) (keeps_regionDown _) (by decide)) (keeps_safeTrigger cause _) (by decide) (by decide)

/-- The loss of the region: every output off, and SAFE asked for (R25, R344, R487). -/
theorem fieldLost_spec (cause : Nat) (s : State) : (fieldLost cause s).fio.lost = true ∧ (fieldLost cause s).fio.running = false ∧
    outputsOff (fieldLost cause s) ∧ ((s.sys.mode = .run ∨ s.sys.mode = .configure ∨ s.sys.mode = .standby) → s.sys.safePend = none →
      (fieldLost cause s).sys.safePend = some cause) := by
  obtain ⟨hlost, hrun, hoff⟩ := regionDown_fio (allOpen s)
  have hsys : (regionDown (allOpen s)).sys = s.sys :=
    keeps_same (keeps_then (keeps_allOpen s) (keeps_regionDown _) (by decide)) (p := .sys) (by decide)
  have htrig := keeps_safeTrigger cause (regionDown (allOpen s))
  have hfio := keeps_same htrig (p := .fio) (by decide)
  rw [fieldLost_eq]
  refine ⟨hfio ▸ hlost, hfio ▸ hrun, outputsOff_keeps htrig (by decide) (hoff (outputsOff_doOpenAll s)), fun hm hp => ?_⟩
  rw [← hsys] at hm hp
  exact safeTrigger_asks cause hm hp

/-- A lockstep mismatch loses the region, for a cause that is a free value. -/
theorem exec_lockstepMismatch (hd : s.dead = false) :
    ∃ cause, exec .lockstepMismatch s = .next (fieldLost cause { s with emitted := [], freeCtr := s.freeCtr + 1 }) := by
  refine ⟨(fresh 8 { s with emitted := [] }).1, ?_⟩
  show execLockstepMismatch s = _
  rw [execLockstepMismatch, act_live _ hd]; rfl
end

end Sys2Proof.Machine

namespace Sys2Proof
open Machine

/-- Settles O10: the reset by `hostWrite_fieldReset` and `resetStarted_fio`, its completion by `resetCompleted_spec`, the mismatch by
`fieldLost_spec`. -/
theorem fieldRegion : Obligations.FieldRegion := by
  unfold Obligations.FieldRegion
  intro s hd
  refine ⟨fun g p hg hf hj hn hp h12 => ?press, fun hb hu => ?blank, fun r hw hm hi => ?reset, fun bi bo br hr => ?completed, ?lockstep⟩
  case press =>
    have hgo : ((nth {} g s.fio.groups).filt.st && !(nth {} g s.fio.groups).jam && (nth {} g s.fio.groups).pend.isSome &&
        (match (nth {} g s.fio.groups).press with
          | some r => decide (12000 ≤ s.tick - r)
          | none => false)) = true := by
      have h12 : 12000 ≤ s.tick - p := Nat.le_sub_of_add_le (Nat.add_comm p 12000 ▸ h12)
      simp [hf, hj, hp, h12, Option.isSome_iff_ne_none.mpr hn]
    refine ⟨_, act_only_doField (fun _ w => (w.modGrp g (fun y => { y with jam := true })).raise 118) hd hgo,
      occurred_fieldDone (by decide) (mem_raise 118 _), ?_⟩
    rw [fieldDone_fio]
    exact ⟨grp_modGrp_self (w := { f := s.fio }) hg, fun d hne => grp_modGrp_ne (w := { f := s.fio }) hne, rfl, rfl, keeps_fieldDone _ s⟩
  case blank =>
    have hgo : (s.fio.blank && decide (s.fio.blankUntil ≤ s.tick)) = true := by simp [hb, State.tick, hu]
    refine ⟨{ s with emitted := [], fio := { s.fio with blank := false } }, ?_, rfl, by simp [keeps_iff]⟩
    show act _ s = _
    rw [act_live _ hd, only_true _ hgo]
  case reset =>
    obtain ⟨hrun, hoff, hins⟩ := resetStarted_fio { s with emitted := [] }
    have hexec : exec (.fieldRegionReset r 1) s = .next (answer r 2 0 [] (resetStarted { s with emitted := [] })) :=
      (act_live _ hd).trans (congrArg _ (hostWrite_fieldReset (s := { s with emitted := [] }) hw hm hi))
    have hkeep := keeps_cleared_answer (r := r) (op := 2) (st := 0) (body := []) (keeps_resetStarted { s with emitted := [] })
    refine ⟨_, hexec, replied_answer _ _ _ _ _, ?_, outputsOff_keeps (keeps_answer r 2 0 [] _) (fio_notMem_replyParts _) hoff, ?_,
      keeps_mono hkeep (replyParts_notices _)⟩ <;> rw [answer_fio]
    · exact hrun
    · exact hins
  case completed => exact ⟨_, exec_fieldRegionResetCompleted bi bo br hd hr, resetCompleted_spec bi bo br s⟩
  case lockstep =>
    obtain ⟨cause, hexec⟩ := exec_lockstepMismatch hd
    obtain ⟨hlost, hrun, hoff, hsafe⟩ := fieldLost_spec cause { s with emitted := [], freeCtr := s.freeCtr + 1 }
    refine ⟨_, hexec, hlost, hrun, hoff, fun hm hp => ?_, keeps_comp (a := [.sent, .free]) ?_ (keeps_fieldLost cause _) (by decide) (by decide)⟩
    · rw [hsafe hm hp]; exact Option.some_ne_none cause
    · simp [keeps_iff]

end Sys2Proof
end

section
/-!
The field supplies and their domains (R371, R372, R642, R643): what the reaction to a lost supply opens, and what it leaves of a supply that
is out already.
-/
namespace Sys2Proof.Machine

/-! ### One group of a lost supply -/

section
variable {w : FWork} {t code g d c n : Nat} {b : Bool} {env : FEnv}

theorem openIn_modGrp {k : Group → Group} (hk : ∀ x, x.driven = false → (k x).driven = false) (g : Nat) (h : openIn w b n) :
    openIn (w.modGrp g k) b n := by
  cases b with
  | true => exact h
  | false => exact nth_modNth_keeps (P := fun x : Group => x.driven = false) _ _ hk g n w.f.groups h

theorem openIn_modOut {k : OutChan → OutChan} (hk : ∀ x, x.driven = false → (k x).driven = false) (c : Nat) (h : openIn w b n) :
    openIn (w.modOut c k) b n := by
  cases b with
  | true => exact nth_modNth_keeps (P := fun x : OutChan => x.driven = false) _ _ hk c n w.f.outs h
  | false => exact h

/-- What the supply reaction does on a group after its switches have opened closes none. -/
theorem openIn_supplyOut (h : openIn (openGroup t g w) b n) : openIn (supplyOut t code g w) b n := by
  unfold supplyOut; dsimp only
  refine List.foldlRecOn (motive := fun u => openIn u b n) _ _ ?_ (fun _ hu _ _ => hu)
  refine List.foldlRecOn (motive := fun u => openIn u b n) _ _ ?_ (fun _ hu c _ => openIn_modOut (fun _ hx => by exact hx) c hu)
  refine openIn_modGrp (fun _ hx => by exact hx) g ?_
  refine List.foldlRecOn (motive := fun u => openIn u b n) _ _ ?_ (fun _ hu c _ => by split <;> exact hu)
  have hmod := openIn_modGrp (k := fun x => { x with
      unver := true, inZero := true, back := false, sup := code, pend := none, pendDone := false,
      forced := none, hold := none, onRetry := none, openRetry := none }) (fun _ hx => hx) g h
  split <;> exact hmod

/-- The supply reaction on a group leaves the other groups. -/
theorem grp_supplyOut_ne (h : d ≠ g) : (supplyOut t code g w).grp d = w.grp d := by
  have hopen : (openGroup t g w).grp d = w.grp d := by
    obtain ⟨-, -, hgroups⟩ := openGroup_frame t g w
    rw [FWork.grp, hgroups]; exact nth_modNth_ne _ _ g d w.f.groups h
  unfold supplyOut; dsimp only
  refine List.foldlRecOn (motive := fun u : FWork => u.grp d = w.grp d) _ _ ?_ (fun _ hu _ _ => hu)
  refine List.foldlRecOn (motive := fun u : FWork => u.grp d = w.grp d) _ _ ?_ (fun _ hu _ _ => hu)
  refine (grp_modGrp_ne h).trans ?_
  refine List.foldlRecOn (motive := fun u : FWork => u.grp d = w.grp d) _ _ ?_ (fun _ hu _ _ => by split <;> exact hu)
  split <;> exact (grp_modGrp_ne h).trans hopen

/-- The reaction on one group of a supply: a group that is out already takes the code alone. -/
def supplyStep (env : FEnv) (code : Nat) (w : FWork) (g : Nat) : FWork :=
  if (w.grp g).inZero then w.modGrp g (fun x => { x with sup := code, back := false }) else supplyOut env.tick code g w

theorem supplyStep_out (h : (w.grp g).inZero = true) : supplyStep env code w g = w.modGrp g (fun x => { x with sup := code, back := false }) :=
  if_pos h

theorem supplyStep_in (h : (w.grp g).inZero = false) : supplyStep env code w g = supplyOut env.tick code g w := if_neg (by simp [h])

theorem grp_supplyStep_ne (h : d ≠ g) : (supplyStep env code w g).grp d = w.grp d := by
  unfold supplyStep
  split
  · exact grp_modGrp_ne h
  · exact grp_supplyOut_ne h

theorem openIn_supplyStep (h : openIn w b n) : openIn (supplyStep env code w g) b n := by
  unfold supplyStep
  split
  · exact openIn_modGrp (fun _ hx => by exact hx) g h
  · exact openIn_supplyOut (openIn_openGroup_mono env.tick g h)

/-- The reaction opens the outputs of a group that was in. -/
theorem supplyStep_opens (h : (w.grp g).inZero = false) (hc : c ∈ outsOf g) : ((supplyStep env code w g).out c).driven = false := by
  rw [supplyStep_in h]; exact openIn_supplyOut (b := true) (openIn_openGroup_mem w hc)
end

/-! ### A lost supply -/

section
variable {s : State} {k code : Nat}

theorem supplyLost_fio (k code : Nat) (s : State) : (supplyLost k code s).fio =
    (supplyStep s.fenv code (supplyStep s.fenv code { f := s.fio } (2 * k)) (2 * k + 1)).f := by
  unfold supplyLost; rw [doField_fio]; rfl

theorem keeps_supplyLost (k code : Nat) (s : State) : keeps [.fio, .evt, .notices] s (supplyLost k code s) := keeps_doField _ s

/-- A lost supply opens the outputs of its groups that were in. -/
theorem supplyLost_opens {g c : Nat} (hg : g ∈ groupsOf k) (hin : (nth {} g s.fio.groups).inZero = false) (hc : c ∈ outsOf g) :
    (nth {} c (supplyLost k code s).fio.outs).driven = false := by
  rw [supplyLost_fio]
  have hmem : g = 2 * k ∨ g = 2 * k + 1 := by simpa [groupsOf] using hg
  rcases hmem with rfl | rfl
  · exact openIn_supplyStep (b := true) (supplyStep_opens (w := { f := s.fio }) hin hc)
  · refine supplyStep_opens ?_ hc
    rw [grp_supplyStep_ne (Nat.succ_ne_self _)]; exact hin

/-- Of groups that are all out it changes no channel. -/
theorem supplyLost_out (hout : ∀ g ∈ groupsOf k, (nth {} g s.fio.groups).inZero = true) :
    (supplyLost k code s).fio.outs = s.fio.outs ∧ (supplyLost k code s).fio.ins = s.fio.ins := by
  have hfst : (({ f := s.fio } : FWork).grp (2 * k)).inZero = true := hout _ (by simp [groupsOf])
  have hsnd : ((supplyStep s.fenv code { f := s.fio } (2 * k)).grp (2 * k + 1)).inZero = true := by
    rw [grp_supplyStep_ne (Nat.succ_ne_self _)]; exact hout _ (by simp [groupsOf])
  rw [supplyLost_fio, supplyStep_out hsnd, supplyStep_out hfst]
  exact ⟨rfl, rfl⟩

/-! ### The commands -/

/-- An occurrence of a supply out of range counted (R371). -/
def supplyCounted (k : Nat) (s : State) : State :=
  raise (111 + k) { s with fio :=
    { s.fio with supplies := modNth k (fun x => { x with occurrences := add32 x.occurrences 1 }) s.fio.supplies } }

theorem exec_fieldSupplyOutOfRange (hd : s.dead = false) (hr : s.fieldRuns = true) (hlo : 1 ≤ code) (hhi : code ≤ 3) :
    exec (.fieldSupplyOutOfRange k code) s = .next (if s.supplyIsOut k then supplyLost k code { s with emitted := [] }
      else supplyCounted k (supplyLost k code { s with emitted := [] })) := by
  have hgo : (s.fieldRuns && decide (1 ≤ code) && decide (code ≤ 3)) = true := by simp [hr, hlo, hhi]
  show act _ s = _
  rw [act_live _ hd, only_true _ hgo]; rfl

/-- An occurrence counted is event 111 + supply, and changes no channel. -/
theorem supplyCounted_spec (hk : k < 3) (s : State) : occurred (111 + k) s (supplyCounted k s) ∧
    (supplyCounted k s).fio.outs = s.fio.outs ∧ keeps (noted ++ [.fio]) s (supplyCounted k s) := by
  refine ⟨occurred_raise (by omega) { s with fio := _ }, by simp [supplyCounted], ?_⟩
  exact keeps_comp (a := [.fio]) (t := { s with fio := _ }) (by simp [keeps_iff]) (keeps_raise _ _) (by decide) (by decide)

/-- The power registers as the loss of a field-side domain leaves them. -/
def domainOff (k : Nat) (s : State) : State :=
  { s with emitted := [], pwr := { s.pwr with lost := setBit (8 + k) true s.pwr.lost, domains := setBit (8 + k) false s.pwr.domains } }

/-- The state in which the reaction to a lost field-side domain runs: event 12 + supply, and a free value drawn. -/
def domainNoted (k : Nat) (s : State) : State := (fresh 2 (raise (12 + k) (domainOff k s))).2

theorem exec_fieldDomainLost (hd : s.dead = false) (hl : s.pwr.lost.testBit (8 + k) = false) :
    ∃ code, exec (.fieldDomainLost k) s = .next (supplyLost k code (domainNoted k s)) := by
  refine ⟨(fresh 2 (raise (12 + k) (domainOff k s))).1, ?_⟩
  show act (fieldDomainLost k) s = _
  rw [act_live _ hd, fieldDomainLost, if_neg (by simp [hl])]; rfl

theorem domainNoted_spec (hk : k < 3) (s : State) : occurred (12 + k) s (domainNoted k s) ∧
    (domainNoted k s).pwr.lost.testBit (8 + k) = true ∧ (domainNoted k s).fio = s.fio ∧
    keeps (noted ++ [.pwr, .free]) s (domainNoted k s) := by
  refine ⟨occurred_raise (n := 12 + k) (by omega) (domainOff k s), ?_, by simp [domainNoted, domainOff, fresh], ?_⟩
  · simp [domainNoted, domainOff, fresh, testBit_setBit_self]
  · exact keeps_then (keeps_comp (a := [.sent, .pwr]) (t := domainOff k s) (by simp [keeps_iff, domainOff]) (keeps_raise _ _) (by decide) (by decide))
      (keeps_fresh 2 _) (by decide)

/-- The groups of a supply that comes back return at the next latch (R372). -/
def supplyBack (w : FWork) (g : Nat) : FWork := w.modGrp g (fun x => { x with back := x.inZero })

/-- What a FIELD_SUPPLY_IN_RANGE leaves. -/
def supplyReturned (k : Nat) (s : State) : State := raise (114 + k) (fieldDone (fun _ w => (groupsOf k).foldl supplyBack w) s)

theorem exec_fieldSupplyInRange (hd : s.dead = false) (hr : s.fieldRuns = true) (hl : s.pwr.lost.testBit (8 + k) = false)
    (ho : s.supplyIsOut k = true) : exec (.fieldSupplyInRange k) s = .next (supplyReturned k s) := by
  have hgo : (s.fieldRuns && !s.pwr.lost.testBit (8 + k) && s.supplyIsOut k) = true := by simp [hr, hl, ho]
  show act _ s = _
  rw [act_live _ hd, only_true _ hgo]; rfl

theorem grp_supplyBack_self (w : FWork) (g : Nat) : ((supplyBack w g).grp g).back = (w.grp g).inZero ∧
    ((supplyBack w g).grp g).inZero = (w.grp g).inZero := by
  by_cases hg : g < w.f.groups.length
  · rw [supplyBack, grp_modGrp_self hg]; exact ⟨rfl, rfl⟩
  · have hw : w.grp g = {} := nth_of_le _ (by omega)
    have hb : (supplyBack w g).grp g = {} := nth_of_le _ (by simp [supplyBack, FWork.modGrp]; omega)
    rw [hw, hb]; exact ⟨rfl, rfl⟩

theorem supplyReturned_spec (hk : k < 3) (s : State) : occurred (114 + k) s (supplyReturned k s) ∧
    (∀ g ∈ groupsOf k, (nth {} g (supplyReturned k s).fio.groups).back = (nth {} g s.fio.groups).inZero) ∧
    (supplyReturned k s).fio.ins = s.fio.ins ∧ (supplyReturned k s).fio.outs = s.fio.outs ∧ keeps (noted ++ [.fio]) s (supplyReturned k s) := by
  have hkeep := keeps_fieldDone (fun _ w => (groupsOf k).foldl supplyBack w) s
  have htick := congrArg Frame.tick (keeps_same hkeep (p := .frame) (by decide))
  have hfio : (supplyReturned k s).fio = (supplyBack (supplyBack { f := s.fio } (2 * k)) (2 * k + 1)).f := by
    rw [supplyReturned, raise_fio, fieldDone_fio]; rfl
  refine ⟨occurred_tick htick (occurred_raise (by omega) _), fun g hg => ?_, by rw [hfio]; rfl, by rw [hfio]; rfl,
    keeps_then hkeep (keeps_raise _ _) (by decide)⟩
  rw [hfio]
  have hmem : g = 2 * k ∨ g = 2 * k + 1 := by simpa [groupsOf] using hg
  rcases hmem with rfl | rfl
  · have hne : (supplyBack (supplyBack { f := s.fio } (2 * k)) (2 * k + 1)).grp (2 * k) = (supplyBack { f := s.fio } (2 * k)).grp (2 * k) :=
      grp_modGrp_ne (Nat.succ_ne_self _).symm
    exact (congrArg Group.back hne).trans (grp_supplyBack_self _ _).1
  · have hne : (supplyBack { f := s.fio } (2 * k)).grp (2 * k + 1) = nth {} (2 * k + 1) s.fio.groups := grp_modGrp_ne (Nat.succ_ne_self _)
    exact (grp_supplyBack_self _ _).1.trans (congrArg Group.inZero hne)

/-- A command that notes an event and writes the power registers (R646). -/
theorem act_only_raise_pwr {n : Nat} (hn : n < 256) {c : State → Bool} (p : State → Pwr) (hd : s.dead = false)
    (hc : c { s with emitted := [] } = true) (hp : p { s with emitted := [] } = p s) :
    ∃ t, act (only c (fun s => raise n { s with pwr := p s })) s = .next t ∧ occurred n s t ∧ t.pwr = p s ∧ keeps (noted ++ [.pwr]) s t := by
  refine ⟨_, by rw [act_live _ hd, only_true _ hc], occurred_raise hn { s with emitted := [], pwr := _ }, by rw [raise_pwr, hp], ?_⟩
  exact keeps_comp (a := [.sent, .pwr]) (t := { s with emitted := [], pwr := _ }) (by simp [keeps_iff]) (keeps_raise n _) (by decide) (by decide)

theorem only_false {c : State → Bool} (f : State → State) (h : c s = false) : only c f s = s := by simp [only, h]

/-- A command whose trigger does not stand. -/
theorem act_only_false {c : State → Bool} (f : State → State) (hd : s.dead = false) (hc : c { s with emitted := [] } = false) :
    ∃ t, act (only c f) s = .next t ∧ keeps [.sent] s t :=
  ⟨_, by rw [act_live _ hd, only_false f hc], keeps_cleared s⟩
end

end Sys2Proof.Machine

namespace Sys2Proof
open Machine

/-- The field supplies and their domains. -/
theorem fieldSupplyEvents_holds : fieldSupplyEvents := by
  intro s k hd hk
  refine ⟨fun hl => ?lost, fun hl => ?back, fun code hr hlo hhi hout => ?still, fun code hr hlo hhi hin => ?out, fun hr hl ho => ?inRange⟩
  case lost =>
    obtain ⟨code, hexec⟩ := exec_fieldDomainLost hd hl
    obtain ⟨hev, hbit, hfio, hkeep⟩ := domainNoted_spec hk s
    have hlost := keeps_supplyLost k code (domainNoted k s)
    have hpwr := keeps_same hlost (p := .pwr) (by decide)
    have htick := congrArg Frame.tick (keeps_same hkeep (p := .frame) (by decide))
    refine ⟨_, hexec, (evtGrows_doField _ _).2 s _ htick hev, ?_, fun g hg hz c hc => supplyLost_opens hg (by rwa [hfio]) hc,
      keeps_comp hkeep hlost (by decide) (by decide)⟩
    exact (congrArg (fun p : Pwr => p.lost.testBit (8 + k)) hpwr).trans hbit
  case back =>
    refine ⟨{ s with emitted := [], pwr := { s.pwr with lost := setBit (8 + k) false s.pwr.lost, domains := setBit (8 + k) true s.pwr.domains } },
      ?_, testBit_setBit_self _ _ _, by simp [keeps_iff, noted]⟩
    show act _ s = _
    rw [act_live _ hd, only_true _ hl]
  case still =>
    have hsup : s.supplyIsOut k = true := by
      obtain ⟨hz, hb⟩ := hout (2 * k) (by simp [groupsOf])
      simp [State.supplyIsOut, groupsOf, hz, hb]
    obtain ⟨houts, hins⟩ := supplyLost_out (s := { s with emitted := [] }) (code := code) (fun g hg => (hout g hg).1)
    rw [exec_fieldSupplyOutOfRange hd hr hlo hhi, if_pos hsup]
    exact ⟨_, rfl, houts, hins, keeps_comp (keeps_cleared s) (keeps_supplyLost k code _) (by decide) (by decide)⟩
  case out =>
    have hlost := keeps_comp (c := noted ++ [.fio]) (keeps_cleared s) (keeps_supplyLost k code _) (by decide) (by decide)
    have htick := congrArg Frame.tick (keeps_same hlost (p := .frame) (by decide))
    obtain ⟨hev, houts, hkeep⟩ := supplyCounted_spec hk (supplyLost k code { s with emitted := [] })
    rw [exec_fieldSupplyOutOfRange hd hr hlo hhi, if_neg (by simp [hin])]
    refine ⟨_, rfl, occurred_tick htick hev, fun g hg hz c hc => ?_, keeps_trans hlost hkeep⟩
    rw [houts]
    exact supplyLost_opens (s := { s with emitted := [] }) hg hz hc
  case inRange => exact ⟨_, exec_fieldSupplyInRange hd hr hl ho, supplyReturned_spec hk s⟩

/-- The backplane supply: each event once, at the crossing of its threshold. -/
theorem backplaneSupplyEvents_holds : backplaneSupplyEvents := by
  intro s mv hd
  refine ⟨fun hm hl => ?_, fun hm hl => ?_, fun hm hh => ?_, fun hm hh => ?_, fun hlo hhi hx => ?_⟩
  · exact act_only_raise_pwr (by decide) (fun s => { s.pwr with mv := mv, low := true, high := false }) hd (by simp [hm, hl]) rfl
  · exact act_only_false _ hd (by simp [hl])
  · exact act_only_raise_pwr (by decide) (fun s => { s.pwr with mv := mv, high := true, low := false }) hd (by simp [hm, hh]) rfl
  · exact act_only_false _ hd (by simp [hh])
  · exact act_only_raise_pwr (by decide) (fun s => { s.pwr with mv := mv, low := false, high := false }) hd (by simp [hlo, hhi, hx]) rfl

/-- Settles O3: the field supplies by `supplyLost_opens`, `supplyLost_out` and `supplyReturned_spec`, the backplane supply by
`act_only_raise_pwr`. -/
theorem supplyEvents : Obligations.SupplyEvents := by
  unfold Obligations.SupplyEvents
  exact ⟨fieldSupplyEvents_holds, backplaneSupplyEvents_holds⟩

end Sys2Proof
end
